-- ==== Sys2Proof/Word.lean ====
section
/-! DEFINITION. The word types of the block and their plainest arithmetic. -/
namespace Sys2Proof

/-- One byte of a buffer, record or memory. -/
abbrev Byte := BitVec 8
/-- A 32-bit register word (R10). -/
abbrev Word := BitVec 32
/-- A 64-bit register word or a TIME64 value (R10). -/
abbrev DWord := BitVec 64
/-- A context number CTX_0 to CTX_7 (R66). -/
abbrev Ctx := BitVec 3
/-- The bits of an IEEE 754 binary32 number. -/
abbrev F32 := BitVec 32

end Sys2Proof
end

