-- ==== Sys2Proof/Syntax.lean ====
section
/-! DEFINITION. The commands of the block: one constructor per row of the opcode table, with its operands. -/
namespace Sys2Proof

/-- What a PTP message brings once the protocol engine has handled it (R90, R91): an offset measurement, local minus
reference, in signed ns; or what the announce messages and the best-master-clock algorithm decide. -/
inductive PtpMsg where
  | update (offset : DWord)
  | announce (selected grandmaster : Bool) (utc : BitVec 16) (utcValid : Bool)
deriving DecidableEq, Repr
/-- What makes a Chamber entry run (R114, R117). -/
inductive EntrySrc where
  | scan | feedback | angle
deriving DecidableEq, Repr

/-- What the Chamber die hands over at the end of a conversion: both codes and the analog flags (R117, R129). -/
structure ConvResult where
  hg : BitVec 20
  lg : BitVec 20
  hgClip : Bool := false
  lgClip : Bool := false
  complA : Bool := false
  complB : Bool := false
  retLoss : Bool := false
deriving DecidableEq, Repr

/-- What a fit of a calibration set gives: PATH_GAIN, PATH_OFS and both residuals (R133, R134). -/
structure CalResult where
  set : BitVec 3
  gain : Word
  ofs : Word
  misP : BitVec 16
  misN : BitVec 16
deriving DecidableEq, Repr

/-- What the converter's die finds in one supply-sense window (R145): the harmonics 2 to 50 of the three phases, binary32 percent of the
fundamental, and the phase sequence. -/
structure SsnsWindow where
  harm : List F32
  rotErr : Bool
deriving DecidableEq, Repr
/-- A message of the Lonievo alarm transport, its bytes as they arrive (R235). -/
abbrev NetMsg := List Byte
/-- The uplink of a cabin unit: STAT and its CRC-8, as received (R258). -/
structure CuReply where
  stat : Byte
  crc : Byte
deriving DecidableEq, Repr
/-- What a push-pull output is told: off, low, high, or PWM with its period and duty in 10 ns (R306, R307, R309). -/
inductive DoCmd where
  | off | low | high
  | pwm (per duty : Nat)
deriving DecidableEq, Repr
/-- What memory outside the model answers for a beat or a ring access: the bytes of a host read, a host access that fails, or an
uncorrectable ECC error (R428). -/
inductive MemAns where
  | data (bytes : List Byte)
  | hostFail
  | eccFail
deriving DecidableEq, Repr
/-- A CAN frame as received (R389): `errors` error frames went before it, and the sample point of its start-of-frame bit lies
`ago` ns back. -/
structure CanFrame where
  id : BitVec 29
  ide : Bool
  rtr : Bool
  fdf : Bool
  brs : Bool
  esi : Bool
  dlc : BitVec 4
  data : List Byte
  errors : Byte
  ago : BitVec 32
deriving DecidableEq, Repr
/-- What a ring frame carries (R374): a PTP message (an event message or not, with the ns from its ingress stamp to its egress stamp, should it
be forwarded, R377), a message of the alarm transport, an NV message, a management message, an ARP
or ICMP echo request for NET_IP, or anything else. -/
inductive RingKind where
  | ptp (event : Bool) (residence : BitVec 32)
  | alarm (msg : List Byte)
  | nv (msg : List Byte)
  | mgmt
  | request
  | other
deriving DecidableEq, Repr
/-- A frame of a ring port or of the service port (R373 to R376, R383): its addresses, the sequence number of its HSR tag or PRP trailer, its VLAN, whether its FCS holds,
what it carries, and its bytes. -/
structure RingFrame where
  dst : BitVec 48
  src : BitVec 48
  seq : Option (BitVec 16)
  vid : Option (BitVec 12)
  fcsOk : Bool
  kind : RingKind
  bytes : List Byte
deriving DecidableEq, Repr
/-- An NV message, its bytes as they arrive (R379). -/
abbrev NvMsg := List Byte
/-- A management message, its bytes as they arrive (R382). -/
abbrev MgmtMsg := List Byte
/-- The tags and codes of one Chamber sample (R117). -/
structure Sample where
  ch : Nat
  stamp : DWord
  value : Word
  hg : BitVec 20 := 0#20
  lg : BitVec 20 := 0#20
  range : Bool := false
  hgClip : Bool := false
  lgClip : Bool := false
  complA : Bool := false
  complB : Bool := false
  retLoss : Bool := false
  mismatch : Bool := false
  swapped : Bool := false
  servo : Bool := false
  oc : Bool := false
  src : BitVec 2 := 0#2
  angle : BitVec 12 := 0#12
  decim : BitVec 3 := 0#3
  gap : Bool := false
  seq : BitVec 16 := 0#16
  intype : Bool := false
  tap : BitVec 3 := 0#3
  /-- the range pair the conversion was made with, which selects LSB_TRIM (R168) -/
  pair : BitVec 2 := 0#2
  /-- the path gain and offset it was merged with, which the agreement check takes (R166) -/
  gain : Word := 0#32
  ofs : Word := 0#32
deriving DecidableEq, Repr
/-- A shadow sample (R451): the items of R117, the number that stage 2 starts from, LSB_TRIM, and the duty's stage-4 value and quality. -/
structure ShadowMsg where
  x : Sample
  raw : F32
  trim : F32
  value : F32
  qual : BitVec 4
deriving DecidableEq, Repr
/-- A running delay timer in a POINT record (R449): condition, direction, ms left. -/
structure MirTimer where
  k : BitVec 3
  on : Bool
  left : Word
deriving DecidableEq, Repr
/-- A POINT record (R449): the committed state, ms left of a shelf, CAUSE, source and STAMP of the change item if the commit issued
one, and the TIME64 of the commit. -/
structure MirPoint where
  index : BitVec 11
  st : BitVec 3
  prio : BitVec 2
  c : Byte
  a : Byte
  inst : Byte
  instTime : DWord
  sup : Bool
  shelf : Bool
  oos : Bool
  first : Bool
  value : F32
  qual : BitVec 4
  ref : Option (F32 × DWord)
  tmr : List MirTimer
  shelfLeft : Word
  item : Option (Byte × Byte × DWord)
  commit : DWord
deriving DecidableEq, Repr
/-- A mirror record (R449): of a point, of the command of a paired DO or AO, of a call with ms left of its stage, of the dead-man
counter with ms left, or of a loop slot. -/
inductive MirRec where
  | point (p : MirPoint)
  | dout (n : BitVec 5) (c : DoCmd)
  | aout (n : BitVec 4) (code : Option (BitVec 16))
  | call (n : Fin 17) (st : BitVec 2) (stage : BitVec 3) (targets : BitVec 64) (emrg : Bool) (left : Word)
  | deadMan (st : BitVec 2) (left : Word)
  | loop (slot : BitVec 6) (mode trips : BitVec 3) (out i sp : Word)
deriving DecidableEq, Repr
/-- A heartbeat (R443). -/
structure Heartbeat where
  role : Byte
  flags : Byte
  ack : Word
  evtSeq : Word
  session : Word
deriving DecidableEq, Repr
/-- A step of the standby's self-tests (R453): a Chamber's injection, a Flowstone write test, or a scrub pass over the DRAM with its
corrected and uncorrectable errors. -/
inductive SelfTest where
  | chamber (n : BitVec 3) (pass : Bool)
  | flow (pass : Bool)
  | dram (ce ue : Byte)
deriving DecidableEq, Repr

/-- The commands. -/
inductive Instr where
  | vinGood (meas : Word)
  | sramWipeDone
  | dramWipeDone
  | bootSafetyImageVerify
  | bootConfigLoad (outDeadline : BitVec 14) (writes : List (Word × Word)) (en : BitVec 45)
  | bootAppRelease
  | outputRelease
  | outDeadlineExpiry
  | supplyDip (meas : Word)
  | supplyDipClear (meas : Word)
  | supplyOver (meas : Word)
  | supplyOverClear (meas : Word)
  | supplyFail (meas : Word)
  | rideThroughRecovery (meas : Word)
  | rideThroughEnd
  | powerFailComplete
  | vholdExhausted (meas : Word)
  | holdReady (meas : Word)
  | holdFault (meas : Word)
  | pstateReqRun (ctx : Ctx)
  | pstateReqDoze (ctx : Ctx)
  | pstateReqSleep (ctx : Ctx)
  | powerStateTransitionDone
  | rstNLow
  | resetRelease
  | wdtTimeout
  | wdtKick (ctx : Ctx) (value : Word)
  | sysokKick (ctx : Ctx) (value : Word)
  | sysokKickTimeout
  | swReset (ctx : Ctx) (value : Word)
  | fenceInReset
  | deviceFault (code : BitVec 4) (line : BitVec 6) (write : Bool)
  | degrDeclare (ctx : Ctx)
  | degrHoldExpiry
  | pinnedGrantTimeout (line : BitVec 6) (write : Bool)
  | coreBusError (app : Bool) (addr : Word) (write : Bool)
  | bootConfirm (ctx : Ctx)
  | appHoldSet (ctx : Ctx)
  | appHoldRelease (ctx : Ctx)
  | appTrialVerifyDone
  | lcReqProvisioned (ctx : Ctx)
  | lcReqOperational (ctx : Ctx)
  | lcReqService (ctx : Ctx)
  | lcReqRetired (ctx : Ctx)
  | crossingArrival
  | registerWrite (ctx : Ctx) (addr : Word) (wide : Bool) (value : DWord)
  | narrowAccess (ctx : Ctx) (addr : Word) (write : Bool)
  | unmappedAccess (ctx : Ctx) (addr : Word) (write : Bool)
  | rcCounterRead (ctx : Ctx) (addr : Word) (wide : Bool)
  | applyCommit (ctx : Ctx) (unit : BitVec 8)
  | applyDiscard (ctx : Ctx) (unit : BitVec 8)
  | applyBadKey (ctx : Ctx) (unit : BitVec 8) (key : BitVec 8)
  | applyBoundary (unit : BitVec 8)
  | liveWrite (ctx : Ctx) (addr : Word) (value : Word)
  | liveSet (ctx : Ctx) (unit : BitVec 6)
  | liveClear (ctx : Ctx) (unit : BitVec 6)
  | blkEnable (ctx : Ctx) (unit : BitVec 6)
  | blkDisable (ctx : Ctx) (unit : BitVec 6)
  | softReset (ctx : Ctx) (unit : BitVec 6)
  | softResetDone (unit : BitVec 6)
  | freezeRequest (ctx : Ctx) (unit : BitVec 6)
  | freezeReached (unit : BitVec 6)
  | freezeClear (ctx : Ctx) (unit : BitVec 6)
  | ownerWrite (ctx : Ctx) (unit : BitVec 8) (value : Word)
  | ownerLock (ctx : Ctx) (unit : BitVec 8) (value : Word)
  | irqClrWrite (ctx : Ctx) (unit : BitVec 6) (value : Word)
  | xt32Fail
  | xt32Back
  | ptpTimeRead (ctx : Ctx) (wide : Bool)
  | ptpStep (ctx : Ctx) (time : DWord)
  | ptpMessageRx (msg : PtpMsg)
  | ptpLoss
  | ptpHoldoverExpiry
  | ppsInEdge
  | ppsInMiss
  | ppsOutPulse
  | ppsOutEnd
  | grottoSecondTick
  | timeSnapRead (ctx : Ctx)
  | calSetSec (ctx : Ctx) (value : Word)
  | calCommit
  | wdaySet (ctx : Ctx) (value : Word)
  | grottoColdStart
  | periodicWake
  | calendarAlarm
  | pwronOffReq (ctx : Ctx) (value : Word)
  | jrnlDataRead (ctx : Ctx)
  | jrnlDataWrite (ctx : Ctx) (value : Word)
  | scanGridPoint (chmb : BitVec 3)
  | entryStart (chmb : BitVec 3) (src : EntrySrc)
  | samplingStrobe (chmb : BitVec 3)
  | conversionDone (chmb : BitVec 3) (conv : ConvResult)
  | scanEntrySkip (chmb : BitVec 3)
  | fbStrobeList (chmb : BitVec 3)
  | tachoEdge (chmb di : BitVec 3) (stamp : DWord)
  | angleLockLost (chmb : BitVec 3)
  | calRun (ctx : Ctx) (chmb : BitVec 3)
  | chmbSelfCalDone (chmb : BitVec 3) (results : List CalResult)
  | calTrackUpdate (chmb : BitVec 3) (result : CalResult)
  | servoSettled (chmb : BitVec 3)
  | chmbSupplyFault (chmb : BitVec 3) (which : Fin 3)
  | chmbFaultClear (chmb : BitVec 3) (which : Fin 3)
  | ssnsSample (va vb vc vn : BitVec 20)
  | ssnsWindowEnd (w : SsnsWindow)
  | ssnsCycleEnd (mHz : BitVec 20) (phase : Bool)
  /-- the phases whose half cycle ends with the last sample -/
  | ssnsHalfCycle (a b c : Bool)
  | blackoutOn
  | blackoutOff
  | intgSampleAccept
  | sampleResolve (ch : BitVec 9)
  | confWinDeadline (ch : BitVec 9)
  | noiseRun (ctx : Ctx) (value : Word)
  | noiseDone
  | pvSel (ctx : Ctx) (x : BitVec 3) (value : Word)
  | chSel (ctx : Ctx) (value : Word)
  | linDataAccess (ctx : Ctx) (write : Bool) (value : Word)
  | galItemArrival
  | galReady (p : BitVec 11)
  | galEvaluate
  | galEvaluationCommit (p : BitVec 11)
  | galResolution (p : BitVec 11)
  | galDelayExpiry (p : BitVec 11) (k : BitVec 3)
  | shelfExpiry (p : BitVec 11)
  | galVerdict (p : BitVec 11)
  | galVerdictTimeout (p : BitVec 11)
  | galSupChange
  | ackPoint (x : Ctx) (ctx : Ctx) (value : Word)
  | ackGroup (x : Ctx) (ctx : Ctx) (value : Word)
  | ackAll (x : Ctx) (ctx : Ctx) (value : Word)
  | shelve (x : Ctx) (ctx : Ctx) (value : Word)
  | unshelve (x : Ctx) (ctx : Ctx) (value : Word)
  | oosSet (x : Ctx) (ctx : Ctx) (value : Word)
  | oosClr (x : Ctx) (ctx : Ctx) (value : Word)
  | softWrite (x : Ctx) (ctx : Ctx) (value : Word)
  | cmdUnknown (x : Ctx) (ctx : Ctx) (value : Word)
  | statSel (x : Ctx) (ctx : Ctx) (value : Word)
  | statTReadAutoinc (x : Ctx) (ctx : Ctx)
  | galDescriptorEffect (p : BitVec 11)
  | descRegionWrite (ctx : Ctx) (word : BitVec 15) (value : Word)
  | dryRunStart (ctx : Ctx) (slot : BitVec 4) (value : Word)
  | dryRunEnd (ctx : Ctx) (slot : BitVec 4) (value : Word)
  | grpIngestRecord
  | causeHoldExpiry (cause : BitVec 23)
  | foWindowClose (group : BitVec 16)
  | grpVerdictRequest
  | pointChgRx (msg : NetMsg)
  | groupFoRx (msg : NetMsg)
  | netAckRx (msg : NetMsg)
  | syncReqRx (msg : NetMsg)
  | syncDataRx (msg : NetMsg)
  | syncEndRx (msg : NetMsg)
  | nodeHbRx (msg : NetMsg)
  | claimRx (msg : NetMsg)
  | yieldRx (msg : NetMsg)
  | lonievoSend
  | nodeHbSend
  | syncReqRetry
  | syncSnapshotSend
  | nodeLost (node : BitVec 12)
  | syncTmoExpiry
  | masterClaimWaitExpiry
  | masterYield (ctx : Ctx)
  | masterRejoin (ctx : Ctx)
  | masterResync (ctx : Ctx)
  | nackAckPoint (x : Ctx) (ctx : Ctx) (value : Word)
  | nackAckGroup (x : Ctx) (ctx : Ctx) (value : Word)
  | causeDataAccess (ctx : Ctx) (write : Bool) (value : Word)
  | graphRegionWrite (ctx : Ctx) (edge : BitVec 24) (value : Word)
  | mirrorWriteAttempt (ctx : Ctx) (word : BitVec 24) (value : Word)
  | grpRebuildDone
  | grpSel (ctx : Ctx) (value : Word)
  | nodeSel (ctx : Ctx) (value : Word)
  | lsupSel (ctx : Ctx) (value : Word)
  | echoItem
  | echoGroupTerm
  | echoStageEnd (call : Fin 17)
  | callFrameStart
  | callReply (loop : BitVec 1) (reply : Option CuReply)
  | callLineOpen (loop : BitVec 1)
  | callLineShort (loop : BitVec 1)
  | callLineRetry (loop : BitVec 1)
  | callLineOk (loop : BitVec 1)
  | dmPrewarn
  | dmExpiry
  | echoAccept (x : Ctx) (ctx : Ctx) (value : Word)
  | dmResetCmd (x : Ctx) (ctx : Ctx) (value : Word)
  | dmArmCmd (x : Ctx) (ctx : Ctx) (value : Word)
  | dmDisarmCmd (x : Ctx) (ctx : Ctx) (value : Word)
  | testCu (x : Ctx) (ctx : Ctx) (value : Word)
  | testCuEnd (unit : BitVec 6)
  | ecmdUnknown (x : Ctx) (ctx : Ctx) (value : Word)
  | loopFrameStart
  | loopFbArrival (slot : BitVec 6)
  | loopSlotExecute (slot : BitVec 6)
  | loopFbDeadline (slot : BitVec 6)
  | loopFbResolution (slot : BitVec 6)
  | loopOutputLatch (slot : BitVec 6)
  | loopCmdAuto (ctx : Ctx) (slot : BitVec 6)
  | loopCmdManual (ctx : Ctx) (slot : BitVec 6)
  | loopCmdTripClr (ctx : Ctx) (slot : BitVec 6)
  | gainTableWrite (ctx : Ctx) (word : BitVec 16) (value : Word)
  | nvMessageSend
  | diFilteredChange (di : BitVec 6) (millivolts : BitVec 16) (stamp : DWord)
  | diWireBreak (di : BitVec 6) (stamp : DWord)
  | diWireBreakClear (di : BitVec 6) (stamp : DWord)
  | diCounterEdge (di : BitVec 3) (rising : Bool) (stamp : DWord)
  | diGateEnd (di : BitVec 3)
  | diWake (di : BitVec 3)
  | doPwmPeriodEnd (o : BitVec 5)
  | doLevelWrite (ctx : Ctx) (value : Word)
  | aoSetWrite (ctx : Ctx) (ao : BitVec 4) (value : Word)
  | doReadbackError (o : BitVec 5)
  | doReadbackOk (o : BitVec 5)
  | doProtectTrip (o : BitVec 5) (therm : Bool)
  | doFaultClear (ctx : Ctx) (o : BitVec 5) (value : Word)
  | doAutoretry (o : BitVec 5)
  | doOpenLoad (o : BitVec 5)
  | doOpenLoadClear (o : BitVec 5)
  | fioSupplyFault (bank : Fin 6)
  | fioSupplyFaultClear (bank : Fin 6)
  | aoFault (ao : BitVec 4) (short : Bool)
  | aoFaultClear (ao : BitVec 4)
  | forceLockTake (ctx : Ctx) (value : Word)
  | forceLockRelease (ctx : Ctx) (value : Word)
  | forceLockExpiry
  | doForceWrite (ctx : Ctx) (o : BitVec 5) (value : Word)
  | aoForceWrite (ctx : Ctx) (ao : BitVec 4) (value : Word)
  | lantFrameBoundary
  | lantUpdate (ctx : Ctx) (value : Word)
  | lantUpdateAll (ctx : Ctx) (value : Word)
  | atDataWrite (ctx : Ctx) (value : Word)
  | fsDataWrite (ctx : Ctx) (value : Word)
  | bistUpdateStart (region : BitVec 5)
  | bistPhaseEnd (region : BitVec 5)
  | bistRegCmdGo (ctx : Ctx) (region : BitVec 5) (value : Word)
  | wfDataWrite (ctx : Ctx) (value : Word)
  | bistRecoveryStart
  | bistRecoveryDone
  | bistStaleClear
  | flowRecordIn
  | flowRecordWrite
  | flowBlockErase
  | flowRecovery
  | flowRegionWrite (ctx : Ctx) (addr : BitVec 27) (value : Word)
  | snapTake (x : Ctx) (ctx : Ctx)
  | snapRelease (x : Ctx) (ctx : Ctx) (exported : Bool)
  | snapCurWrite (x : Ctx) (ctx : Ctx) (value : DWord)
  | clrNonce (ctx : Ctx)
  | clrNonceExpiry
  | clrGo (ctx : Ctx)
  | clearDone
  | ringLinkUp (port : BitVec 1)
  | ringLinkDown (port : BitVec 1)
  | ringFrameRx (port : Fin 3) (frame : RingFrame)
  | hsrSupervisionSend
  | nvMessageRx (msg : NvMsg)
  | nvStale (nv : BitVec 8)
  | nvValueWrite (ctx : Ctx) (nv : BitVec 8) (value : Word)
  | mgmtHello (svc : Bool) (peer : BitVec 48)
  | mgmtRead (svc : Bool) (peer : BitVec 48) (msg : MgmtMsg)
  | mgmtWrite (svc : Bool) (peer : BitVec 48) (msg : MgmtMsg)
  | mgmtNotify
  | t1sPresentSend
  | t1sPresentRx (plca : BitVec 4)
  | t1sAbsent (plca : BitVec 4)
  | t1sWakeSend (ctx : Ctx) (value : Word)
  | t1sWakeRx (mask : BitVec 16) (code : Word)
  | canFrameRx (n : Fin 6) (frame : CanFrame)
  | canFrameTxDone (n : Fin 6) (errors : Byte) (ago : BitVec 32)
  | canBusOff (n : Fin 6)
  | canBusOffRecovery (n : Fin 6)
  | canRestart (ctx : Ctx) (n : Fin 6)
  | serRawRecord (n : Fin 6) (bytes : List Byte) (lineErr : Bool) (ago : BitVec 32)
  | serSentence (n : Fin 6) (bytes : List Byte) (parity framing : Bool) (ago : BitVec 32)
  | serTxDone (n : Fin 6) (ago : BitVec 32)
  | spiTransferDone (q : BitVec 6) (rx : List Byte)
  | pmbTransactionDone (q : BitVec 6) (rx : List Byte) (nack pecOk : Bool)
  | pmbTimeout (q : BitVec 6)
  | pmbAlert (level : Bool)
  | hostLinkLoss (port : BitVec 2)
  | hostLinkUp (port : BitVec 2)
  | hostWindowAccess (ctx : Ctx) (addr : DWord) (write : Bool) (size : BitVec 4) (value : DWord)
  | qspiWrite (port : BitVec 1) (addr : BitVec 40) (bytes : List Byte)
  | qspiRead (port : BitVec 1) (addr : BitVec 40) (n : Nat)
  | qspiStatus (port : BitVec 1)
  | qspiUnknownOpcode (port : BitVec 1) (op : Byte)
  | qTailWrite (ctx : Ctx) (q : BitVec 6) (value : Word)
  | qHeadWrite (ctx : Ctx) (q : BitVec 6) (value : Word)
  | dmaDescriptorStart (q : BitVec 6) (ring : MemAns)
  | dmaBeat (q : BitVec 6) (ans : MemAns)
  | dmaDescriptorDone (q : BitVec 6)
  | qResume (ctx : Ctx) (q : BitVec 6)
  | qSkip (ctx : Ctx) (q : BitVec 6)
  | qStop (ctx : Ctx) (q : BitVec 6)
  | eventEntryWrite (ctx : Ctx)
  | agePromotion (q : BitVec 6)
  | invIova (ctx : Ctx) (value : Word)
  | invDomain (ctx : Ctx) (value : Word)
  | invAll (ctx : Ctx)
  | invDone
  | pinLock (ctx : Ctx) (value : Word)
  | ropeHeartbeatSend
  | ropeHeartbeatRx (crcOk : Bool) (hb : Heartbeat)
  | ropeHbMiss
  | ropeInitTimeout
  | ropeDaWindowEnd
  | ropeFenceTestPulse
  | ropeFenceSeen
  | ropeLinkUp
  | ropeLinkDown
  | ropeMirrorSend
  | ropeMirrorRx (crcOk : Bool) (mseq : Word) (recs : List MirRec)
  | ropeMirrorResend
  | ropeSnapRx (crcOk : Bool) (mseq : Word) (recs : List MirRec)
  | ropeShadowSend
  | ropeShadowRx (crcOk : Bool) (msg : ShadowMsg)
  | ropeHealthSend
  | ropeHealthRx (crcOk : Bool) (bytes : List Byte)
  | ropeSelftestCycle (step : SelfTest)
  | ropeHandover (ctx : Ctx)
  | ropeFenceCmd (ctx : Ctx)
  | ropeResync (ctx : Ctx)
  | chmbRefCheck (ctx : Ctx) (chmb : BitVec 3)
  | chmbSrcCheck (ctx : Ctx) (chmb : BitVec 3)
  | ssnsRefCheck (ctx : Ctx)
  | intgStoreScrub (ctx : Ctx)
  | galDescScan (ctx : Ctx)
  | grpGraphScan (ctx : Ctx)
  | echoLineCheck (ctx : Ctx)
  | loopArith (ctx : Ctx)
  | fioWbCheck (ctx : Ctx)
  | lantLamp (ctx : Ctx)
  | bistSweep (ctx : Ctx)
  | flowWriteTest (ctx : Ctx)
  | netPhyLoop (ctx : Ctx)
  | ropeFenceTest (ctx : Ctx)
  | blockTestDone (unit : BitVec 6) (pass : Bool)
  | injTimeExpiry
  | dbgAttach (app : Bool)
  | vcolFault (ok : Bool)
  | driveFault (level : Bool)
  | svcLinkChange (up : Bool)
  | appHalt (halt : Bool)
  | dbgDetach
deriving DecidableEq, Repr

end Sys2Proof
end

