-- ==== Sys2Proof/Decode.lean ====
section
/-! DEFINITION. The command that a word spells. The opcode table gives no bits to any of its rows: the spec's commands are register
accesses, messages and events on pins, not encoded words. So no word spells a command. -/
namespace Sys2Proof

/-- The command that a word of the table spells: none, since no row has bits. -/
def decodeTableWord (_nbits _w : Nat) : Option Instr := none

end Sys2Proof
end

