-- ==== Sys2Proof/Machine/Table.lean ====
section
/-! DEFINITION. Sparse tables and byte memory: key and value pairs with strictly rising keys and no entry
equal to the value an unlisted key reads as, so that equal contents are equal data. -/
namespace Sys2Proof.Machine

/-- A sparse table from numbers to values; the canonical form is `tabWf`. -/
abbrev Tbl (α : Type) := List (Nat × α)

/-- The value at a key; `d` is what an unlisted key reads as. -/
def tget {α : Type} (t : Tbl α) (k : Nat) (d : α) : α :=
  match t with
  | [] => d
  | (k', v) :: r => if k = k' then v else tget r k d

/-- Put an entry before the first one with a greater key. -/
def tput {α : Type} (t : Tbl α) (k : Nat) (v : α) : Tbl α :=
  match t with
  | [] => [(k, v)]
  | (k', v') :: r => if k < k' then (k, v) :: (k', v') :: r else (k', v') :: tput r k v

/-- Put `v` at `k`: what stood there goes, and a value equal to the default is not listed. -/
def tset {α : Type} [DecidableEq α] (t : Tbl α) (k : Nat) (v d : α) : Tbl α :=
  let r := t.filter (fun e => !decide (e.1 = k))
  if v = d then r else tput r k v

/-- Every key of the table is above `lo` and the keys rise strictly; no value is the default. -/
def tabWfAbove {α : Type} [DecidableEq α] (d : α) (lo : Option Nat) (t : Tbl α) : Bool :=
  match t with
  | [] => true
  | (k, v) :: r =>
    (match lo with | none => true | some l => decide (l < k)) && decide (v ≠ d) && tabWfAbove d (some k) r

/-- The canonical form of a table with default `d`. -/
def tabWf {α : Type} [DecidableEq α] (d : α) (t : Tbl α) : Bool := tabWfAbove d none t

/-- The table without the keys in `lo ≤ k < hi`. -/
def tclear {α : Type} (t : Tbl α) (lo hi : Nat) : Tbl α := t.filter (fun e => !(decide (lo ≤ e.1) && decide (e.1 < hi)))

/-- The table without the keys that `p` picks. -/
def tdrop {α : Type} (t : Tbl α) (p : Nat → Bool) : Tbl α := t.filter (fun e => !p e.1)

/-- What a byte of memory that nothing has written reads as: zero, which is also what a wipe leaves (R60; log entry 3). -/
def memDefault : Byte := 0#8

/-- One byte of memory. -/
def mget (m : List Host.Cell) (a : Nat) : Byte := tget m a memDefault

/-- Store one byte. -/
def mset (m : List Host.Cell) (a : Nat) (b : Byte) : List Host.Cell := tset m a b memDefault

/-- The canonical form of memory. -/
def Memory.wf (m : List Host.Cell) : Bool := tabWf memDefault m

/-- `n` bytes from address `a` as a little-endian number (Conventions: multi-byte values are little-endian). -/
def mgetLE (m : List Host.Cell) (a : Nat) : Nat → Nat
  | 0 => 0
  | n + 1 => (mget m a).toNat + 256 * mgetLE m (a + 1) n

/-- Store the low `n` bytes of `v` little-endian from address `a`. -/
def msetLE (m : List Host.Cell) (a : Nat) : Nat → Nat → List Host.Cell
  | 0, _ => m
  | n + 1, v => msetLE (mset m a (BitVec.ofNat 8 v)) (a + 1) n (v / 256)

/-- `n` bytes from address `a`. -/
def mgetBytes (m : List Host.Cell) (a : Nat) : Nat → List Byte
  | 0 => []
  | n + 1 => mget m a :: mgetBytes m (a + 1) n

/-- Store bytes from address `a`. -/
def msetBytes (m : List Host.Cell) (a : Nat) : List Byte → List Host.Cell
  | [] => m
  | b :: r => msetBytes (mset m a b) (a + 1) r

/-- Set the addresses `lo ≤ a < hi` to zero (R60: a wipe sets the memory to zero). -/
def mwipe (m : List Host.Cell) (lo hi : Nat) : List Host.Cell := tclear m lo hi

/-- Bits `[hi:lo]` of a number. -/
def bitsOf (v hi lo : Nat) : Nat := (v / 2 ^ lo) % 2 ^ (hi + 1 - lo)

/-- Field `[hi:lo]` of a register word. -/
def fld (w : Word) (hi lo : Nat) : Nat := bitsOf w.toNat hi lo

/-- Bit `i` of a register word. -/
def bit (w : Word) (i : Nat) : Bool := w.getLsbD i

/-- `b` as a number. -/
def b2n (b : Bool) : Nat := if b then 1 else 0

/-- A word from `b` at bit `i`. -/
def bitw (b : Bool) (i : Nat) : Word := if b then BitVec.ofNat 32 (2 ^ i) else 0#32

/-- Replace the bits of `old` selected by `mask` with those of `new`. -/
def maskMerge (mask old new : Word) : Word := (old &&& ~~~mask) ||| (new &&& mask)

/-- A number of `n` bits read as a two's-complement integer. -/
def sext (n v : Nat) : Int := if v % 2 ^ n < 2 ^ (n - 1) then ((v % 2 ^ n : Nat) : Int) else ((v % 2 ^ n : Nat) : Int) - (2 ^ n : Nat)

/-- An integer narrowed to `n` bits. -/
def narrow (n : Nat) (i : Int) : Nat := (i % (2 ^ n : Nat)).toNat

/-- Increase a saturating counter of `n` bits. -/
def satInc (n v : Nat) : Nat := if v + 1 < 2 ^ n then v + 1 else 2 ^ n - 1

end Sys2Proof.Machine
end

