-- ==== Sys2Proof/Machine/Float.lean ====
section
/-! DEFINITION. IEEE 754 binary32 with round-to-nearest-even, computed exactly on integers in units of 2^-149 and rounded once
(R168, R172, R177). A NaN result is the quiet NaN 0x7FC0_0000; no rule shows its payload (log entry 11). -/
namespace Sys2Proof.Machine

def f32NaN : F32 := 0x7FC00000#32
def f32Inf (neg : Bool) : F32 := if neg then 0xFF800000#32 else 0x7F800000#32
def f32Neg (a : F32) : Bool := a.getLsbD 31
def f32IsNaN (a : F32) : Bool := decide (0x7F800000 < a.toNat % 0x80000000)
def f32IsInf (a : F32) : Bool := decide (a.toNat % 0x80000000 = 0x7F800000)
def f32Finite (a : F32) : Bool := decide (a.toNat % 0x80000000 < 0x7F800000)
def f32IsZero (a : F32) : Bool := decide (a.toNat % 0x80000000 = 0)

/-- A finite number in units of 2^-149. -/
def f32Int (a : F32) : Int :=
  let m := a.toNat % 0x80000000
  let e := m / 0x800000
  let v : Nat := if e = 0 then m else (m % 0x800000 + 0x800000) * 2 ^ (e - 1)
  if f32Neg a then -(v : Int) else (v : Int)

/-- An order key: finite numbers by value, the infinities beyond them. -/
def f32Key (a : F32) : Int := if f32IsInf a then (if f32Neg a then -(2 ^ 300 : Nat) else (2 ^ 300 : Nat)) else f32Int a

def f32Lt (a b : F32) : Bool := !f32IsNaN a && !f32IsNaN b && decide (f32Key a < f32Key b)
def f32Le (a b : F32) : Bool := !f32IsNaN a && !f32IsNaN b && decide (f32Key a ≤ f32Key b)

/-- A magnitude divided by 2^k, rounded half to even. -/
def shiftRne (m k : Nat) : Nat :=
  let q := m / 2 ^ k
  let r := m % 2 ^ k
  let h := 2 ^ k
  if 2 * r < h ∨ (2 * r = h ∧ q % 2 = 0) then q else q + 1

/-- The binary32 number nearest to (-1)^neg · m · 2^-k, ties to even, with overflow to infinity. -/
def f32Round (neg : Bool) (m k : Nat) : F32 :=
  let mag : Nat :=
    if m = 0 then 0 else
    let e : Int := (Nat.log2 m : Int) - (k : Int)
    let q : Int := if e < -126 then -149 else e - 23
    let sh : Int := (k : Int) + q
    let r : Nat := if 0 ≤ sh then shiftRne m sh.toNat else m * 2 ^ (-sh).toNat
    if e < -126 then r else ((e + 126).toNat) * 0x800000 + r
  let mag := if 0x7F800000 ≤ mag then 0x7F800000 else mag
  BitVec.ofNat 32 (mag + (if neg then 0x80000000 else 0))

/-- A signed integer times 2^-k; an exact zero takes the sign given. -/
def f32RoundInt (i : Int) (k : Nat) (zeroNeg : Bool) : F32 :=
  if i = 0 then (if zeroNeg then 0x80000000#32 else 0#32) else f32Round (decide (i < 0)) i.natAbs k

def f32Add (a b : F32) : F32 :=
  if f32IsNaN a || f32IsNaN b then f32NaN
  else if f32IsInf a then (if f32IsInf b && f32Neg a != f32Neg b then f32NaN else a)
  else if f32IsInf b then b
  else f32RoundInt (f32Int a + f32Int b) 149 (f32Neg a && f32Neg b)

def f32NegOf (a : F32) : F32 := a ^^^ 0x80000000#32
def f32Sub (a b : F32) : F32 := f32Add a (f32NegOf b)

def f32Mul (a b : F32) : F32 :=
  let neg := f32Neg a != f32Neg b
  if f32IsNaN a || f32IsNaN b then f32NaN
  else if f32IsInf a || f32IsInf b then (if f32IsZero a || f32IsZero b then f32NaN else f32Inf neg)
  else f32RoundInt (f32Int a * f32Int b) 298 neg

/-- a × b + c, rounded once. -/
def f32Fma (a b c : F32) : F32 :=
  let neg := f32Neg a != f32Neg b
  if f32IsNaN a || f32IsNaN b || f32IsNaN c then f32NaN
  else if f32IsInf a || f32IsInf b then
    (if f32IsZero a || f32IsZero b then f32NaN else if f32IsInf c && f32Neg c != neg then f32NaN else f32Inf neg)
  else if f32IsInf c then c
  else f32RoundInt (f32Int a * f32Int b + f32Int c * (2 ^ 149 : Nat)) 298 (neg && f32Neg c)

/-- num / den · 2^-k rounded once: the quotient is taken with 64 or more extra bits and a sticky bit. -/
def f32RoundRat (num : Int) (den k extra : Nat) (zeroNeg : Bool) : F32 :=
  let n := num.natAbs * 2 ^ extra
  let q := 2 * (n / den) + (if n % den = 0 then 0 else 1)
  if num = 0 then (if zeroNeg then 0x80000000#32 else 0#32) else f32Round (decide (num < 0)) q (k + extra + 1)

def f32Div (a b : F32) : F32 :=
  let neg := f32Neg a != f32Neg b
  if f32IsNaN a || f32IsNaN b then f32NaN
  else if f32IsInf a then (if f32IsInf b then f32NaN else f32Inf neg)
  else if f32IsInf b then (if neg then 0x80000000#32 else 0#32)
  else if f32IsZero b then (if f32IsZero a then f32NaN else f32Inf neg)
  else
    let num : Int := if neg then -((f32Int a).natAbs : Int) else ((f32Int a).natAbs : Int)
    f32RoundRat num (f32Int b).natAbs 0 400 neg

/-- The integer part of the `k`-th root of `v`, digit by digit over `n` binary digits. -/
def iroot (k : Nat) : Nat → Nat → Nat
  | 0, _ => 0
  | n + 1, v =>
    let r := 2 * iroot k n (v / 2 ^ k)
    if (r + 1) ^ k ≤ v then r + 1 else r

/-- The binary32 number nearest to the square root of num / den times 2^-k: the root is taken with 64 extra bits and a sticky bit. -/
def f32Sqrt (num den k : Nat) : F32 :=
  let v := num * 2 ^ 128 / den
  let q := iroot 2 (Nat.log2 v / 2 + 1) v
  f32Round false (2 * q + (if q * q * den = num * 2 ^ 128 then 0 else 1)) (k + 65)

/-- An integer as binary32. -/
def f32OfInt (i : Int) : F32 := f32RoundInt i 0 false

/-- y × 2^frac rounded half to even and saturated to signed 32 bits (R177); `y` is finite. -/
def f32ToFx (y : F32) (frac : Nat) : Int :=
  let i := f32Int y
  let r : Nat := shiftRne (i.natAbs * 2 ^ frac) 149
  let v : Int := if i < 0 then -(r : Int) else (r : Int)
  if v < -0x80000000 then -0x80000000 else if 0x7FFFFFFF < v then 0x7FFFFFFF else v

end Sys2Proof.Machine
end

