-- ==== Sys2Proof/Machine/Crypto.lean ====
section
/-! DEFINITION. The standard functions the spec names without defining: SHA-256, HMAC-SHA-256, ECDSA P-256
verification (R53, R61, R364, R381) and CRC-32C. Their bodies are taken from their public
standards (PRESUMED, log entry 4). -/
namespace Sys2Proof.Machine

/-- The first 64 primes. -/
def shaPrimes : List Nat :=
  (List.range 312).filter (fun p => decide (2 ≤ p) && (List.range 18).all (fun d => decide (d < 2) || decide (p ≤ d) || decide (p % d ≠ 0)))

/-- The first 32 bits of the fractional part of the `k`-th root of a number. -/
def rootFraction (k p : Nat) : Word := BitVec.ofNat 32 (iroot k 37 (p * 2 ^ (32 * k)))

/-- The word a big-endian list of bytes spells. -/
def beNat (bs : List Byte) : Nat := bs.foldl (fun n b => 256 * n + b.toNat) 0

/-- `n` big-endian bytes of a number. -/
def natBE : Nat → Nat → List Byte
  | 0, _ => []
  | n + 1, v => natBE n (v / 256) ++ [BitVec.ofNat 8 v]

/-- The exclusive or of several rotations of a word to the right. -/
def rotations (x : Word) (amounts : List Nat) : Word := amounts.foldl (fun r n => r ^^^ x.rotateRight n) 0#32

/-- What follows sixteen message words in the message schedule. -/
def shaFollow (w : List Word) : Word :=
  let x := w.getD 1 0
  let y := w.getD 14 0
  w.getD 0 0 + w.getD 9 0 + (rotations x [7, 18] ^^^ (x >>> 3)) + (rotations y [17, 19] ^^^ (y >>> 10))

/-- The eight working words `v` after a round whose constant and message word add up to `x`. -/
def shaStep (v : List Word) (x : Word) : List Word :=
  let word (i : Nat) : Word := v.getD i 0
  let t := x + word 7 + rotations (word 4) [6, 11, 25] + (word 6 ^^^ (word 4 &&& (word 5 ^^^ word 6)))
  let m := (word 0 &&& word 1) ||| (word 2 &&& (word 0 ||| word 1))
  (t + m + rotations (word 0) [2, 13, 22]) :: v.take 3 ++ (word 3 + t) :: (v.drop 4).take 3

/-- The rounds over the primes that are left, with the next sixteen message words in a window that slides with them. -/
def shaRun : List Nat → List Word → List Word → List Word
  | [], _, v => v
  | p :: ps, w, v => shaRun ps (w.drop 1 ++ [shaFollow w]) (shaStep v (rootFraction 3 p + w.getD 0 0))

/-- The chaining words after the blocks of a padded message, `n` of them. -/
def shaChain : Nat → List Byte → List Word → List Word
  | 0, _, v => v
  | n + 1, m, v =>
    let w := (List.range 16).map (fun i => BitVec.ofNat 32 (beNat ((m.drop (4 * i)).take 4)))
    shaChain n (m.drop 64) (List.zipWith (· + ·) v (shaRun shaPrimes w v))

/-- SHA-256 of a message: 32 bytes. -/
def sha256 (msg : List Byte) : List Byte :=
  let m := msg ++ 0x80#8 :: List.replicate ((119 - msg.length % 64) % 64) 0#8 ++ natBE 8 (8 * msg.length)
  (shaChain (m.length / 64) m ((shaPrimes.take 8).map (rootFraction 2))).flatMap (fun x => natBE 4 x.toNat)

/-- HMAC-SHA-256 with a key of at most 64 bytes. -/
def hmacSha256 (key msg : List Byte) : List Byte :=
  let k := key ++ List.replicate (64 - key.length) 0#8
  sha256 (k.map (· ^^^ 0x5c#8) ++ sha256 (k.map (· ^^^ 0x36#8) ++ msg))

/-- The field prime of P-256. -/
def p256P : Nat := 0xffffffff00000001000000000000000000000000ffffffffffffffffffffffff
/-- The group order of P-256. -/
def p256N : Nat := 0xffffffff00000000ffffffffffffffffbce6faada7179e84f3b9cac2fc632551
/-- The curve constant of P-256. -/
def p256B : Nat := 0x5ac635d8aa3a93e7b3ebbd55769886bc651d06b0cc53b0f63bce3c3e27d2604b
/-- The base point of P-256. -/
def p256G : Nat × Nat :=
  (0x6b17d1f2e12c4247f8bce6e563a440f277037d812deb33a0f4a13945d898c296,
   0x4fe342e2fe1a7f9b8ee7eb4a7c0f9e162bce33576b315ececbb6406837bf51f5)

/-- `b ^ e mod m` over the low `n` bits of `e`. -/
def powMod (m : Nat) : Nat → Nat → Nat → Nat
  | 0, _, _ => 1
  | n + 1, b, e =>
    let r := powMod m n (b * b % m) (e / 2)
    if e % 2 = 1 then b * r % m else r

/-- The inverse modulo a prime. -/
def invMod (m a : Nat) : Nat := powMod m 256 (a % m) (m - 2)

/-- A point in Jacobian coordinates; `z = 0` is the point at infinity. -/
structure JPoint where
  x : Nat
  y : Nat
  z : Nat
deriving DecidableEq, Repr

/-- Difference modulo the field prime. -/
def fsub (a b : Nat) : Nat := (a + p256P - b % p256P) % p256P

/-- Doubling on P-256. -/
def jdouble (p : JPoint) : JPoint :=
  if p.z = 0 ∨ p.y = 0 then ⟨1, 1, 0⟩ else
  let zz := p.z * p.z % p256P
  let m := 3 * (fsub p.x zz) * (p.x + zz) % p256P
  let yy := p.y * p.y % p256P
  let s := 4 * p.x * yy % p256P
  let x := fsub (m * m) (2 * s)
  ⟨x, fsub (m * fsub s x) (8 * yy * yy), 2 * p.y * p.z % p256P⟩

/-- Addition on P-256. -/
def jadd (p q : JPoint) : JPoint :=
  if p.z = 0 then q else if q.z = 0 then p else
  let z1 := p.z * p.z % p256P
  let z2 := q.z * q.z % p256P
  let u1 := p.x * z2 % p256P
  let u2 := q.x * z1 % p256P
  let s1 := p.y * q.z * z2 % p256P
  let s2 := q.y * p.z * z1 % p256P
  if u1 = u2 then (if s1 = s2 then jdouble p else ⟨1, 1, 0⟩) else
  let h := fsub u2 u1
  let r := fsub s2 s1
  let hh := h * h % p256P
  let hhh := h * hh % p256P
  let v := u1 * hh % p256P
  let x := fsub (fsub (r * r) hhh) (2 * v)
  ⟨x, fsub (r * fsub v x) (s1 * hhh), h * p.z * q.z % p256P⟩

/-- `k · p` over the low `n` bits of `k`. -/
def jmul : Nat → Nat → JPoint → JPoint
  | 0, _, _ => ⟨1, 1, 0⟩
  | n + 1, k, p =>
    let r := jdouble (jmul n (k / 2) p)
    if k % 2 = 1 then jadd r p else r

/-- ECDSA P-256: does `(r, s)` sign the 32-byte digest under the public key `(x, y)`? -/
def ecdsaOk (digest : List Byte) (r s x y : Nat) : Bool :=
  let z := beNat digest
  let w := invMod p256N s
  let pt := jadd (jmul 256 (z * w % p256N) ⟨p256G.1, p256G.2, 1⟩) (jmul 256 (r * w % p256N) ⟨x, y, 1⟩)
  let zi := invMod p256P pt.z
  decide (1 ≤ r) && decide (r < p256N) && decide (1 ≤ s) && decide (s < p256N) &&
  decide (x < p256P) && decide (y < p256P) &&
  decide (y * y % p256P = (fsub (x * x * x) (3 * x) + p256B) % p256P) &&
  decide (pt.z ≠ 0) && decide (pt.x * (zi * zi % p256P) % p256P % p256N = r)

/-- One step of a reflected CRC over one bit. -/
def crcBits (poly : Nat) : Nat → Nat → Nat
  | 0, c => c
  | n + 1, c => crcBits poly n (if c % 2 = 1 then (c / 2).xor poly else c / 2)

/-- CRC-32C (Castagnoli) of a list of bytes. -/
def crc32c (bs : List Byte) : Nat :=
  (bs.foldl (fun c b => crcBits 0x82F63B78 8 (c.xor b.toNat)) 0xFFFFFFFF).xor 0xFFFFFFFF

end Sys2Proof.Machine
end

