-- ==== Sys2Proof/Config.lean ====
section
/-! DEFINITION. What the spec leaves open: the free values and the constants an implementation fixes.
None has a body, so no proof can lean on a value of one. Each is applied to a plain counter of State
(`State.fresh`) or to the operands it depends on; log entry 1 names them all. -/
namespace Sys2Proof.Config

/-- A fresh 32-bit value that the spec leaves open (log entry 1). -/
opaque freeWord : Nat → Word
/-- A byte of the backup SRAM of a Grotto that starts with no supply before (R102; log entry 1). -/
opaque freeByte : Nat → Byte
/-- A fresh 128-bit random draw: LC_NONCE, CLR_NONCE, a management session nonce (R61, R364, R381; log entry 1). -/
opaque freeNonce : Nat → BitVec 128
/-- Implementation-defined minor and major revision of a page, by block type code (R68, BLK_VER is "page"; log entry 2). -/
opaque blkVer : Nat → BitVec 16

end Sys2Proof.Config
end

