-- ==== Sys2Proof/Machine/Pages.lean ====
section
/-! DEFINITION. The register space of R63: pages by interrupt line, their bases, type codes and power domains,
and the sub-block arrays of R64. A unit is a page (0 to 44, its line), a loop slot (64 + slot) or a
DMA queue (128 + queue). -/
namespace Sys2Proof.Machine

/-- Line numbers of the single pages (R63). -/
def lSYS : Nat := 0
def lPWR : Nat := 1
def lGROT : Nat := 2
def lCLK : Nat := 3
def lPTP : Nat := 4
def lCHMB (n : Nat) : Nat := 5 + n
def lSSNS : Nat := 13
def lINTG : Nat := 14
def lGAL : Nat := 15
def lGRP : Nat := 16
def lECHO : Nat := 17
def lLOOP : Nat := 18
def lFIO : Nat := 19
def lLANT : Nat := 20
def lBIST : Nat := 21
def lFLOW : Nat := 22
def lNET : Nat := 23
def lCAN (n : Nat) : Nat := 24 + n
def lSER (n : Nat) : Nat := 30 + n
def lHOST : Nat := 36
def lPCIE (n : Nat) : Nat := 37 + n
def lQSPI (n : Nat) : Nat := 39 + n
def lDMA : Nat := 41
def lIOMMU : Nat := 42
def lROPE : Nat := 43
def lTEST : Nat := 44
/-- The unit of a loop slot and of a DMA queue. -/
def uSLOT (n : Nat) : Nat := 64 + n
def uQUEUE (n : Nat) : Nat := 128 + n

/-- Domain numbers, the bits of DOM_STAT.ON. -/
def dBACKUP : Nat := 0
def dAON : Nat := 1
def dAPP : Nat := 2
def dSAFE : Nat := 3
def dLOOP : Nat := 4
def dGAL : Nat := 5
def dNET : Nat := 6
def dHOST : Nat := 7
def dDRAM : Nat := 8
def dREC : Nat := 9
def dLANT : Nat := 10
def dBIST : Nat := 11
def dAFEW : Nat := 12
def dAFEE : Nat := 13
def dFIO : Nat := 14
def dSER : Nat := 15

/-- Base of a page, its offset in the register space (R63). -/
def pageBase (l : Nat) : Nat :=
  if l ≤ 4 then 0x1000 * l
  else if l ≤ 12 then 0x10000 + 0x1000 * (l - 5)
  else if l = 13 then 0x18000
  else if l ≤ 20 then 0x20000 + 0x10000 * (l - 14)
  else if l = 21 then 0x81000
  else if l = 22 then 0x90000
  else if l = 23 then 0xA0000
  else if l ≤ 29 then 0xB0000 + 0x1000 * (l - 24)
  else if l ≤ 35 then 0xC0000 + 0x1000 * (l - 30)
  else if l ≤ 40 then 0xD0000 + 0x1000 * (l - 36)
  else 0xE0000 + 0x10000 * (l - 41)

/-- BLK_ID.TYPE of a page (R63). -/
def pageType (l : Nat) : Nat :=
  if l ≤ 4 then l + 1
  else if l ≤ 12 then 0x10
  else if l = 13 then 0x11
  else if l = 14 then 0x12
  else if l ≤ 19 then 0x20 + (l - 15)
  else if l = 20 then 0x30
  else if l = 21 then 0x31
  else if l = 22 then 0x32
  else if l = 23 then 0x40
  else if l ≤ 29 then 0x41
  else if l ≤ 35 then 0x42
  else if l = 36 then 0x50
  else if l ≤ 38 then 0x51
  else if l ≤ 40 then 0x52
  else if l = 41 then 0x60
  else if l = 42 then 0x61
  else if l = 43 then 0x70
  else 0x80

/-- BLK_ID.INSTANCE of a page (R68). -/
def pageInstance (l : Nat) : Nat :=
  if 5 ≤ l ∧ l ≤ 12 then l - 5
  else if 24 ≤ l ∧ l ≤ 29 then l - 24
  else if 30 ≤ l ∧ l ≤ 35 then l - 30
  else if l = 38 ∨ l = 40 then 1 else 0

/-- Power domain of a unit (R63). -/
def unitDom (u : Nat) : Nat :=
  if u ≤ 1 then dAON
  else if u = 2 then dBACKUP
  else if u = 3 then dAON
  else if u = 4 then dNET
  else if u ≤ 8 then dAFEW
  else if u ≤ 13 then dAFEE
  else if u ≤ 17 then dGAL
  else if u = 18 then dLOOP
  else if u = 19 then dFIO
  else if u = 20 then dLANT
  else if u = 21 then dBIST
  else if u = 22 then dREC
  else if u = 23 then dNET
  else if u ≤ 35 then dSER
  else if u ≤ 42 then dHOST
  else if u = 43 then dGAL
  else if u = 44 then dSAFE
  else if u < 128 then dLOOP
  else dHOST

/-- BLK_CTRL.EN of a page after reset (R68). -/
def enReset (l : Nat) : Bool := l ≤ 3 || (36 ≤ l && l ≤ 42) || l = 44

/-- Where a register-space offset lies: a unit and a byte offset in it; `av` marks the active view (R63, R64, R67). -/
structure Place where
  unit : Nat
  off : Nat
  av : Bool
deriving DecidableEq, Repr

/-- Offset of a unit's first register in the register space. -/
def unitBase (u : Nat) : Nat :=
  if u < 64 then pageBase u else if u < 128 then 0x61000 + 0x100 * (u - 64) else 0xE1000 + 0x100 * (u - 128)

/-- The page that holds a register-space offset. -/
def pageAt (o : Nat) : Option Nat := (List.range 45).find? (fun l => pageBase l / 0x1000 = o / 0x1000)

/-- The place of a register-space offset, or none where it reaches no page, sub-block or active view (R65). -/
def placeOf (o : Nat) : Option Place :=
  if 0x61000 ≤ o ∧ o < 0x65000 then some ⟨64 + (o - 0x61000) / 0x100, o % 0x100, false⟩
  else if 0x65000 ≤ o ∧ o < 0x69000 then some ⟨64 + (o - 0x65000) / 0x100, o % 0x100, true⟩
  else if 0xE1000 ≤ o ∧ o < 0xE5000 then some ⟨128 + (o - 0xE1000) / 0x100, o % 0x100, false⟩
  else if 0xE5000 ≤ o ∧ o < 0xE9000 then some ⟨128 + (o - 0xE5000) / 0x100, o % 0x100, true⟩
  else match pageAt o with
    | some l => some ⟨l, o % 0x800, decide (0x800 ≤ o % 0x1000)⟩
    | none => none

/-- One register, or an array of `cnt` registers `stride` bytes apart: the bits of each access code and the reset value. -/
structure RegDef where
  off : Nat
  rws : Nat := 0
  rw : Nat := 0
  w1c : Nat := 0
  wo : Nat := 0
  rc : Nat := 0
  ro : Nat := 0
  reset : Nat := 0
  cnt : Nat := 1
  stride : Nat := 4
  wide : Bool := false
deriving DecidableEq, Repr

/-- Does the definition cover this offset? -/
def RegDef.covers (d : RegDef) (o : Nat) : Bool :=
  decide (d.off ≤ o) && decide ((o - d.off) % d.stride = 0) && decide ((o - d.off) / d.stride < d.cnt)

end Sys2Proof.Machine
end

