-- ==== Sys2Proof/Machine/RegMap.lean ====
section
/-! DEFINITION. The block-specific registers of every page and sub-block: offsets, access codes and reset values, as
the chapters' page maps give them. A 64-bit register is two words, its low one marked `wide`. Registers whose value
is formed from typed state (views) are listed with their RO bits. -/
namespace Sys2Proof.Machine

/-- SYS: CTX_PEND_n (R76) and DROP_ABSENT_L (R78). -/
def sysRegs : List RegDef := [
  { off := 0x100, ro := 0xFFFFFFFF, cnt := 8, stride := 8, wide := true },
  { off := 0x104, ro := 0xFFFFFFFF, cnt := 8, stride := 8 },
  { off := 0x200, rc := 0xFFFF, cnt := 45 }]

/-- The PWR page. -/
def pwrRegs : List RegDef := [
  { off := 0x100, ro := 0x7F }, { off := 0x104, ro := 0xFFFFFFFF },
  { off := 0x108, rws := 0x13F, reset := 0x100 },
  { off := 0x10C, rw := 0x3 }, { off := 0x110, ro := 0xFF }, { off := 0x114, ro := 0xFFFF },
  { off := 0x118, w1c := 0x7F }, { off := 0x11C, wo := 0xFFFFFFFF },
  { off := 0x120, rw := 0x1 }, { off := 0x124, rws := 0x3FF, reset := 1000 },
  { off := 0x128, wo := 0xFFFFFFFF }, { off := 0x12C, wo := 0xFFFFFFFF },
  { off := 0x130, rws := 0x3FFF, reset := 1500 }, { off := 0x134, ro := 0x0FFF0003 },
  { off := 0x138, rws := 0xFF, wo := 0x80000000, reset := 10 }, { off := 0x13C, ro := 0x3FF01 },
  { off := 0x140, ro := 0xFFFF00F7 }, { off := 0x144, rw := 0x5, wo := 0x2 }, { off := 0x148, wo := 0x7 },
  { off := 0x150, ro := 0xFFFFFFFF, cnt := 4 }, { off := 0x160, ro := 0xFFFFFFFF, cnt := 4 },
  { off := 0x200, wo := 0xFFFFFFFF, cnt := 16 }]

/-- The GROT page; the retained fields' values are those of a first start (R95, R102). -/
def grotRegs : List RegDef := [
  { off := 0x100, ro := 0x7FFF }, { off := 0x104, ro := 0x1F0F0FFF }, { off := 0x108, ro := 0x071F3F3F },
  { off := 0x10C, ro := 0xFFFFFFFF },
  { off := 0x110, rw := 0x1F0F0FFF }, { off := 0x114, rw := 0x001F3F00 }, { off := 0x118, wo := 0x3F },
  { off := 0x11C, wo := 0x7 }, { off := 0x120, rws := 0x83FFFFFF }, { off := 0x124, ro := 0x03FFFFFF },
  { off := 0x128, rws := 0x1F0F0000 }, { off := 0x12C, rws := 0x071F3F3F }, { off := 0x130, rws := 0x813F },
  { off := 0x134, ro := 0x1, wo := 0x2 }, { off := 0x138, rw := 0x80000FFC }, { off := 0x13C, rw := 0xFFFFFFFF },
  { off := 0x140, ro := 0x7 }]

/-- The CLK page. -/
def clkRegs : List RegDef := [{ off := 0x100, ro := 0xFF03 }]

/-- The PTP page. -/
def ptpRegs : List RegDef := [
  { off := 0x100, ro := 0xFFFFFFFF, wide := true }, { off := 0x104, ro := 0xFFFFFFFF },
  { off := 0x108, wo := 0xFFFFFFFF, wide := true }, { off := 0x10C, wo := 0xFFFFFFFF },
  { off := 0x110, rw := 0xFFFFFFFF }, { off := 0x114, rws := 0xFFF1F, reset := 0x20004 },
  { off := 0x118, rws := 0xFFFFFFFF, reset := 0x03E88064 }, { off := 0x11C, rws := 0xFFFFFF, reset := 0x4003C },
  { off := 0x120, ro := 0x1F }, { off := 0x124, ro := 0xFFFFFFFF }, { off := 0x128, rw := 0x1FFFF },
  { off := 0x130, rws := 0xFF0F, reset := 0x6400 },
  { off := 0x138, ro := 0xFFFFFFFF, wide := true }, { off := 0x13C, ro := 0xFFFFFFFF },
  { off := 0x140, ro := 0xFFFFFFFF, wide := true }, { off := 0x144, ro := 0xFFFFFFFF }]

/-- The FLOW page (R369). -/
def flowRegs : List RegDef := [
  { off := 0x100, rws := 0xFFFF00FF, reset := 0xFF3F0020 }, { off := 0x104, rws := 0x01FFFFFF, reset := 0x01010303 },
  { off := 0x108, ro := 0x07FF0007 },
  { off := 0x110, ro := 0xFFFFFFFF, wide := true }, { off := 0x114, ro := 0xFFFFFFFF },
  { off := 0x118, ro := 0xFFFFFFFF, wide := true }, { off := 0x11C, ro := 0xFFFFFFFF },
  { off := 0x120, ro := 0xFFFFFFFF }, { off := 0x124, ro := 0xFFFFFFFF }, { off := 0x128, ro := 0x07FF07FF },
  { off := 0x12C, rc := 0xFFFFFFFF }, { off := 0x130, rc := 0xFFFFFFFF },
  { off := 0x138, ro := 0xFFFFFFFF, wide := true }, { off := 0x13C, ro := 0xFFFFFFFF },
  { off := 0x140, wo := 0x3 }, { off := 0x144, ro := 0x3FFFF7 },
  { off := 0x148, rw := 0xFFFFFFFF, wide := true }, { off := 0x14C, rw := 0xFFFFFFFF },
  { off := 0x150, ro := 0xFFFFFFFF, cnt := 4 }, { off := 0x160, wo := 0xFFFFFFFF, cnt := 8 },
  { off := 0x180, ro := 0xFFFFFFFF, wide := true }, { off := 0x184, ro := 0xFFFFFFFF },
  { off := 0x200, wo := 0x7, cnt := 8, stride := 0x40 }, { off := 0x204, ro := 0x5, cnt := 8, stride := 0x40 },
  { off := 0x208, ro := 0xFFFFFFFF, cnt := 8, stride := 0x40, wide := true },
  { off := 0x20C, ro := 0xFFFFFFFF, cnt := 8, stride := 0x40 },
  { off := 0x210, ro := 0xFFFFFFFF, cnt := 8, stride := 0x40, wide := true },
  { off := 0x214, ro := 0xFFFFFFFF, cnt := 8, stride := 0x40 },
  { off := 0x218, rw := 0xFFFFFFFF, cnt := 8, stride := 0x40, wide := true },
  { off := 0x21C, rw := 0xFFFFFFFF, cnt := 8, stride := 0x40 },
  { off := 0x220, ro := 0xFFFFFFFF, cnt := 8, stride := 0x40, wide := true },
  { off := 0x224, ro := 0xFFFFFFFF, cnt := 8, stride := 0x40 },
  { off := 0x228, ro := 0xFFFFFFFF, cnt := 8, stride := 0x40 }]

/-- A CHMB_n page (R142). -/
def chmbRegs : List RegDef := [
  { off := 0x100, rws := 0x0FFFFFFF, reset := 0x00A00000 }, { off := 0x104, rws := 0x1FF, reset := 0x100 },
  { off := 0x108, rws := 0x03FF0071, cnt := 2 }, { off := 0x110, rws := 0x07FF00F7, reset := 0x00010080 },
  { off := 0x114, rws := 0x00FF1FFF, reset := 0x00040001 }, { off := 0x118, ro := 0xFF07 },
  { off := 0x120, rc := 0xFFFF, cnt := 4 }, { off := 0x130, ro := 0xFFFFFFFF }, { off := 0x134, ro := 0x0FFF000F },
  { off := 0x138, ro := 0xFFFFFFFF }, { off := 0x13C, ro := 0xFFFFF },
  { off := 0x180, rws := 0x77, cnt := 8, stride := 16 }, { off := 0x184, ro := 0xFFFFFFFF, cnt := 8, stride := 16 },
  { off := 0x188, ro := 0xFFFFFFFF, cnt := 8, stride := 16 }, { off := 0x18C, ro := 0xFFFFFFFF, cnt := 8, stride := 16 },
  { off := 0x200, rws := 0x37377F77, reset := 0x800, cnt := 32, stride := 16 },
  { off := 0x204, rws := 0x3FFF3FFF, cnt := 32, stride := 16 },
  { off := 0x208, rws := 0xFFFFF, reset := 0x80000, cnt := 32, stride := 16 },
  { off := 0x20C, ro := 0xFFFFFF3F, cnt := 32, stride := 16 }]

/-- The SSNS page (R150). -/
def ssnsRegs : List RegDef := [
  { off := 0x100, rws := 0xFFFF0001, reset := 0x08FC0000 }, { off := 0x104, rws := 0xFFFF, reset := 2000 },
  { off := 0x108, rws := 0xFFFFFF, reset := 0x00326E5A }, { off := 0x10C, rws := 0xFFFF3FFF, reset := 0x00640FA0 },
  { off := 0x120, ro := 0xFFFFFFFF, cnt := 11 }, { off := 0x150, ro := 0x1FF }, { off := 0x154, ro := 0xFFFFFFFF },
  { off := 0x158, ro := 0xFFFFFFFF, wide := true }, { off := 0x15C, ro := 0xFFFFFFFF },
  { off := 0x200, ro := 0xFFFFFFFF, cnt := 147 }]

/-- The TEST page (R468). -/
def testRegs : List RegDef := [
  { off := 0x100, rws := 0x80111F07 }, { off := 0x104, rws := 0xFFFFFF }, { off := 0x108, rws := 0x3FF, reset := 60 },
  { off := 0x10C, ro := 0x03FFFF71 }, { off := 0x110, ro := 0xFFFFFFFF }, { off := 0x114, ro := 0xF },
  { off := 0x118, ro := 0x37 }, { off := 0x11C, rc := 0xFFFF },
  { off := 0x120, ro := 0xFFFFFFFF, wide := true }, { off := 0x124, ro := 0xFFFFFFFF }]

/-- The INTG page (R180); CH_* and LIN_DATA are windows, keyed by channel and by store word. -/
def intgRegs : List RegDef := [
  { off := 0x100, rws := 0x7F, reset := 4 }, { off := 0x104, rw := 0x1FF }, { off := 0x108, rw := 0x80FF01FF },
  { off := 0x10C, rws := 0xFFFFFFFF }, { off := 0x110, rw := 0x7F }, { off := 0x114, ro := 0xFFFFFFFF },
  { off := 0x118, rw := 0x1F01FF, ro := 0xC0000000, reset := 0xC0000 }, { off := 0x11C, ro := 0xFFFFFFFF, cnt := 2 },
  { off := 0x124, rc := 0xFFFF, cnt := 10 },
  { off := 0x180, rws := 0xFFFFF, reset := 0x100 }, { off := 0x184, rws := 0xFFFFFFFF, reset := 0x3F800000 },
  { off := 0x188, rws := 0xFFFFFFFF }, { off := 0x18C, rws := 0x01FF01FF, reset := 0x01FF01FF },
  { off := 0x190, rws := 0xFFFF01FF, reset := 0x1FF }, { off := 0x194, rws := 0xFFFFFFFF, cnt := 3 },
  { off := 0x1A0, rws := 0xFFFFFF1F, reset := 0x800 }, { off := 0x1A4, ro := 0xFFFF007F }, { off := 0x1A8, ro := 0xFFFFFFFF },
  { off := 0x200, rw := 0x1FF, cnt := 8, stride := 0x20 }, { off := 0x204, ro := 0xFFFFFFFF, cnt := 8, stride := 0x20 },
  { off := 0x208, ro := 0xFFFFFFFF, cnt := 8, stride := 0x20, wide := true },
  { off := 0x20C, ro := 0xFFFFFFFF, cnt := 8, stride := 0x20 }, { off := 0x210, ro := 0xFFFF00F3, cnt := 8, stride := 0x20 },
  { off := 0x400, ro := 0xFFFFFFFF, cnt := 256 }]

/-- The GAL page (R213). -/
def galRegs : List RegDef := [
  { off := 0x100, rws := 0xFFFF, reset := 28800 }, { off := 0x104, rws := 0x03FF03FF, reset := 0x3FF, cnt := 4 },
  { off := 0x114, rws := 0xFFFF, reset := 0x0301 }, { off := 0x118, ro := 0x0FFF0FFF },
  { off := 0x11C, rc := 0xFFFFFFFF, cnt := 3 }, { off := 0x128, ro := 0x0FFF0FFF, cnt := 3 },
  { off := 0x134, ro := 0xFFFFFFFF }, { off := 0x138, ro := 0x80FF07FF },
  { off := 0x140, rws := 0x87FF, rw := 0x10000, ro := 0xFF020000, cnt := 16 },
  { off := 0x180, ro := 0xFF, cnt := 16, stride := 8 }, { off := 0x184, ro := 0xFFFFFFFF, cnt := 16, stride := 8 },
  { off := 0x200, rw := 0xFFFFFFFF, cnt := 8, stride := 0x40 }, { off := 0x204, rw := 0xF, cnt := 8, stride := 0x40 },
  { off := 0x208, rw := 0xFFFFFFFF, cnt := 8, stride := 0x40, wide := true }, { off := 0x20C, rw := 0xFFFFFFFF, cnt := 8, stride := 0x40 },
  { off := 0x210, wo := 0xFFFFFF0F, cnt := 8, stride := 0x40 }, { off := 0x214, ro := 0xFFFF00F1, cnt := 8, stride := 0x40 },
  { off := 0x218, rw := 0x800007FF, cnt := 8, stride := 0x40 }, { off := 0x21C, ro := 0xFFFFFFDF, cnt := 8, stride := 0x40 },
  { off := 0x220, ro := 0xFFFFFFFF, cnt := 8, stride := 0x40 }, { off := 0x224, ro := 0xFFFF003F, cnt := 8, stride := 0x40 },
  { off := 0x228, ro := 0xFFFF, cnt := 8, stride := 0x40 },
  { off := 0x230, ro := 0xFFFFFFFF, cnt := 8, stride := 0x40, wide := true }, { off := 0x234, ro := 0xFFFFFFFF, cnt := 8, stride := 0x40 },
  { off := 0x400, rws := 0xFFFFFFFF, cnt := 256 }]

/-- The GRP page (R241); G_CFG and G_OUT are windows, keyed by group. -/
def grpRegs : List RegDef := [
  { off := 0x100, rws := 0x103FF, reset := 0x10014 }, { off := 0x104, rws := 0xFF0FFF },
  { off := 0x108, rws := 0xFFFFFFFF, reset := 0x03E8012C }, { off := 0x10C, rws := 0xFFFF, reset := 49400 },
  { off := 0x110, rws := 0xFFFFFFFF, reset := 0xEFC04C01 }, { off := 0x114, rws := 0x1FFFFFF }, { off := 0x118, rws := 0x1FFFF },
  { off := 0x11C, ro := 0xFFFFFFFF, cnt := 2 }, { off := 0x124, rw := 0x8003FFFF }, { off := 0x128, rw := 0xFFFFFFFF },
  { off := 0x12C, wo := 0x3 }, { off := 0x130, ro := 0x8FFF000F }, { off := 0x134, ro := 0xFFFFFFFF },
  { off := 0x138, rc := 0xFFFFFFFF, cnt := 6 }, { off := 0x150, ro := 0xC0FFFFFF },
  { off := 0x160, rw := 0xFFFF }, { off := 0x164, rws := 0xFFFFFFFF, reset := 0xFF00 },
  { off := 0x168, rws := 0xFFFFFFFF, reset := 0xFFFF }, { off := 0x16C, ro := 0xFF07 }, { off := 0x170, ro := 0xFFFFFFFF, cnt := 2 },
  { off := 0x178, ro := 0x7FFFFF }, { off := 0x17C, ro := 0xFFFF },
  { off := 0x180, ro := 0xFFFFFFFF, wide := true }, { off := 0x184, ro := 0xFFFFFFFF }, { off := 0x188, rw := 0xFFF },
  { off := 0x18C, ro := 0xFFFFFF3F }, { off := 0x190, ro := 0xFFFFFFFF, cnt := 2 }, { off := 0x198, rw := 0x7FF },
  { off := 0x19C, ro := 0x3FFFF },
  { off := 0x200, wo := 0xFFFFFF03, cnt := 8, stride := 0x20 }, { off := 0x204, ro := 0x1, cnt := 8, stride := 0x20 },
  { off := 0x208, rw := 0xFFFFFFFF, cnt := 8, stride := 0x20, wide := true }, { off := 0x20C, rw := 0xFFFFFFFF, cnt := 8, stride := 0x20 }]

/-- The ECHO page (R267); SCHED_DATA is a window, keyed by schedule entry. -/
def echoRegs : List RegDef := [
  { off := 0x100, rws := 0x3FFF07, reset := 4 }, { off := 0x104, rws := 0x801F }, { off := 0x108, rws := 0xFFFFFFFF, reset := 0x00B40708 },
  { off := 0x10C, rws := 0x7F7F7F, reset := 0x304040 }, { off := 0x110, rws := 0xFFFFFF, reset := 0x01030F },
  { off := 0x114, ro := 0x3F3F077F }, { off := 0x118, ro := 0xFFFF0003 }, { off := 0x11C, ro := 0x303 },
  { off := 0x120, ro := 0xFFFFFFFF, cnt := 4 }, { off := 0x140, ro := 0xFFFFFF7F, cnt := 17 }, { off := 0x190, ro := 0xFFFF, cnt := 17 },
  { off := 0x1E0, rc := 0xFFFF, cnt := 3 },
  { off := 0x200, wo := 0xFF0F, cnt := 8, stride := 0x10 }, { off := 0x204, ro := 0xF1, cnt := 8, stride := 0x10 },
  { off := 0x280, rws := 0xFFFF001F, reset := 0x003C0008, cnt := 16 }, { off := 0x2C0, rws := 0xFFFFFFFF, reset := 0x003C0078, cnt := 16 },
  { off := 0x304, rws := 0x8000BFBF, cnt := 32 }, { off := 0x400, rws := 0x3, cnt := 64 },
  { off := 0x500, rw := 0x800003FF }, { off := 0x504, rws := 0x3F3F }]

/-- The LOOP common page (R297). -/
def loopRegs : List RegDef := [
  { off := 0x100, rws := 0x1 }, { off := 0x104, ro := 0xFFFFFFFF },
  { off := 0x108, ro := 0xFFFFFFFF, cnt := 4, stride := 8, wide := true }, { off := 0x10C, ro := 0xFFFFFFFF, cnt := 4, stride := 8 },
  { off := 0x128, w1c := 0xFFFFFFFF, wide := true }, { off := 0x12C, w1c := 0xFFFFFFFF },
  { off := 0x130, ro := 0xFFFFFFFF }, { off := 0x134, rc := 0xFFFF }]

/-- A loop slot block (R298). -/
def slotRegs : List RegDef := [
  { off := 0x10, rws := 0x7F0FFFFF, reset := 0x40000300 }, { off := 0x14, rws := 0xFF0FF1FF },
  { off := 0x18, rws := 0x1FFF1FFF, reset := 0x1F3F0000 }, { off := 0x1C, rws := 0xFFFFFFFF, reset := 1 },
  { off := 0x20, rws := 0xFFFFFFFF, cnt := 5 }, { off := 0x34, rws := 0x1F1F1F1F }, { off := 0x38, rws := 0xFFFFFFFF, cnt := 5 },
  { off := 0x4C, rws := 0x7F }, { off := 0x50, rws := 0xFFFFFFFF, cnt := 10 }, { off := 0x78, rws := 0x1FFFFFF, cnt := 2 },
  { off := 0x80, rws := 0xFFFFFFFF, cnt := 6 }, { off := 0x98, rws := 0xFF, reset := 3 }, { off := 0x9C, rws := 0xFFFFFFFF },
  { off := 0xA0, rw := 0xFFFFFFFF }, { off := 0xA4, wo := 0x3 }, { off := 0xA8, ro := 0xFFFFFF }, { off := 0xAC, ro := 0xFFFFFFFF, cnt := 5 },
  { off := 0xC0, rc := 0xFFFFFFFF }, { off := 0xC4, ro := 0xFFFFFFFF }]

/-- The FIO page (R324). -/
def fioRegs : List RegDef := [
  { off := 0x100, rws := 0xFFFF3FFF, reset := 0x01000000 }, { off := 0x104, ro := 0x13F },
  { off := 0x108, ro := 0xFFFFFFFF, cnt := 3, stride := 8, wide := true }, { off := 0x10C, ro := 0xFFFFFFFF, cnt := 3, stride := 8 },
  { off := 0x120, rw := 0xFFFFFFFF }, { off := 0x124, ro := 0xFFFFFFFF, cnt := 2 }, { off := 0x12C, ro := 0xF, wo := 0xCFFF0000 },
  { off := 0x130, ro := 0xFFF }, { off := 0x134, rws := 0x303FF, reset := 100 }, { off := 0x140, ro := 0xFFFFFFFF, cnt := 4 },
  { off := 0x150, ro := 0xFFFFFFFF, cnt := 16 }, { off := 0x200, rws := 0xFFFF0007, reset := 0x0BB80000, cnt := 64 },
  { off := 0x300, rws := 0xFF, cnt := 32, stride := 16 }, { off := 0x304, rws := 0xFFFFFF, reset := 100000, cnt := 32, stride := 16 },
  { off := 0x308, rws := 0xFFFFFF, cnt := 32, stride := 16 }, { off := 0x30C, w1c := 0x9, ro := 0x6, cnt := 32, stride := 16 },
  { off := 0x500, rws := 0x1F, cnt := 16, stride := 16 }, { off := 0x504, rw := 0xFFFF, cnt := 16, stride := 16 },
  { off := 0x508, ro := 0xFFFF, cnt := 16, stride := 16 }, { off := 0x50C, ro := 0x3, cnt := 16, stride := 16 },
  { off := 0x600, rw := 0x3, cnt := 32 }, { off := 0x680, rw := 0x1FFFF, cnt := 16 }]

/-- The NET page (R397); NV_CFG and NV_SRC are windows, keyed by entry. -/
def netRegs : List RegDef := [
  { off := 0x100, rws := 0x0FFF007F, reset := 0x640002 }, { off := 0x104, rws := 0xFFFFFFFF, cnt := 4 },
  { off := 0x114, rws := 0xFFFFFFFF, reset := 0xC0F9C0FA }, { off := 0x118, rws := 0xFFFFFFFF, reset := 0xEFC04C03 },
  { off := 0x11C, rws := 0xBF }, { off := 0x120, ro := 0xF }, { off := 0x124, ro := 0xFFFFFFFF }, { off := 0x128, ro := 0xFFFF },
  { off := 0x130, rc := 0xFFFFFFFF, cnt := 5 }, { off := 0x144, ro := 0x7 }, { off := 0x148, rc := 0xFFFFFFFF },
  { off := 0x150, rws := 0x03FF01FF, reset := 0x200080 }, { off := 0x154, rws := 0xFFFFFFFF }, { off := 0x158, wo := 0x8000FFFF },
  { off := 0x15C, ro := 0xFFFF }, { off := 0x160, rws := 0x83F3, reset := 0x20 }, { off := 0x164, rws := 0xF },
  { off := 0x170, rw := 0xFF }, { off := 0x174, rws := 0xFFFF0003, reset := 0xA0000 }, { off := 0x178, rws := 0xFF0FFF },
  { off := 0x17C, ro := 0xFFFF0001 }, { off := 0x400, rw := 0xFFFFFFFF, cnt := 256 }]

/-- A CAN_n page (R399). -/
def canRegs : List RegDef := [
  { off := 0x100, rws := 0xBFBF003F }, { off := 0x104, rws := 0x7FFFFFFF, reset := 0x04081E00 },
  { off := 0x108, rws := 0x1FFFFFF, reset := 0x18CCA0 }, { off := 0x10C, ro := 0xFFFF03 }, { off := 0x110, wo := 0x1 },
  { off := 0x114, rc := 0xFFFFFFFF, cnt := 2 }, { off := 0x180, rws := 0xBFFFFFFF, reset := 0x80000000 },
  { off := 0x188, rws := 0xBFFFFFFF, cnt := 31, stride := 8 }, { off := 0x184, rws := 0x1FFFFFFF, cnt := 32, stride := 8 }]

/-- A SER_n page (R401). -/
def serRegs : List RegDef := [
  { off := 0x100, rws := 0xFF, reset := 0xC }, { off := 0x104, rws := 0x7FFFFF, reset := 416667 }, { off := 0x108, rws := 0xFFFF, reset := 0x311 },
  { off := 0x10C, rws := 0xBFBF }, { off := 0x110, ro := 0x7 }, { off := 0x114, rc := 0xFFFFFFFF, cnt := 3 }]

/-- The LANT page (R348). -/
def lantRegs : List RegDef := [
  { off := 0x100, rws := 0xFFFFF, reset := 0x48078 }, { off := 0x104, rws := 0x7F1FFF, reset := 0x3203E8 },
  { off := 0x108, rws := 0x7F1FFF, reset := 0x3207D0 }, { off := 0x10C, wo := 0x800083FF }, { off := 0x110, ro := 0x7 },
  { off := 0x114, ro := 0xFFFFFFFF }, { off := 0x118, rw := 0x800303FF }, { off := 0x11C, rw := 0xFFFFFFFF },
  { off := 0x120, rw := 0x80000FFF }, { off := 0x124, rw := 0xFFFFFFFF }]

/-- The BIST page (R349): its common registers, then the blocks of the 32 regions. -/
def bistRegs : List RegDef := [
  { off := 0x100, rws := 0xFF }, { off := 0x104, ro := 0xF }, { off := 0x108, ro := 0xFFFFFFFF },
  { off := 0x10C, rw := 0x80000F0F }, { off := 0x110, rw := 0xFFFF }, { off := 0x114, ro := 0xFFFFFFFF },
  { off := 0x118, ro := 0xFFFFFFFF }, { off := 0x11C, rc := 0xFFFF },
  { off := 0x200, rws := 0x0F3F7F01, cnt := 32, stride := 32 },
  { off := 0x204, rws := 0xF013F, reset := 0x50000, cnt := 32, stride := 32 },
  { off := 0x208, rws := 0xFFFFFFFF, cnt := 32, stride := 32 }, { off := 0x20C, rws := 0xFFFFFFFF, cnt := 32, stride := 32 },
  { off := 0x210, rws := 0xFFFFFFFF, cnt := 32, stride := 32 }, { off := 0x214, wo := 0x80000003, cnt := 32, stride := 32 },
  { off := 0x218, ro := 0xFFFF3FFF, cnt := 32, stride := 32 }]

/-- The HOST common page, the PCIE_n pages and the QSPI_n pages (R435). -/
def hostRegs : List RegDef := [{ off := 0x100, ro := 0xF }]
def pcieRegs : List RegDef := [
  { off := 0x100, rws := 0x1, reset := 1 }, { off := 0x104, ro := 0xFFFFFFFF }, { off := 0x108, ro := 0xFFFFFFFF },
  { off := 0x110, rws := 0xFFFFFFFF, wide := true }, { off := 0x114, rws := 0x7F }, { off := 0x118, rc := 0xFFFFFFFF }]
def qspiRegs : List RegDef := [
  { off := 0x100, rws := 0x1, reset := 1 }, { off := 0x110, rws := 0xFFFFFFFF, wide := true }, { off := 0x114, rws := 0x7F },
  { off := 0x118, rc := 0xFFFFFFFF }]

/-- The DMA common page (R436). -/
def dmaRegs : List RegDef := [
  { off := 0x100, rws := 0xFF, reset := 64 }, { off := 0x104, rws := 0x3FF0F, reset := 0x400 },
  { off := 0x108, rws := 0x3FF0F, reset := 0x10400 }, { off := 0x10C, rws := 0x3FF0F, reset := 0x2040E, cnt := 6 },
  { off := 0x128, ro := 0xFFFFFFFF, wide := true }, { off := 0x12C, ro := 0xFFFFFFFF }, { off := 0x130, rc := 0xFFFFFFFF },
  { off := 0x140, rc := 0xFFFFFFFF, cnt := 8 }, { off := 0x180, rw := 0xFFFFFFFF, cnt := 5 }, { off := 0x1A0, ro := 0x1 },
  { off := 0x1A4, ro := 0xFF01 }]

/-- The block of a queue (R437). -/
def queueRegs : List RegDef := [
  { off := 0x10, rws := 0xDF371FFF, reset := 0x200000 }, { off := 0x18, rws := 0xFFFFFFFF, wide := true },
  { off := 0x1C, rws := 0xFFFFFFFF }, { off := 0x20, rw := 0xFFFF }, { off := 0x24, rw := 0xFFFF }, { off := 0x28, ro := 0x37 },
  { off := 0x2C, wo := 0x3 }, { off := 0x30, ro := 0xFFFFFFFF, wide := true }, { off := 0x34, ro := 0xFFFFFFFF },
  { off := 0x38, ro := 0x1FF }, { off := 0x3C, ro := 0x1FFFFFF }, { off := 0x40, w1c := 0x1F }, { off := 0x44, rw := 0x1F },
  { off := 0x48, rc := 0xFFFFFFFF }, { off := 0x4C, rc := 0xFFFFFFFF }]

/-- The IOMMU page (R438). -/
def iommuRegs : List RegDef := [
  { off := 0x100, rws := 0x3, reset := 2 }, { off := 0x110, rws := 0x3, cnt := 15, stride := 16 },
  { off := 0x108, rws := 0xFFFFF000, cnt := 16, stride := 16 }, { off := 0x200, wo := 0xF3 }, { off := 0x204, ro := 0x1 },
  { off := 0x208, rw := 0xFFFFF000, wide := true }, { off := 0x20C, rw := 0x7F }, { off := 0x210, ro := 0x8000017F },
  { off := 0x218, ro := 0xFFFFFFFF, wide := true }, { off := 0x21C, ro := 0xFFFFFFFF }, { off := 0x220, rc := 0xFFFFFFFF }]

/-- The ROPE page (R457). -/
def ropeRegs : List RegDef := [
  { off := 0x100, rws := 0xFFFF1F03, reset := 0x1400 }, { off := 0x104, ro := 0x3FF77 }, { off := 0x108, wo := 0x7 },
  { off := 0x10C, rc := 0xFFFFFFFF, cnt := 4 }, { off := 0x11C, ro := 0xFFFF }, { off := 0x120, ro := 0xFFFFFFFF, wide := true },
  { off := 0x124, ro := 0xFFFFFFFF }, { off := 0x140, ro := 0xFFFFFFFF, cnt := 16 }, { off := 0x180, ro := 0xFFFFFFFF, cnt := 16 }]

/-- The registers of a unit. -/
def unitRegs (u : Nat) : List RegDef :=
  if u = 0 then sysRegs else if u = 1 then pwrRegs else if u = 2 then grotRegs else if u = 3 then clkRegs
  else if u = 4 then ptpRegs else if u ≤ 12 then chmbRegs else if u = 13 then ssnsRegs else if u = 14 then intgRegs
  else if u = 15 then galRegs else if u = 16 then grpRegs else if u = 17 then echoRegs else if u = 18 then loopRegs else if u = 19 then fioRegs
  else if u = 20 then lantRegs else if u = 21 then bistRegs
  else if u = 22 then flowRegs else if u = 23 then netRegs else if u < 24 then [] else if u ≤ 29 then canRegs else if u ≤ 35 then serRegs
  else if u = 36 then hostRegs else if u ≤ 38 then pcieRegs else if u ≤ 40 then qspiRegs else if u = 41 then dmaRegs
  else if u = 42 then iommuRegs else if u = 43 then ropeRegs else if u = 44 then testRegs
  else if 64 ≤ u ∧ u < 128 then slotRegs else if 128 ≤ u ∧ u < 192 then queueRegs
  else []

/-- The register at an offset of a unit. -/
def regAt (u o : Nat) : Option RegDef := (unitRegs u).find? (fun d => d.covers o)

/-- The key of a register: its offset in the register space. -/
def rk (u o : Nat) : Nat := unitBase u + o

/-- The key of item `i` of a windowed register (CH_SEL, GRP_SEL, NV and schedule windows). -/
def wk (u o i : Nat) : Nat := rk u o + (i + 1) * 0x100000000

/-- The unit a key belongs to. -/
def keyUnit (k : Nat) : Nat := match placeOf (k % 0x100000000) with | some p => p.unit | none => 255

/-- The offset in its unit of a key. -/
def keyOff (k : Nat) : Nat := match placeOf (k % 0x100000000) with | some p => p.off | none => 0

/-- The item of a windowed key: 0 for a plain register, item + 1 otherwise. -/
def keyItem (k : Nat) : Nat := k / 0x100000000

/-- The register a key names. -/
def regOfKey (k : Nat) : Option RegDef := regAt (keyUnit k) (keyOff k)

/-- The reset value at a key. -/
def resetOfKey (k : Nat) : Word := match regOfKey k with | some d => BitVec.ofNat 32 d.reset | none => 0#32

/-- The RWS bits at a key. -/
def rwsOfKey (k : Nat) : Word := match regOfKey k with | some d => BitVec.ofNat 32 d.rws | none => 0#32

end Sys2Proof.Machine
end

