-- ==== Sys2Proof/Machine/State.lean ====
section
/-! DEFINITION. The state of the block: every register, counter, queue, mode and pin the spec gives it, and the
queue of waiting commands. A field's default is its reset value; the log entries named in INVENTORY.md say where
the spec gives none. -/
namespace Sys2Proof.Machine

/-- Why the block stops with a fault. -/
inductive Fault where
  /-- Raised by a meaning whose operand is none the command has (`Instr.wf` is false): safe, no such command exists. -/
  | illFormed
deriving DecidableEq, Repr

/-- Why a command is refused. -/
inductive Refusal where
  /-- Raised by the arm of a command that has no meaning yet: safe, nothing is proved of it. -/
  | notModelled (mnemonic : String)
deriving DecidableEq, Repr

/-- ERR_INFO: the first error captured on a page (R68, R74). -/
structure ErrInfo where
  valid : Bool := false
  overflow : Bool := false
  ctx : Ctx := 0#3
  write : Bool := false
  code : BitVec 4 := 0#4
  offset : BitVec 12 := 0#12
  page : BitVec 9 := 0#9
deriving DecidableEq, Repr

/-- The common header of a page, or the sub-header of a loop slot or DMA queue (R64, R68).
`latched` holds the latched bits of IRQ_RAW; the level bits follow their conditions (R75). -/
structure Hdr where
  en : Bool := false
  busy : Bool := false
  freeze : Bool := false
  frozen : Bool := false
  live : Bool := false
  latched : Word := 0#32
  mask : Word := 0#32
  gen : BitVec 16 := 0#16
  pend : Option (List (Nat × Word)) := none
  /-- what is pending comes from LIVE writes (R83): no accepted set, no GEN, no APPLY_DONE -/
  livePend : Bool := false
  skew : Bool := false
  reject : Bool := false
  reason : Byte := 0#8
  rejOff : BitVec 12 := 0#12
  owner : Ctx := 0#3
  readMask : Byte := 0#8
  lock : Bool := false
  err : ErrInfo := {}
  tRun : Bool := false
  tDone : Bool := false
  tPass : Bool := false
  tSel : Byte := 0#8
  /-- the SEL of the running test -/
  tKind : Byte := 0#8
deriving DecidableEq, Repr

/-- What the module as a whole is doing (R44, R49, R55, R496). -/
inductive Phase where
  | off | inReset | boot | recovery | run | powerFail | retired
deriving DecidableEq, Repr

/-- The power states of R22 other than Off (PSTATE codes 0, 1, 2). -/
inductive PState where
  | run | doze | sleep
deriving DecidableEq, Repr

/-- OTP: what the fuses hold. No module event but the lifecycle commits and the rollback counter changes it (R53, R54, R61). -/
structure Otp where
  /-- true: LNV-DU48-A; false: LNV-DU48-B (R3 to R6) -/
  variantA : Bool := true
  devId : BitVec 128 := 0#128
  mac : BitVec 48 := 0#48
  pcieId : Word := 0#32
  keyHash : List (BitVec 256) := [0#256, 0#256, 0#256, 0#256]
  revoked : BitVec 4 := 0#4
  rollback : BitVec 16 := 0#16
  clrKey : List Byte := List.replicate 32 0#8
  /-- MGMT_KEY, empty while it is unprogrammed (R381) -/
  mgmtKey : List Byte := []
  lsbTrim : List Word := []
deriving DecidableEq, Repr

/-- Power, reset, boot and lifecycle (chapter "Power, Start-up, Reset and Lifecycle"). -/
structure Pwr where
  vinGood : Bool := true
  dip : Bool := false
  fail : Bool := false
  overV : Bool := false
  holdReady : Bool := false
  holdFault : Bool := false
  vbat : Bool := true
  meas : Word := 0#32
  /-- VIN became good again while the power-fail sequence runs (R45) -/
  vinAgain : Bool := false
  /-- domains shed at FAIL, to come back at recovery (R44) -/
  shed : BitVec 16 := 0#16
  /-- uptime of VIN good, from which OUT_DEADLINE counts (R50) -/
  upAt : Nat := 0
  /-- the safety core has halted after a lockstep mismatch (R58 code 0x04) -/
  safeHalt : Bool := false
  /-- DOM_STAT.ON, bit 0 PD_BACKUP to bit 15 PD_SER -/
  doms : BitVec 16 := 0x038B#16
  phase : Phase := .boot
  pstate : PState := .run
  /-- the state a transition in progress leads to (PSTATE.BUSY) -/
  goal : Option PState := none
  refused : Bool := false
  lastWake : BitVec 4 := 0#4
  rstCause : BitVec 7 := 0x01#7
  /-- RST_N held low -/
  rstN : Bool := false
  /-- ROPE_FENCE_IN_N held low -/
  fenceIn : Bool := false
  sramWiped : Bool := false
  dramWiped : Bool := false
  safeRunning : Bool := false
  cfgLoaded : Bool := false
  appRunning : Bool := false
  /-- the application cores have been released in this start (R48 step 5) -/
  appReleased : Bool := false
  /-- the start-up in progress, or the last one, was a wake from Sleep and no reset (R47, R54) -/
  byWake : Bool := false
  /-- a release of APP_CTRL.HOLD waits for the verification of the inactive slot (R54) -/
  appVerify : Bool := false
  released : Bool := false
  byDeadline : Bool := false
  /-- OUT_DEADLINE has been spent: a cold takeover releases per output (R452) -/
  noDeadline : Bool := false
  wdtExpectA5 : Bool := false
  wdtMs : Nat := 1000
  wdtAt : Nat := 0
  sysokExpectA5 : Bool := false
  sysokKicks : Nat := 0
  sysokAt : Nat := 0
  sysokOn : Bool := false
  degraded : Bool := false
  degrCause : Byte := 0#8
  degrCount : BitVec 2 := 0#2
  lcState : BitVec 3 := 2#3
  slot : Bool := false
  activeSlot : Bool := false
  trial : Bool := false
  trialFail : Bool := false
  /-- the trial is of the application image alone (R54) -/
  trialApp : Bool := false
  /-- BOOT_CTRL.PENDING as it must outlive the reset that acts on it (R54) -/
  bootPending : Bool := false
  lcReject : Bool := false
  nonce : BitVec 128 := 0#128
  /-- a RETIRED wipe has started and not ended (R62) -/
  retireWipe : Bool := false
deriving DecidableEq, Repr

/-- The PTP clock and its lock state (R87 to R94). `frac` is the part of a nanosecond in 1/(1,024 * 10^9). -/
structure Ptp where
  time : DWord := 0#64
  frac : Nat := 0
  /-- how many quarters of the running 8 ns period have passed, by which stamps are interpolated (R88) -/
  sub : BitVec 2 := 0#2
  /-- the rate in use, in 1/1,024 ppb -/
  rate : Int := 0
  lock : BitVec 2 := 0#2
  gm : Bool := false
  msel : Bool := false
  good : Nat := 0
  missed : Nat := 0
  hiLatch : Word := 0#32
  stepLo : Word := 0#32
  ppsOut : Bool := false
  /-- the level of the pin PPS_IN, which its edges move (R93) -/
  ppsIn : Bool := false
deriving DecidableEq, Repr

/-- The crystals as the CLK page and the Grotto see them (R85, R86). -/
structure Clk where
  xt25 : Bool := true
  xt32 : Bool := true
deriving DecidableEq, Repr

/-- The backup SRAM of a module whose journal areas pass their checks and hold nothing (R106; log entry 8). -/
def journalReset : List Host.Cell := [
  (0x000, 0x47#8), (0x001, 0x52#8), (0x002, 0x54#8), (0x003, 0x4A#8), (0x03C, 0x45#8), (0x03D, 0x50#8), (0x03E, 0x5A#8), (0x03F, 0x72#8),
  (0x040, 0x43#8), (0x041, 0x4C#8), (0x042, 0x54#8), (0x043, 0x4A#8), (0x0BC, 0xEC#8), (0x0BD, 0xBF#8), (0x0BE, 0x99#8), (0x0BF, 0xA0#8)]

/-- The Grotto: what PD_BACKUP keeps (R95 to R108). -/
structure Grot where
  year : Nat := 2000
  month : Nat := 1
  day : Nat := 1
  hour : Nat := 0
  min : Nat := 0
  sec : Nat := 0
  wday : Nat := 0
  gsec : Word := 0#32
  /-- uptime at which the prescaler last read 0 -/
  preAt : Nat := 0
  /-- uptime at which the wake counter last started -/
  wakeAt : Nat := 0
  /-- the internal oscillator has run since either last started, so that its count is not fixed (R86) -/
  preFree : Bool := false
  wakeFree : Bool := false
  /-- the set of a calendar commit on its way: CAL_SET_DATE, CAL_SET_TIME, seconds (R99) -/
  commit : Option (Word × Word × Word) := none
  pwron : Bool := true
  /-- the 4 KiB of backup SRAM -/
  sram : List Host.Cell := journalReset
  /-- a second tick matched the calendar alarm, which has not fired for it yet (R104) -/
  almDue : Bool := false
  /-- the wipe of a lifecycle change goes on (R108) -/
  wipeBusy : Bool := false
  sysOk : Bool := true
  calcOk : Bool := true
deriving DecidableEq, Repr

/-- One drive step of a region (R339, R345): phase `p` of table `wf` for `eighths` of a millisecond, levels negated or not, each
segment on the row of its transition from look `a` to look `b`, or every segment on row LV_LD. -/
structure BDrive where
  wf : Nat
  p : Nat
  eighths : Nat
  neg : Bool := false
  a : BitVec 2 := 0#2
  b : BitVec 2 := 0#2
  allLd : Bool := false
deriving DecidableEq, Repr

/-- A Calcite region (R338 to R340, R346). -/
structure BReg where
  shown : BitVec 2 := 0#2
  target : BitVec 2 := 0#2
  pend : Option (BitVec 2) := none
  /-- an update runs: the look it draws, the look shown before it, its table and the phases completed -/
  run : Bool := false
  look : BitVec 2 := 0#2
  prev : BitVec 2 := 0#2
  wf : Nat := 0
  done : Nat := 0
  /-- the drive steps left of the update or the recovery, the running one first; `rest`: it has not started (R341) -/
  steps : List BDrive := []
  rest : Bool := false
  /-- uptime of the running step's start, and of the last update's start -/
  stepAt : Nat := 0
  startAt : Option Nat := none
  /-- the initial update has started, and has completed -/
  begun : Bool := false
  init : Bool := false
  /-- the look a SWEEP test returns to (R459) -/
  back : Option (BitVec 2) := none
deriving DecidableEq, Repr

/-- Calcite (chapter "Lantern and Calcite: Alarm Panel Drivers"). -/
structure Bist where
  /-- the stale segment shows the stale mark (R38) -/
  stale : Bool := true
  /-- the waveform tables, word 16 * table + phase -/
  wf : Tbl Word := []
  regs : Tbl BReg := []
  dirty : BitVec 32 := 0#32
  recovery : Bool := false
  recovered : Bool := false
  /-- a segment or VCOM is outside its drive limit (R486) -/
  drive : Bool := false
deriving DecidableEq, Repr

/-- Lantern (chapter "Lantern and Calcite: Alarm Panel Drivers"). The halves of the frame store hold a byte per pixel. -/
structure Lant where
  back : List Host.Cell := []
  front : List Host.Cell := []
  /-- words 0 and 1 of the attribute table's entries, in effect and as staged: key 2 * entry + word -/
  at0 : Tbl Word := []
  staged : Tbl (Option Word) := []
  /-- entries whose commit waits for a boundary, and the updates that wait, in order: an entry, or all -/
  commits : List (Nat × Word × Word) := []
  updates : List (Option Nat) := []
  /-- region attributes now shown (R332) -/
  attr : Tbl (BitVec 3) := []
  blinkA : Bool := false
  blinkB : Bool := false
  frames : Word := 0#32
  vcolOk : Bool := false
  vcolFault : Bool := false
deriving DecidableEq, Repr

/-- An item delivered to the Gallery (R183, R184). `prov` marks a provisional item, `seq` is that of R151's sample. -/
structure Item where
  srcType : BitVec 3
  idx : BitVec 9
  value : F32
  qual : BitVec 4 := 0#4
  stamp : DWord := 0#64
  seq : Option Nat := none
  prov : Bool := false
  range : Bool := false
  angle : BitVec 12 := 0#12
  decim : BitVec 3 := 0#3
deriving DecidableEq, Repr

/-- What reaches the Gallery: an item, or the resolution of a provisional item, confirmed with VALUE and QUAL or squashed (R176). -/
inductive GalMsg where
  | item (i : Item)
  | resolved (ch : Nat) (seq : Nat) (result : Option (F32 × BitVec 4))
deriving DecidableEq, Repr

/-- A record waiting for the Flowstone writer (R356, R358). -/
structure FlowRec where
  src : BitVec 4
  typ : Byte
  payload : List Byte
deriving DecidableEq, Repr

/-- One snapshot block SNAP_x (R361). -/
structure Snap where
  held : Bool := false
  lost : Bool := false
  first : Nat := 0
  last : Nat := 0
  cur : Nat := 0
  floor : Nat := 0
  firstAddr : Nat := 0
deriving DecidableEq, Repr

/-- Flowstone (chapter "Flowstone: The Event Recorder"). The ring itself is in memory. -/
structure Flow where
  /-- records on their way to the input queue -/
  arriving : List FlowRec := []
  queue : List FlowRec := []
  peak : Nat := 0
  drops : Tbl Nat := []
  lossDue : Bool := false
  recovered : Bool := false
  needRecovery : Bool := false
  nextSeq : Nat := 1
  headBlk : Nat := 0
  headAddr : Nat := 0x68000000
  /-- the head block is closed: the next record opens the next block -/
  closed : Bool := true
  dropCnt : Nat := 0
  badCnt : Nat := 0
  badSince : Bool := false
  exportedSeq : Nat := 0
  exportTime : DWord := 0#64
  /-- uptime of the last release with EXPORTED = 1 (R367) -/
  exportAt : Option Nat := none
  snaps : Tbl Snap := []
  /-- the valid CLR_NONCE, the context it is bound to and the uptime of its draw (R364) -/
  nonce : Option (BitVec 128 × Ctx × Nat) := none
  nonceReg : BitVec 128 := 0#128
  /-- a clear in progress: SEQ of its CLEAR record -/
  clearing : Option Nat := none
  /-- a clear that passed its checks while the writer did not run: context, CLR_SEQ, nonce -/
  clearAsked : Option (Ctx × Nat × BitVec 128) := none
  clearErased : Nat := 0
  clrResult : BitVec 4 := 0#4
  clrFails : Nat := 0
  clrFailed : Nat := 0
  stopped : Bool := false
deriving DecidableEq, Repr

/-- A FEEDBACK strobe of a frame: slot, entry and FB_PHASE (R123). -/
structure Strobe where
  slot : Nat
  ent : Nat
  phase : Nat
  /-- TIME64 of the start of the frame it belongs to -/
  base : Nat := 0
deriving DecidableEq, Repr

/-- An angle strobe that the interpolator has scheduled (R135, R137). -/
structure AngStrobe where
  time : Nat
  idx : Nat
  decim : Nat
  /-- its place within the tooth, and whether it belongs to the tooth that the next edge begins -/
  place : Nat := 0
  next : Bool := false
  /-- a strobe between the one before and this one was lost -/
  gap : Bool := false
deriving DecidableEq, Repr

/-- An entry on its way from t0 to the end of its conversion, with the settings it started with (R115). -/
structure EntRun where
  ent : Nat
  src : EntrySrc
  slot : Nat := 0
  oc : Bool := false
  swapped : Bool := false
  sel : Word
  exc : Word
  tim : Word
  stamp : DWord := 0#64
  angle : Nat := 0
  decim : Nat := 0
  gap : Bool := false
  /-- TIME64 of t0, and the path gain and offset of the entry's set at t0 (R134) -/
  t0 : Nat := 0
  gain : Word := 0#32
  ofs : Word := 0#32
deriving DecidableEq, Repr

/-- One Chamber (chapter "Chambers"). -/
structure Chmb where
  /-- bit e: entry e's merge state is LG (R130) -/
  mergeLg : BitVec 32 := 0#32
  /-- bit e: the next ordinary conversion of entry e is made with sources exchanged, where SWAP = 1 (R128) -/
  swapNext : BitVec 32 := 0#32
  convCnt : Tbl Nat := []
  /-- flags of the last sample of an entry, at their ENT_STAT bits -/
  entFlags : Tbl Nat := []
  /-- what is left of the running pass: entry, open-circuit conversion -/
  scan : List (Nat × Bool) := []
  passOn : Bool := false
  /-- a grid point fell while the pass ran: the next pass follows at once -/
  again : Bool := false
  passNo : Nat := 0
  passAt : Nat := 0
  passUs : Nat := 0
  cur : Option EntRun := none
  conv : Option EntRun := none
  calibrated : Bool := false
  calBusy : Bool := false
  calDone : Bool := false
  calFail : Byte := 0#8
  /-- conversions counted toward the tracker of each set (R134) -/
  track : Tbl Nat := []
  servo : Bool := false
  /-- the strobe lists on their way, then the strobes still to be served, of this frame and the next (R123) -/
  fbSent : List Strobe := []
  fbList : List Strobe := []
  angLast : Option DWord := none
  angDelta : Nat := 0
  angEdges : Nat := 0
  angLocked : Bool := false
  angLost : Bool := false
  angTooth : Nat := 0
  angRef : Bool := false
  angQ : List AngStrobe := []
  /-- no strobe has been scheduled since lock or since the entry was enabled (R136) -/
  angFirst : Bool := false
  angDecim : Nat := 0
  angIdx : Nat := 0
  /-- a strobe after the last one scheduled was lost, or the lock was -/
  angGap : Bool := false
  chvp : Bool := false
  chvl : Bool := false
  coupler : Bool := false
deriving DecidableEq, Repr

/-- The samples of a supply-sense window and the sums of the squares of their codes: the phases, the neutral, and line to line. -/
structure SsnsSums where
  n : Nat := 0
  a : Nat := 0
  b : Nat := 0
  c : Nat := 0
  vn : Nat := 0
  ab : Nat := 0
  bc : Nat := 0
  ca : Nat := 0
deriving DecidableEq, Repr

/-- The samples of a phase's running half cycle and the sum of the squares of their codes (R145). -/
structure SsnsHalf where
  n : Nat := 0
  sum : Nat := 0
deriving DecidableEq, Repr

/-- The supply-sense converter (R144 to R150). -/
structure Ssns where
  blackout : Bool := false
  /-- stamp of the first sample of the run in which no phase exceeded BO_THR (R146) -/
  boRun : Option DWord := none
  /-- the phases whose half-cycle RMS, refreshed since the blackout was declared, is at or above SAG_THR -/
  above : BitVec 3 := 0#3
  freqValid : Bool := false
  sag : BitVec 3 := 0#3
  swell : BitVec 3 := 0#3
  rotErr : Bool := false
  /-- the running window, the running half cycle of each phase, and the stamp of the last sample (R145, R148) -/
  win : SsnsSums := {}
  halfA : SsnsHalf := {}
  halfB : SsnsHalf := {}
  halfC : SsnsHalf := {}
  last : DWord := 0#64
  /-- a window has completed since the page was enabled (R150) -/
  windowed : Bool := false
deriving DecidableEq, Repr

/-- The TEST page: injection, debug, test results (R458 to R469). -/
structure Tst where
  /-- an injection is set up or running (INJ_STAT.ACTIVE) -/
  inj : Bool := false
  /-- its entry has started since the set took effect -/
  injOn : Bool := false
  injEnd : BitVec 3 := 0#3
  injCnt : Nat := 0
  injValue : Word := 0#32
  injFlags : Nat := 0
  injAt : Nat := 0
  attached : Bool := false
  appHalt : Bool := false
  /-- lines whose last test failed (FAIL_MAP) -/
  failMap : BitVec 64 := 0#64
deriving DecidableEq, Repr

/-- A sample waiting at the integrity unit: from a Chamber, or a supply-sense quantity. -/
inductive IntgIn where
  | sample (x : Sample)
  | ssns (ch : Nat) (value : F32) (stamp : DWord)
deriving DecidableEq, Repr

/-- A sample that is provisional: what its stages gave, under the set it arrived under (R153, R161). -/
structure Prov where
  x : Sample
  /-- calibrated value (stages 2, 3) and linearised value (stage 4) -/
  cal : F32
  lin : F32
  /-- the highest quality code known at stage 5 -/
  qual : BitVec 4
  excFail : Bool := false
  agreeFail : Bool := false
  /-- the cross-check: none while it waits for a partner value, else whether it failed -/
  cross : Option Bool := some false
  xpair : Nat := 511
  xskew : Nat := 0
  xtol : F32 := 0#32
  /-- delivered provisionally (R175) -/
  candidate : Bool := false
  /-- SWAP_AVG holds the sample back, or it must be squashed with its predecessor (R169) -/
  silent : Bool := false
  pairSquash : Bool := false
  chmb : Bool := true
  /-- CH_CFG at its arrival (R161), the instant of its deadline, and whether the deadline has passed with a check open (R158) -/
  cf : Word := 0#32
  due : Nat := 0
  late : Bool := false
deriving DecidableEq, Repr

/-- A value a channel has shown: state 0 none, 1 provisional, 2 confirmed (PV_STAT). -/
structure PvVal where
  state : BitVec 2 := 0#2
  value : F32 := 0#32
  stamp : DWord := 0#64
  qual : BitVec 4 := 0#4
  seq : BitVec 16 := 0#16
deriving DecidableEq, Repr

/-- The record of one channel (R151, R179). -/
structure Chan where
  strike : Bool := false
  tmoStrike : Bool := false
  ocOpen : Bool := false
  qual : BitVec 4 := 0#4
  seq : BitVec 16 := 0#16
  confirmed : Bool := false
  lastValid : Option F32 := none
  lastCal : Option F32 := none
  lastLin : Option F32 := none
  /-- linearised values and stamps of the confirmed samples, latest first, for cross-checks (R167) -/
  confirmedY : List (F32 × DWord) := []
  /-- is the last confirmed item valid? -/
  valid : Bool := false
  filt : Option F32 := none
  hist : List F32 := []
  /-- samples confirmed since the last delivered item (R157, R175) -/
  count : Nat := 0
  delivered : Option (BitVec 4) := none
  prevCal : Option F32 := none
  prevSwapped : Bool := true
  prevSquashed : Bool := false
  prevValue : Option Word := none
  ssSeq : Nat := 0
  inflight : List Prov := []
  pv : PvVal := {}
  /-- what the PV window returns to when a provisional sample is squashed (R155) -/
  pvKept : PvVal := {}
  /-- the last sample as the duty sends it for shadow evaluation (R451): what stage 2 began with, its trim, and the stage-4 value and
  quality -/
  shadow : Option ShadowMsg := none
deriving DecidableEq, Repr

/-- A noise measurement in progress (R178): channel, samples wanted, taken, sum, sum of squares. -/
structure Noise where
  ch : Nat
  want : Nat
  got : Nat := 0
  sum : Int := 0
  sq : Nat := 0
deriving DecidableEq, Repr

/-- The integrity unit. -/
structure Intg where
  inq : List IntgIn := []
  chan : Tbl Chan := []
  noise : Option Noise := none
  noiseDone : Bool := false
  store : Bool := false
deriving DecidableEq, Repr

/-- A change item (R203), with the group binding of the point's descriptor. -/
structure ChgItem where
  index : Nat
  st : BitVec 3
  prev : BitVec 3
  prio : BitVec 2
  qual : BitVec 4
  act : Byte
  inst : Byte
  cause : Nat
  src : Nat
  stamp : DWord
  value : F32
  cdelta : Word
  grpEn : Bool
  group : BitVec 16
deriving DecidableEq, Repr

/-- An entry on its way to a host event queue: the context, KIND and the 24-byte body (R418). -/
structure HostEvt where
  ctx : Nat
  kind : Nat
  body : List Byte
deriving DecidableEq, Repr

/-- What reaches Echo: a change item of a point with its call class, a new CALL of a point (R245), a group's term with
whether N_UA rose (R245, R246), or a first-out decision (R247: FIRST_OUT or LATE). -/
inductive EchoIn where
  | point (c : ChgItem) (call : Nat)
  | recall (index call : Nat)
  | group (g call : Nat) (term : Bool) (rose : Bool)
  | firstOut (g call : Nat) (late : Bool) (point : Nat)
deriving DecidableEq, Repr

/-- A running delay timer of a condition (R191, R192): its direction, start, length in ms, and the STAMP of the item that started it. -/
structure Tmr where
  on : Bool
  at0 : Nat
  ms : Nat
  stamp : DWord
deriving DecidableEq, Repr

/-- The committed state of a point (R188 to R197). `st` takes the codes of R194. -/
structure PtCore where
  st : BitVec 3 := 7#3
  prio : BitVec 2 := 3#2
  c : Byte := 0#8
  a : Byte := 0#8
  tmr : Tbl (Option Tmr) := []
  inst : Byte := 0#8
  instTime : DWord := 0#64
  sup : Bool := false
  shelf : Bool := false
  oos : Bool := false
  first : Bool := false
  shelfAt : Nat := 0
  shelfS : Nat := 0
  /-- rate reference (R189) -/
  ref : Option (F32 × DWord) := none
  value : F32 := 0#32
  qual : BitVec 4 := 0#4
  seq : BitVec 16 := 0#16
  /-- the last committed valid VALUE (R190) -/
  valid : Option F32 := none
deriving DecidableEq, Repr

/-- A commit that waits for its suppression verdict (R204). -/
structure PtWait where
  core : PtCore
  cause : Nat
  src : Nat
  stamp : Option DWord
deriving DecidableEq, Repr

/-- One local point. -/
structure Point where
  core : PtCore := {}
  /-- the descriptor in use, sixteen words (R186); empty before any -/
  desc : List Word := []
  /-- an accepted descriptor that has not taken effect (R207) -/
  next : Option (List Word) := none
  /-- the input slot (R206) -/
  slot : Option Item := none
  /-- the item of the evaluation that runs, and what it took as it started: the descriptor and the value of DEV_REF (R199, R208) -/
  eval : Option Item := none
  evDesc : List Word := []
  evDev : Option F32 := none
  /-- a resolution that arrived while the evaluation ran (R199): confirmed with VALUE and QUAL, or squashed -/
  evalRes : Option (Option (F32 × BitVec 4)) := none
  /-- the evaluated provisional item that has no resolution yet (R198) -/
  prov : Option Item := none
  /-- its resolution, arrived and not yet applied -/
  res : Option (Option (F32 × BitVec 4)) := none
  /-- provisional items of a point with PROV_EVAL = 0, waiting for their resolution -/
  await : List Item := []
  wait : Option PtWait := none
  /-- CAUSE and STAMP of the last change item, for a snapshot (R221, R237) -/
  itCause : Nat := 0
  itStamp : DWord := 0#64
deriving DecidableEq, Repr

/-- A command held by a verdict wait (R204): its source, OP, TARGET and arguments, and COUNT and DENIED so far. -/
structure GalCmd where
  src : Nat
  op : Nat
  target : Nat
  arg : Word := 0#32
  before : DWord := 0#64
deriving DecidableEq, Repr

/-- The dry run of a staging slot (R209). -/
structure Dry where
  on : Bool := false
  point : Nat := 0
  c : Byte := 0#8
  a : Byte := 0#8
  tmr : Tbl (Option Tmr) := []
  ref : Option (F32 × DWord) := none
  rises : BitVec 16 := 0#16
  falls : BitVec 16 := 0#16
  err : Bool := false
  reason : Byte := 0#8
deriving DecidableEq, Repr

/-- The Gallery. -/
structure Gal where
  pts : Tbl Point := []
  /-- the ready queue (R206) -/
  ready : List Nat := []
  /-- points whose verdict is asked for, and the verdicts that have come -/
  vreq : List Nat := []
  vans : List (Nat × Bool) := []
  held : List GalCmd := []
  /-- expiries that fell due while the Gallery was frozen or the point waited: point, condition or 8 for the shelf -/
  due : List (Nat × Nat) := []
  descBad : Bool := false
  dry : Tbl Dry := []
deriving DecidableEq, Repr

/-- A record waiting for transmission as part of an event message of the alarm transport: TYPE and bytes (R236). -/
structure TxRec where
  typ : Nat
  body : List Byte
deriving DecidableEq, Repr

/-- The counts and first-out state of a group (R224). `fo` is 0 QUIET, 1 OPEN, 2 CLOSED. -/
structure GrpHdr where
  ua : Nat := 0
  aa : Nat := 0
  ur : Nat := 0
  sup : Nat := 0
  fo : BitVec 2 := 0#2
  masterFinal : Bool := false
  late : Byte := 0#8
  supc : Nat := 0
  foId : Nat := 0
  foStamp : DWord := 0#64
  closeAt : Nat := 0
  /-- TIME64 at which the window opened (R237) -/
  opened : DWord := 0#64
deriving DecidableEq, Repr

/-- What a node keeps of one member of a peer (R223): the uptime and content of its last heartbeat. -/
structure Member where
  at0 : Option Nat := none
  prio : Byte := 0#8
  flags : Byte := 0#8
  master : BitVec 16 := 0xFFFF#16
deriving DecidableEq, Repr

/-- The table entry of a peer node (R219 to R223, R502). -/
structure Node where
  seen : Bool := false
  lost : Bool := false
  resync : Bool := false
  syncDone : Bool := false
  pairId : BitVec 16 := 0#16
  session : Word := 0#32
  seq : Word := 0#32
  /-- a message has been applied, so SESSION and SEQ are known -/
  known : Bool := false
  m0 : Member := {}
  m1 : Member := {}
  /-- the member whose heartbeat arrived last -/
  last1 : Bool := false
  /-- a SYNC_REQ to it is outstanding; the SEQ of the message that marked it again meanwhile -/
  asked : Bool := false
  mark : Option Word := none
  /-- indices that the snapshot records since the last SYNC_END have named, the latest first (R221) -/
  named : List Nat := []
deriving DecidableEq, Repr

/-- What waits in the ingest queue (R218, R219): a record of a POINT_CHG or of a snapshot, a group record, an acknowledgement
record, or a SYNC_END with its count of records and its bitmap. -/
inductive NetIn where
  | point (node : Nat) (snapshot : Bool) (bytes : List Byte)
  | group (node : Nat) (bytes : List Byte)
  | ack (bytes : List Byte)
  | syncEnd (node count : Nat) (bitmap : List Byte)
deriving DecidableEq, Repr

/-- The grouping engine and the alarm transport. The mirror and the graph are in memory. -/
structure Grp where
  locals : List ChgItem := []
  inq : List NetIn := []
  peak : Nat := 0
  lsup : Tbl Nat := []
  /-- the SUP values last sent to the Gallery, and those on their way to it -/
  sent : Tbl Bool := []
  supq : List (Nat × Bool) := []
  grps : Tbl GrpHdr := []
  /-- the cause table, word 4 * entry + word (R226) -/
  causes : Tbl Word := []
  /-- per cause point: 0 idle, 1 asserting, 2 hold running, 3 hold due (R228) -/
  cstate : Tbl (BitVec 2) := []
  /-- holds and windows that fell due while frozen, in order: true for a hold -/
  due : List (Bool × Nat) := []
  chkBad : Bool := false
  edgeBad : Bool := false
  rebuild : Bool := false
  nodes : Tbl Node := []
  seq : Word := 0#32
  session : Word := 0#32
  txq : List TxRec := []
  master : Bool := false
  masterNode : Option Nat := none
  yielded : Bool := false
  /-- the 20 ms wait of R233 runs -/
  claimWait : Bool := false
  /-- the ring ports have joined, and SYNC_TMO has passed since (R222) -/
  started : Bool := false
  syncTmo : Bool := false
  /-- a snapshot has been asked for and not been sent (R221, R240) -/
  snapDue : Bool := false
  /-- the SYNC_REQ for all nodes has brought no SYNC_END (R221, R502) -/
  allAsked : Bool := false
  /-- the FINALs that taking the role asks for wait until the engine runs (R234, R239) -/
  finalsDue : Bool := false
deriving DecidableEq, Repr

/-- A call of Echo (R247): STATE 0 IDLE, 1 RINGING, 2 ACCEPTED; its targets by unit; `endAt` is the uptime at which the stage ends. -/
structure Call where
  st : BitVec 2 := 0#2
  stage : BitVec 3 := 0#3
  target : BitVec 64 := 0#64
  bridge : Bool := false
  emrg : Bool := false
  accSrc : Byte := 0xFF#8
  endAt : Nat := 0
deriving DecidableEq, Repr

/-- What Echo keeps of a local point with a call class (R245): the last STATE and INST, and the class. -/
structure EchoPt where
  st : BitVec 3
  inst : Byte
  call : Nat
deriving DecidableEq, Repr

/-- A call loop (R258 to R262): the loop address polled last, the one whose reply is awaited, and by loop address the units
whose key bits were taken, the missed polls, the lost units and the units rung by TEST_CU. -/
structure CallLine where
  last : Option Nat := none
  poll : Option Nat := none
  taken : BitVec 32 := 0#32
  missed : Tbl Nat := []
  lost : BitVec 32 := 0#32
  opened : Bool := false
  short : Bool := false
  /-- the driver is switched off (SHORT) -/
  off : Bool := false
  test : BitVec 32 := 0#32
  /-- ring picture of the last frame (RING_x) -/
  ring : BitVec 32 := 0#32
deriving DecidableEq, Repr

/-- The dead-man counter (R252 to R254): STATE 0 DISARMED, 1 RUNNING, 2 PREWARN, 3 EXPIRED; the uptime and period of the last
reload; its own copy of DM_PERIOD and DM_PREW; what happened while PD_GAL was off. -/
structure DeadMan where
  st : BitVec 2 := 0#2
  at0 : Nat := 0
  per : Nat := 1800
  cPer : BitVec 16 := 1800#16
  cPrew : BitVec 16 := 180#16
  owedPrew : Bool := false
  owedExp : Bool := false
  /-- what is owed came in Sleep (R264) -/
  slept : Bool := false
deriving DecidableEq, Repr

/-- Echo. -/
structure Echo where
  inq : List EchoIn := []
  calls : Tbl Call := []
  pts : Tbl (Option EchoPt) := []
  /-- groups whose term is 1, with their class (R245) -/
  grps : Tbl (Option Nat) := []
  /-- the schedule entry in use (R244) -/
  cur : Nat := 0
  /-- calls whose stage end fell due while Echo was frozen, in order -/
  due : List Nat := []
  dropped : Bool := false
  /-- frames since the start, modulo 4 -/
  fnum : BitVec 2 := 0#2
  a : CallLine := {}
  b : CallLine := {}
  /-- the picture held while Echo is frozen: RING, DMS and EMRG by unit and loop (R265) -/
  heldRing : BitVec 64 := 0#64
  heldDms : BitVec 64 := 0#64
  heldEmrg : BitVec 2 := 0#2
  /-- the filtered states of the DIs as Echo knows them (R253) -/
  di : BitVec 64 := 0#64
  dm : DeadMan := {}
deriving DecidableEq, Repr
/-- One digital input: filtered and raw state, wire break, whether it has issued an item since it was enabled, the state its last
item showed, the stamp of the raw edge that waits while field I/O is frozen, and the gate of its counter path (R301 to R304). -/
structure DiCh where
  filt : Bool := false
  raw : Bool := false
  wb : Bool := false
  first : Bool := false
  last : Bool := false
  edge : DWord := 0#64
  gateN : Nat := 0
  gateFirst : DWord := 0#64
  gateLast : DWord := 0#64
deriving DecidableEq, Repr

/-- One push-pull output (R309 to R311): its fault bits, whether protection holds it off, the duty its slot latched last, the
effective duty of the running period in LOOP mode, and the uptime at which that period began. -/
structure DoCh where
  sc : Bool := false
  therm : Bool := false
  rbErr : Bool := false
  openLoad : Bool := false
  tripped : Bool := false
  latched : Option Nat := none
  eff : Option Nat := none
  perAt : Nat := 0
deriving DecidableEq, Repr

/-- One analog output (R313, R315): its fault bits and the code its slot latched last. -/
structure AoCh where
  loopBreak : Bool := false
  short : Bool := false
  latched : Option Nat := none
deriving DecidableEq, Repr

/-- Field I/O. -/
structure Fio where
  di : Tbl DiCh := []
  dout : Tbl DoCh := []
  ao : Tbl AoCh := []
  /-- DOs in ALARM mode that have been released (R317) -/
  rel : BitVec 32 := 0#32
  /-- supply faults: DOV_0 to DOV_3, AOV_0, AOV_1 (R312) -/
  sup : BitVec 6 := 0#6
  /-- the force lock: its holder and the uptime at which it expires (R320) -/
  lock : Option Ctx := none
  lockUntil : Nat := 0
  /-- what each output was told when field I/O froze (R318) -/
  heldDo : Tbl DoCmd := []
  heldAo : Tbl (Option Nat) := []
  /-- the mirrored commands of paired outputs (R322) -/
  mirDo : Tbl DoCmd := []
  mirAo : Tbl (Option Nat) := []
  /-- WAKE_EN as the wake sense took it at Sleep entry (R305) -/
  wakeEn : Byte := 0#8
deriving DecidableEq, Repr
/-- The histories of a notch (R283). -/
structure Notch where
  x1 : Int := 0
  x2 : Int := 0
  y1 : Int := 0
  y2 : Int := 0
deriving DecidableEq, Repr

/-- The part of a slot's state that a shadow saves (R292). -/
structure SlotCore where
  pp : Int := 0
  v : Int := 0
  a : Int := 0
  i : Int := 0
  fbPrev : Int := 0
  n0 : Notch := {}
  n1 : Notch := {}
  held : Option Int := none
  miss : Nat := 0
deriving DecidableEq, Repr

/-- A freeze window (R289): time in ns. -/
structure FrzWin where
  fbRef : Int
  outRef : Int
  t : Nat := 0
  x : Int := 0
deriving DecidableEq, Repr

/-- What a slot's strobe gave in this frame: the evaluated sample with its FX and quality, or NO_SAMPLE (R177, R121). -/
inductive FbArr where
  | value (seq : Nat) (fx : Int) (qual : BitVec 4)
  | noSample
deriving DecidableEq, Repr

/-- What a standby holds of its duty's slot (R449). -/
structure SlotMirror where
  mode : BitVec 3
  trips : BitVec 3
  out : Int
  i : Int
  sp : Int
deriving DecidableEq, Repr

/-- A loop slot. MODE takes the codes of S_STAT: 0 OFF, 1 AUTO, 2 MANUAL, 3 HOLD, 4 SAFE; trip bits 0 FB_LOSS, 1 FREEZE, 2 FOLLOW. -/
structure Slot where
  mode : BitVec 3 := 0#3
  trips : BitVec 3 := 0#3
  core : SlotCore := {}
  /-- a shadow, with the SEQ and FX of the provisional sample that was used -/
  shadow : Option (Nat × Int × SlotCore) := none
  sat : Bool := false
  fbOk : Bool := false
  prov : Bool := false
  casc : Bool := false
  cmdRes : BitVec 4 := 0#4
  /-- the last output, and what reading slots see of it since its last OUT_PHASE -/
  out : Int := 0
  lat : Int := 0
  latProv : Bool := false
  fb : Int := 0
  sp : Int := 0
  err : Int := 0
  /-- was the last feedback provisional (R277), and has the slot been released since the page's reset (R275)? -/
  fbProv : Bool := false
  wasRel : Bool := false
  frz : Option FrzWin := none
  tFe : Nat := 0
  /-- commands that wait for the next execution -/
  cmds : List (BitVec 2) := []
  /-- the slot's execution cycle: it runs in the next frame, in this one, has executed in it, and its output waits for OUT_PHASE -/
  next : Bool := false
  runs : Bool := false
  execd : Bool := false
  due : Bool := false
  /-- what the run of this frame uses of the registers that a set has changed since the run began (R270) -/
  old : List (Nat × Word) := []
  /-- the uptime of the ready tick, and the deadline of SPEC_FB = 0 has passed (R271, R272) -/
  readyAt : Nat := 0
  late : Bool := false
  /-- a sample on its way through the loop-side evaluator -/
  evalIn : Option Sample := none
  arr : Option FbArr := none
  /-- the resolution of the arrived sample, for SPEC_FB = 0 -/
  res : Option (Option (BitVec 4)) := none
  /-- resolutions that have arrived and not been taken: the sample (channel and SEQ), and the quality or a squash -/
  resIn : List (Nat × Option (BitVec 4)) := []
  /-- resolutions of a sample that the evaluator or the execution has not taken yet (R272, R292) -/
  early : List (Nat × Option (BitVec 4)) := []
  /-- evaluated samples that are unresolved, with their FX -/
  waits : List (Nat × Int) := []
  /-- a status item of the channel came (R163) -/
  status : Bool := false
  lastFx : Int := 0
  /-- frames resumed after a freeze (R295) -/
  resumed : Bool := false
  mirror : Option SlotMirror := none
deriving DecidableEq, Repr

/-- The loop engine. -/
structure LoopEng where
  slots : Tbl Slot := []
deriving DecidableEq, Repr
/-- A network value (R378): its value, whether it is stale, updates modulo 65,536, and the uptime of the last one. -/
structure NvEnt where
  value : Word := 0#32
  stale : Bool := true
  /-- the last valid value of a receiving entry (R275) -/
  good : Option Word := none
  upd : BitVec 16 := 0#16
  at0 : Nat := 0
deriving DecidableEq, Repr

/-- An entry of the duplicate table (R373): source MAC, sequence number, uptime, and the ports it came in on. -/
structure DupEnt where
  mac : BitVec 48
  seq : BitVec 16
  at0 : Nat
  fromA : Bool
  fromB : Bool
deriving DecidableEq, Repr

/-- A management session (R381): its nonce, the last accepted CTR, and the sender of the last accepted request. -/
structure MgmtSess where
  nonce : BitVec 128
  /-- CTR of the last accepted request -/
  ctr : Option Nat := none
  peer : Option (BitVec 48) := none
deriving DecidableEq, Repr

/-- A CAN controller (R390): STATE 0 error-active, 1 error-passive, 2 bus-off. -/
structure CanSt where
  st : BitVec 2 := 0#2
  tec : Nat := 0
  rx : Nat := 0
  /-- RESTART has been written since bus-off -/
  restart : Bool := false
deriving DecidableEq, Repr

/-- The network core, with the CAN and serial controllers and the wake controller's part of the sleep link. -/
structure Net where
  nv : Tbl NvEnt := []
  /-- sending entries latched or written since the last NV message, in order (R379, R380) -/
  nvDue : List (Nat × Word) := []
  linkA : Bool := false
  linkB : Bool := false
  svcUp : Bool := false
  supSeq : BitVec 16 := 0#16
  dup : List DupEnt := []
  sess6 : Option MgmtSess := none
  sess7 : Option MgmtSess := none
  notifyCtr : Nat := 0
  /-- CTX_PEND_6 was non-zero when it was last looked at (R382) -/
  notified : Bool := false
  /-- the wake controller's own copy of T1S_CFG, T1S_WCODE and the node ID, and the PLCA IDs present (R384, R385) -/
  t1sCfg : Word := 0x200080#32
  t1sCode : Word := 0#32
  t1sNode : BitVec 12 := 0#12
  present : BitVec 16 := 0#16
  can : Tbl CanSt := []
  /-- the last record of the port had a line error (R401) -/
  serFault : BitVec 6 := 0#6
  pmbAlert : Bool := false
deriving DecidableEq, Repr
/-- A descriptor (R413). -/
structure QDesc where
  src : Nat
  dst : Nat
  len : Nat
  ctrl : Nat
deriving DecidableEq, Repr

/-- A descriptor in work (R414 to R417, R430): bytes completed, what has been gathered for the function, the bytes that come back
from it and how many of them are written, its CODE once settled, and its FUNC result. -/
structure QRun where
  d : QDesc
  prog : Nat := 0
  buf : List Byte := []
  back : Option (List Byte) := none
  given : Nat := 0
  code : Option Nat := none
  res : Option DWord := none
deriving DecidableEq, Repr

/-- A DMA queue (R412 to R433): what its sub-block's registers do not hold. -/
structure Queue where
  head : BitVec 16 := 0#16
  tail : BitVec 16 := 0#16
  faulted : Bool := false
  stopped : Bool := false
  cmdRes : BitVec 2 := 0#2
  fAddr : DWord := 0#64
  fInfo : Word := 0#32
  fProg : Nat := 0
  irq : BitVec 5 := 0#5
  mask : BitVec 5 := 0#5
  run : Option QRun := none
  /-- a record that the link holds for this queue, with the TIME64 of its first bit (R430) -/
  held : Option (List Byte × DWord) := none
  /-- event queue: entries written, and entries lost since the last loss entry (R418, R419) -/
  eseq : Word := 0#32
  lost : Nat := 0
  promoted : Bool := false
deriving DecidableEq, Repr

/-- A cached translation (R426): its domain, walk level, IOVA and physical page in units of its size, and its permissions. -/
structure TlbEnt where
  dom : Nat
  level : Nat
  vpn : Nat
  ppn : Nat
  r : Bool
  w : Bool
deriving DecidableEq, Repr

/-- The first inbound fault (R427). -/
structure InFault where
  valid : Bool := false
  reason : Nat := 0
  ctx : Ctx := 0#3
  write : Bool := false
  addr : DWord := 0#64
deriving DecidableEq, Repr

/-- What a QSPI port keeps: ERR_CODE of its status byte, 0 while ERR is 0 (R411). -/
structure QspiPort where
  err : BitVec 3 := 0#3
deriving DecidableEq, Repr

/-- The DMA engine, the IOMMU and the QSPI ports. -/
structure Dma where
  q : Tbl Queue := []
  tlb : List TlbEnt := []
  /-- invalidations under way: OP, domain, IOVA (R426) -/
  inv : List (Nat × Nat × Nat) := []
  inFault : InFault := {}
  qspi0 : QspiPort := {}
  qspi1 : QspiPort := {}
deriving DecidableEq, Repr

/-- What a mirror record is about (R449). -/
inductive MirKey where
  | dout (n : Nat)
  | aout (n : Nat)
  | point (p : Nat)
  | call (k : Nat)
  | deadMan
  | slot (n : Nat)
deriving DecidableEq, Repr

/-- A point whose commit waits to be mirrored: the change item of its commits since, and the TIME64 of the last (R449). -/
structure MirDue where
  p : Nat
  item : Option (Byte × Byte × DWord)
  commit : DWord
deriving DecidableEq, Repr

/-- A MIRROR or SNAP frame (R442, R444). -/
structure MirFrame where
  mseq : Word
  snap : Bool
  recs : List MirRec
deriving DecidableEq, Repr

/-- Rope (chapter "Rope: Duty/Standby Pairing"). -/
structure Rope where
  /-- 0 SOLO, 1 INIT, 2 CATCHUP, 3 STANDBY, 4 TAKEOVER, 5 DUTY, 6 FAULT (R445) -/
  role : BitVec 3 := 0#3
  /-- ROLE and FLAGS of the partner's last heartbeat; 7 unknown -/
  peerRole : BitVec 3 := 7#3
  peerFlags : Byte := 0#8
  linkUp : Bool := false
  linkFault : Bool := false
  /-- uptime of the last test pulse seen on FENCE_IN_N (R444) -/
  fenceAt : Option Nat := none
  cold : Bool := false
  /-- CMD_RES is STATE -/
  refused : Bool := false
  /-- consecutive missed intervals -/
  miss : Nat := 0
  peerLost : Bool := false
  /-- a handover has been commanded -/
  handover : Bool := false
  /-- MSEQ of the last frame sent, and of the last one received in order; the partner's acknowledgement and the duty's EVT_SEQ -/
  mseq : Word := 0#32
  ack : Word := 0#32
  peerAck : Word := 0#32
  evtSeq : Word := 0#32
  /-- on the standby: a full copy has begun, and is complete (R455) -/
  snapOn : Bool := false
  copied : Bool := false
  /-- on the duty: a full copy has been started for this partner, and what is left of it -/
  snapSent : Bool := false
  snap : List MirKey := []
  due : List MirDue := []
  /-- what the last records said, with the uptime of the periodic ones -/
  sentDo : Tbl DoCmd := []
  sentAo : Tbl (Option Nat) := []
  sentCall : Tbl (Option (Call × Nat)) := []
  sentDm : Option (DeadMan × Nat) := none
  sentSlot : Tbl (Option (BitVec 3 × Nat)) := []
  /-- the last 64 KiB of frames, oldest first (R444) -/
  frames : List MirFrame := []
  /-- the channel whose sample is sent next (R451) -/
  shadowCh : Nat := 0
  /-- health counters since enable (R454) -/
  reports : Word := 0#32
  hbMiss : Word := 0#32
  linkErr : Word := 0#32
  shadowCnt : Word := 0#32
  shadowMis : Word := 0#32
  flowTests : Word := 0#32
  dramPass : Word := 0#32
  dramCe : Word := 0#32
  dramUe : Word := 0#32
  /-- uptime of the last shadow mismatch -/
  misAt : Option Nat := none
  flowOk : Bool := true
  /-- Chambers injected since STANDBY was entered, and those whose last injection failed -/
  chmbRan : Byte := 0#8
  chmbFail : Byte := 0#8
  /-- applied changes of the last second: uptime and lag in us (R450) -/
  lags : List (Nat × Nat) := []
  own : List Byte := []
  peer : List Byte := []
deriving DecidableEq, Repr

/-- What one island presents to another (R13). -/
inductive Payload where
  /-- an item for the Gallery -/
  | item (i : Item)
  /-- a second tick, calendar commit, periodic wake or calendar alarm of the Grotto (R97, R99, R103, R104); `slot`: it is a commit, or the
  tick made MIN a multiple of 15 (R244) -/
  | grotto (slot : Bool)
  /-- a Chamber sample for the integrity unit -/
  | sample (x : Sample)
  /-- a supply-sense quantity for the integrity unit: channel, binary32 value, stamp (R148) -/
  | ssns (ch : Nat) (value : F32) (stamp : DWord)
  /-- a feedback sample for a loop slot -/
  | feedback (slot : Nat) (x : Sample)
  /-- a FEEDBACK strobe answered NO_SAMPLE (R121) -/
  | noSample (slot : Nat)
  /-- the resolution of a feedback sample, for the loop engine: channel, SEQ, and the confirmed quality or a squash (R177) -/
  | fbResolved (ch : Nat) (seq : Nat) (r : Option (BitVec 4))
  /-- a status item of a channel, for the loop engine (R163) -/
  | fbStatus (ch : Nat) (qual : BitVec 4)
deriving DecidableEq, Repr

/-- A value or event on its way between islands: the line of the block that sent it, the line it goes to (R13, R14). -/
structure Xing where
  src : Nat
  dst : Nat
  what : Payload
deriving DecidableEq, Repr

/-- What the block sends to the outside, in order (`State.out`; log entry 6). -/
inductive Out where
  /-- an MSI-X vector of PCIE_n (R76, R77, R433) -/
  | msix (port : Nat) (vector : Nat)
  /-- a message of the alarm transport, to the event group or to the snapshot group (R235) -/
  | alarm (group : Word) (port : BitVec 16) (bytes : List Byte)
  /-- a downlink frame on CALL_A (0) or CALL_B (1), bit 87 first (R258) -/
  | callFrame (loop : Nat) (bits : BitVec 88)
  /-- bytes written to the host bus of PCIE_n (R414) -/
  | hostWrite (port : Nat) (addr : Nat) (bytes : List Byte)
  /-- bytes that a QSPI port returns (R409 to R411) -/
  | qspi (port : Nat) (bytes : List Byte)
  /-- what a link sends for a queue, by Q_CFG.TARGET (R414) -/
  | linkFrame (target : Nat) (bytes : List Byte)
  /-- a frame that leaves a ring port: 0 RING_A, 1 RING_B (R373) -/
  | ringFrame (port : Nat) (bytes : List Byte)
  /-- a PTP event message forwarded with its residence time in ns added to its correction field (R377) -/
  | ptpForward (port : Nat) (bytes : List Byte) (residence : Nat)
  /-- an HSR or PRP supervision frame on both ring ports, with its sequence number (R373) -/
  | supervision (seq : Nat)
  /-- the answer to an ARP or ICMP echo request, of the ring ports or of the service port (R374, R383) -/
  | answer (svc : Bool) (request : List Byte)
  /-- an NV message to its multicast group and port (R379) -/
  | nv (group : Word) (port : BitVec 16) (bytes : List Byte)
  /-- a management message to a manager's address and port, by the ring or by the service port (R382) -/
  | mgmt (svc : Bool) (peer : BitVec 48) (bytes : List Byte)
  /-- a sleep-link message (R385) -/
  | t1s (bytes : List Byte)
  /-- a Rope HEARTBEAT or HEALTH frame, by TYPE (R442, R443, R454) -/
  | rope (typ : Nat) (bytes : List Byte)
  /-- a Rope MIRROR or SNAP frame (R444, R449, R455) -/
  | mirror (f : MirFrame)
  /-- a Rope SHADOW frame (R451) -/
  | shadow (m : ShadowMsg)
  /-- a pulse on ROPE_FENCE_OUT, in ns (R444, R447) -/
  | fence (ns : Nat)
deriving DecidableEq, Repr

/-- The state of the block. `act` holds the value in use of every register that is plain storage, `stg` the staged
values of RWS fields, both keyed by the register's offset in the register space (a windowed register by that offset
plus (item + 1) * 2^32). -/
structure State where
  /-- the waiting commands, first in, first out -/
  pending : List Instr := []
  /-- nanoseconds since the supply came on; the model's time base (log entry 5) -/
  now : Nat := 0
  /-- how many free values have been drawn (the model's own field, log entry 1) -/
  fresh : Nat := 0
  mem : List Host.Cell := []
  hdr : Tbl Hdr := []
  act : Tbl Word := []
  stg : Tbl (Option Word) := []
  /-- data of the last read command -/
  rdata : DWord := 0#64
  otp : Otp := {}
  /-- link state of the host ports PCIE_0, PCIE_1, QSPI_0, QSPI_1, from bit 0 -/
  hostUp : BitVec 4 := 0x0#4
  pwr : Pwr := {}
  clk : Clk := {}
  ptp : Ptp := {}
  grot : Grot := {}
  flow : Flow := {}
  lant : Lant := {}
  bist : Bist := {}
  chmb : Tbl Chmb := []
  ssns : Ssns := {}
  intg : Intg := {}
  test : Tst := {}
  gal : Gal := {}
  grp : Grp := {}
  echo : Echo := {}
  fio : Fio := {}
  loop : LoopEng := {}
  net : Net := {}
  dma : Dma := {}
  rope : Rope := {}
  /-- the pinned regions are locked, and why a lock failed last (R431) -/
  pinLocked : Bool := false
  pinErr : Byte := 0#8
  /-- entries on their way to host event queues, oldest first (R418) -/
  evq : List HostEvt := []
  /-- TIME64 of the last loop frame's start -/
  loopFrameTime : Nat := 0
  /-- values and events crossing between islands, oldest first -/
  xing : List Xing := []
  /-- items waiting in the Gallery's input, oldest first -/
  galIn : List GalMsg := []
  /-- lines whose interrupt is asserted towards PCIE_0 and PCIE_1 (R76, R77) -/
  msi0 : List Nat := []
  msi1 : List Nat := []
  out : List Out := []
deriving DecidableEq, Repr

/-- A header after a module reset (R68). -/
def Hdr.resetOf (u : Nat) : Hdr :=
  { en := u ≤ 3 || (36 ≤ u && u ≤ 42) || u = 44, lock := u = 0 }

/-- The machine right after a reset that follows VIN good: the start-up timeline of R49 is at its 10 ms step, no image
has been verified, no block but those of R68 is enabled, and no command waits. -/
def State.reset : State := {}

end Sys2Proof.Machine
end

