-- ==== Sys2Proof/Machine/Ops.lean ====
section
/-! DEFINITION. The named operations over State that every family shares: headers and registers, the error capture of R74,
interrupt latches, counters, domains, crossings, time, and records for Flowstone. -/
namespace Sys2Proof.Machine

/-- The header of a unit. -/
def hdr (s : State) (u : Nat) : Hdr := tget s.hdr u (Hdr.resetOf u)

/-- Replace the header of a unit. -/
def setHdr (s : State) (u : Nat) (h : Hdr) : State := { s with hdr := tset s.hdr u h (Hdr.resetOf u) }

/-- The value in use at a register key. -/
def rget (s : State) (k : Nat) : Word := tget s.act k (resetOfKey k)

/-- Put a value in use at a register key. -/
def rset (s : State) (k : Nat) (v : Word) : State := { s with act := tset s.act k v (resetOfKey k) }

/-- The value in use of a unit's register. -/
def reg (s : State) (u o : Nat) : Word := rget s (rk u o)

/-- Put a value in use in a unit's register. -/
def setReg (s : State) (u o : Nat) (v : Word) : State := rset s (rk u o) v

/-- Field `[hi:lo]` of a unit's register, the value in use. -/
def cfg (s : State) (u o hi lo : Nat) : Nat := fld (reg s u o) hi lo

/-- Bit `i` of a unit's register, the value in use. -/
def cfgBit (s : State) (u o i : Nat) : Bool := bit (reg s u o) i

/-- Field of a windowed register's item. -/
def wcfg (s : State) (u o i hi lo : Nat) : Nat := fld (rget s (wk u o i)) hi lo

/-- The staged value of the RWS bits at a key: what was written last, else the value in use. -/
def stagedAt (s : State) (k : Nat) : Word :=
  match tget s.stg k none with
  | some v => v
  | none => rget s k &&& rwsOfKey k

/-- Stage a value at a key. -/
def stage (s : State) (k : Nat) (v : Word) : State := { s with stg := tset s.stg k (some v) none }

/-- The staged values of a unit that differ from the values in use. -/
def stagedOf (s : State) (u : Nat) : List (Nat × Word) :=
  s.stg.filterMap (fun e => match e.2 with
    | some v => if keyUnit e.1 = u ∧ v ≠ rget s e.1 &&& rwsOfKey e.1 then some (e.1, v) else none
    | none => none)

/-- Set every staged field of a unit to its active value (R73, R80). A field that was not written since follows the value in use, but a
field of a set that is still pending stays at what it is set to here, once that set takes effect. -/
def discardStaged (s : State) (u : Nat) : State :=
  let s := { s with stg := s.stg.filter (fun e => keyUnit e.1 ≠ u) }
  ((hdr s u).pend.getD []).foldl (fun t e => stage t e.1 (rget t e.1 &&& rwsOfKey e.1)) s

/-- Is a power domain on? -/
def domOn (s : State) (d : Nat) : Bool := s.pwr.doms.getLsbD d

/-- Turn power domains on or off by mask. -/
def domsSet (s : State) (m : BitVec 16) : State := { s with pwr.doms := s.pwr.doms ||| m }
def domsClear (s : State) (m : BitVec 16) : State := { s with pwr.doms := s.pwr.doms &&& ~~~m }

/-- The display pages of the -B variant are absent (R4). -/
def present (s : State) (u : Nat) : Bool := s.otp.variantA || !(u = lLANT || u = lBIST)

/-- Is the page of a unit powered? -/
def unitOn (s : State) (u : Nat) : Bool := domOn s (unitDom u)

/-- The blocks that stop in degraded mode (R35, R59): Chambers and supply sense, Gallery, grouping, Echo, loop engine and displays. -/
def stopsDegraded (u : Nat) : Bool := (5 ≤ u && u ≤ 13) || (15 ≤ u && u ≤ 18) || u = lLANT || u = lBIST

/-- The alarm and loop blocks that stop at the start of the power-fail sequence (R44). -/
def stopsPowerFail (u : Nat) : Bool := 15 ≤ u && u ≤ 18

/-- Is the module the standby of a Rope pair (CATCHUP or STANDBY, R445)? -/
def standby (s : State) : Bool := s.rope.role = 2#3 || s.rope.role = 3#3

/-- Does the block of a page do its work: present, powered, enabled, not frozen, and not stopped by the module's state? -/
def works (s : State) (u : Nat) : Bool :=
  present s u && unitOn s u && (hdr s u).en && !(hdr s u).frozen &&
  !(s.pwr.degraded && stopsDegraded u) && !(decide (s.pwr.phase = .powerFail) && stopsPowerFail u)

/-- As `works`, for what goes on while the block is frozen. -/
def alive (s : State) (u : Nat) : Bool :=
  present s u && unitOn s u && (hdr s u).en &&
  !(s.pwr.degraded && stopsDegraded u) && !(decide (s.pwr.phase = .powerFail) && stopsPowerFail u)

/-- ERR_INFO captures the first error; a later one only sets OVERFLOW (R74). -/
def captureAt (s : State) (u : Nat) (c : Ctx) (w : Bool) (code off page : Nat) : State :=
  let h := hdr s u
  if h.err.valid then setHdr s u { h with err := { h.err with overflow := true } }
  else setHdr s u { h with
    err := ⟨true, false, c, w, BitVec.ofNat 4 code, BitVec.ofNat 12 off, BitVec.ofNat 9 page⟩,
    latched := h.latched ||| 0x80000000#32 }

/-- Capture with PAGE 0. -/
def capture (s : State) (u : Nat) (c : Ctx) (w : Bool) (code off : Nat) : State := captureAt s u c w code off 0

/-- The device-fault capture of R58 replaces what ERR_INFO held. -/
def captureFault (s : State) (u : Nat) (w : Bool) : State :=
  let h := hdr s u
  setHdr s u { h with err := ⟨true, h.err.valid, 0#3, w, 0xF#4, 0#12, 0#9⟩, latched := h.latched ||| 0x80000000#32 }

/-- Set a latched source of IRQ_RAW (R75). -/
def raise (s : State) (u i : Nat) : State :=
  let h := hdr s u
  setHdr s u { h with latched := h.latched ||| BitVec.ofNat 32 (2 ^ i) }

/-- Set a latched source when a condition holds. -/
def raiseIf (b : Bool) (s : State) (u i : Nat) : State := if b then raise s u i else s

/-- Add to a counter field of `n` bits at bit `lo` of a register, saturating. -/
def countUp (s : State) (u o lo n : Nat) : State :=
  let w := reg s u o
  let v := satInc n (fld w (lo + n - 1) lo)
  setReg s u o (maskMerge (BitVec.ofNat 32 ((2 ^ n - 1) * 2 ^ lo)) w (BitVec.ofNat 32 (v * 2 ^ lo)))

/-- Write the bits of a field of a register. -/
def setFld (s : State) (u o hi lo v : Nat) : State :=
  setReg s u o (maskMerge (BitVec.ofNat 32 ((2 ^ (hi + 1 - lo) - 1) * 2 ^ lo)) (reg s u o) (BitVec.ofNat 32 (v * 2 ^ lo)))

/-- A fresh value that the spec leaves open. -/
def draw (s : State) : Word × State := (Config.freeWord s.fresh, { s with fresh := s.fresh + 1 })

/-- The value dropped at a crossing into an off domain is counted for the block that sent it (R14, R78), on the SYS page in PD_AON. -/
def dropAbsent (s : State) (line : Nat) : State := if domOn s dAON then countUp s lSYS (0x200 + 4 * line) 0 16 else s

/-- Present a value to another island (R13); where the domain of its destination is off it is dropped at once and counted (R14). -/
def send (s : State) (src dst : Nat) (p : Payload) : State :=
  if unitOn s dst then { s with xing := s.xing ++ [⟨src, dst, p⟩] } else dropAbsent s src

/-- Domains have gone off: what was on its way into them is dropped and counted (R14), so that nothing is delivered later. -/
def dropXing (s : State) : State :=
  (s.xing.filter (fun x => !unitOn s x.dst)).foldl (fun t x => dropAbsent t x.src) { s with xing := s.xing.filter (fun x => unitOn s x.dst) }

/-- TIME64 as the blocks stamp it: the counter, interpolated to 2 ns (R88). -/
def time64 (s : State) : DWord := s.ptp.time + BitVec.ofNat 64 (2 * s.ptp.sub.toNat)

/-- The low `n` bytes of a number, little-endian. -/
def leBytes : Nat → Nat → List Byte
  | 0, _ => []
  | n + 1, v => BitVec.ofNat 8 v :: leBytes n (v / 256)

/-- The number little-endian bytes spell. -/
def leNat : List Byte → Nat
  | [] => 0
  | b :: r => b.toNat + 256 * leNat r

/-- Hand a record to Flowstone (R14, R356): into an off domain it is dropped and counted for the sending block. -/
def flowRec (s : State) (line : Nat) (src : BitVec 4) (typ : Byte) (payload : List Byte) : State :=
  if !unitOn s lFLOW then dropAbsent s line
  else { s with flow := { s.flow with arriving := s.flow.arriving ++ [⟨src, typ, payload⟩] } }

/-- Hand an entry to a host event queue (R14, R418). -/
def hostEvent (s : State) (line ctx kind : Nat) (body : List Byte) : State :=
  if !domOn s dHOST then dropAbsent s line else { s with evq := s.evq ++ [⟨ctx, kind, body⟩] }

/-- The contexts of a HOSTQ mask. -/
def ctxsOf (mask : Nat) : List Nat := (List.range 8).filter (fun x => mask.testBit x)

/-- Base of a pinned region, once the declaration is locked (R431, R432): the words at DMA 0x180 on. -/
def pinBase (s : State) (o : Nat) : Nat := if s.pinLocked then (reg s lDMA o).toNat else 0
def descBase (s : State) : Nat := pinBase s 0x180
def loopBase (s : State) : Nat := pinBase s 0x184
def mirrorBase (s : State) : Nat := pinBase s 0x188
def graphBase (s : State) : Nat := pinBase s 0x18C
def graphSize (s : State) : Nat := pinBase s 0x190

/-- SUPPLY_STAT (PWR 0x100). -/
def supplyStat (s : State) : Word :=
  bitw s.pwr.vinGood 0 ||| bitw s.pwr.dip 1 ||| bitw s.pwr.fail 2 ||| bitw s.pwr.overV 3 |||
  bitw s.pwr.holdReady 4 ||| bitw s.pwr.holdFault 5 ||| bitw s.pwr.vbat 6

/-- The binary32 numbers 1.0 and 0.0. -/
def f32One : F32 := 0x3F800000#32
def f32Zero : F32 := 0#32
def f32Bool (b : Bool) : F32 := if b then f32One else f32Zero

/-- One event of a supply flag: an item of the supply point for the Gallery and a device record (R43). -/
def supplyEvent (s : State) (idx : Nat) (b : Bool) : State :=
  let s := send s lPWR lGAL (.item { srcType := 4#3, idx := BitVec.ofNat 9 idx, value := f32Bool b, stamp := time64 s })
  flowRec s lPWR 0#4 3#8 (leBytes 4 (supplyStat s).toNat)

/-- The page whose ERR_INFO and interrupts serve a unit. R64 gives a sub-block neither: a captured access to one stands in the ERR_INFO
of LOOP or DMA common, its OFFSET the low 12 bits of the address (DESIGN CHOICE, log entry 68). -/
def pageOf (u : Nat) : Nat := if u < 64 then u else if u < 128 then lLOOP else lDMA

/-- Is a unit's LIVE mode on (R83)? The sub-blocks follow BLK_CTRL.LIVE of their page (R298). -/
def liveOn (s : State) (u : Nat) : Bool := (hdr s (pageOf u)).live

/-- The units that a page's header serves: the page, and its sub-blocks (R64). -/
def unitsOf (u : Nat) : List Nat :=
  if u = lLOOP then u :: (List.range 64).map (64 + ·) else if u = lDMA then u :: (List.range 64).map (128 + ·) else [u]

/-- The part of a pending set that `p` picks takes effect (R80 step 4, R81); when nothing of the set is left, PENDING clears, GEN
counts and APPLY_DONE is latched. Answers also the keys whose value in use changed. -/
def takePart (s : State) (u : Nat) (p : Nat → Bool) : State × List Nat :=
  match (hdr s u).pend with
  | none => (s, [])
  | some set =>
    let now := set.filter (fun e => p e.1)
    let rest := set.filter (fun e => !p e.1)
    let changed := (now.filter (fun e => e.2 ≠ rget s e.1 &&& rwsOfKey e.1)).map (·.1)
    let s := now.foldl (fun t e => rset t e.1 (maskMerge (rwsOfKey e.1) (rget t e.1) e.2)) s
    let h := hdr s u
    if !rest.isEmpty then (setHdr s u { h with pend := some rest }, changed)
    else if h.livePend then (setHdr s u { h with pend := none, livePend := false }, changed)
    else (raise (setHdr s u { h with pend := none, gen := h.gen + 1 }) (pageOf u) 30, changed)

/-- A pending set takes effect, all its fields together (R80 step 4). -/
def takeEffect (s : State) (u : Nat) : State × List Nat := takePart s u (fun _ => true)

/-- Is the path of a context itself running (R66)? -/
def pathUp (s : State) (c : Ctx) : Bool :=
  if c = 0#3 then domOn s dSAFE && !s.pwr.safeHalt
  else if c = 1#3 then domOn s dAPP && s.pwr.appRunning
  else if c.toNat ≤ 5 then domOn s dHOST && s.hostUp.getLsbD (c.toNat - 2)
  else domOn s dNET

/-- Does the module serve a context (R62, R66)? Nothing is accessed while the module is off, in reset or RETIRED (but for what
`retiredRead` answers); recovery serves CTX_4 alone (R51). -/
def pathOk (s : State) (c : Ctx) : Bool :=
  (match s.pwr.phase with
    | .off => false
    | .inReset => false
    | .retired => false
    | .recovery => decide (c = 4#3)
    | _ => true) && pathUp s c

/-- What a RETIRED module answers (R62): reads of BLK_ID, BLK_VER, LC_STAT and the device ID, to any context whose path runs (DEDUCED,
log entry 73). -/
def retiredRead (s : State) (c : Ctx) (u o : Nat) (w : Bool) : Bool :=
  decide (s.pwr.phase = .retired) && pathUp s c && !w &&
  ((decide (u < 64) && (decide (o = 0) || decide (o = 4))) ||
   (decide (u = lPWR) && (decide (o = 0x140) || (decide (0x160 ≤ o) && decide (o < 0x170)))))

/-- A register access that arrives on a context's path at offset `o` of unit `u` (R4, R65, R66): `k` is what the page does. -/
def access (s : State) (c : Ctx) (u o : Nat) (w : Bool) (k : State → State) : State :=
  if !(pathOk s c || retiredRead s c u o w) then s
  else if !present s u then s
  else if !unitOn s u then captureAt s lSYS c w 0x7 (rk u o % 0x1000) (rk u o / 0x1000 % 0x200)
  else k s

/-- A write that only the owning context may make (R71). -/
def ownerWrite (s : State) (c : Ctx) (u o : Nat) (k : State → State) : State :=
  access s c u o true (fun s => if (hdr s u).owner = c then k s else capture s (pageOf u) c true 0x1 (rk u o % 0x1000))

/-- A read of a block-specific register (R66, R71): a context that is not the owner needs its READ_MASK bit, else the read
returns 0 and is captured with code 0x2. `k` is the read, which sets `rdata`. -/
def readAccess (s : State) (c : Ctx) (u o : Nat) (k : State → State) : State :=
  access { s with rdata := 0#64 } c u o false (fun s =>
    if decide ((hdr s u).owner = c) || (hdr s u).readMask.getLsbD c.toNat then k s
    else capture s (pageOf u) c false 0x2 (rk u o % 0x1000))

/-- The data of a read. -/
def answer (s : State) (v : Nat) : State := { s with rdata := BitVec.ofNat 64 v }

/-- A write that only CTX_x may make in its own block, whoever owns the page (R181, R202, R267, R361). -/
def ctxWrite (s : State) (x c : Ctx) (u o : Nat) (k : State → State) : State :=
  access s c u o true (fun s => if c = x then k s else capture s (pageOf u) c true 0x1 (rk u o % 0x1000))

end Sys2Proof.Machine
end

