-- ==== Sys2Proof/Machine/Levels.lean ====
section
/-! DEFINITION. What the level interrupt sources and the fault summaries rest on: parts of the blocks' state under the names that
their chapters use, the level sources of IRQ_RAW.SRC (R75) and BLK_STAT.FAULT_SUM (R68) of every unit. -/
namespace Sys2Proof.Machine

/-- Bit `k` of an 8-bit mask. -/
def cbit (m : Byte) (k : Nat) : Bool := m.getLsbD k
def cput (m : Byte) (k : Nat) (b : Bool) : Byte := if b then m ||| BitVec.ofNat 8 (2 ^ k) else m &&& ~~~BitVec.ofNat 8 (2 ^ k)

/-- A Chamber's state. -/
def chm (s : State) (n : Nat) : Chmb := tget s.chmb n {}
def setChm (s : State) (n : Nat) (c : Chmb) : State := { s with chmb := tset s.chmb n c {} }

/-- Does a residual of a calibration set exceed 0.5 HG LSB (R134)? -/
def setResidual (s : State) (n k : Nat) : Bool :=
  let m := reg s (lCHMB n) (0x18C + 16 * k)
  decide (8 < (sext 16 (fld m 15 0)).natAbs) || decide (8 < (sext 16 (fld m 31 16)).natAbs)

/-- Does a calibration set mark its samples MISMATCH: it failed, or a residual is too large (R133, R134)? -/
def setMismatch (s : State) (n k : Nat) : Bool := (chm s n).calFail.getLsbD k || setResidual s n k

/-- Has a heartbeat of the node been heard, and is it not lost? -/
def nodeLive (v : Node) : Bool := v.seen && !v.lost && (v.m0.at0.isSome || v.m1.at0.isSome)

/-- SYNCED (R222). -/
def grpSynced (s : State) : Bool :=
  s.grp.syncTmo || (s.grp.nodes.any (fun e => nodeLive e.2) &&
    s.grp.nodes.all (fun e => !e.2.seen || e.2.lost || e.2.syncDone))

/-- Is a call loop in OPEN or SHORT (R262)? -/
def lineFault (l : CallLine) : Bool := l.opened || l.short

/-- Is the bridge called (R257)? -/
def bridgeOn (s : State) : Bool := s.echo.calls.any (fun e => decide (e.2.st = 1#2) && e.2.bridge)

/-- A channel of field I/O. -/
def diCh (s : State) (n : Nat) : DiCh := tget s.fio.di n {}
def setDi (s : State) (n : Nat) (c : DiCh) : State := { s with fio := { s.fio with di := tset s.fio.di n c {} } }
def doCh (s : State) (n : Nat) : DoCh := tget s.fio.dout n {}
def setDo (s : State) (n : Nat) (c : DoCh) : State := { s with fio := { s.fio with dout := tset s.fio.dout n c {} } }
def aoCh (s : State) (n : Nat) : AoCh := tget s.fio.ao n {}
def setAo (s : State) (n : Nat) (c : AoCh) : State := { s with fio := { s.fio with ao := tset s.fio.ao n c {} } }

/-- A force in effect (R321). -/
def doForced (s : State) (n : Nat) : Bool := s.fio.lock.isSome && cfgBit s lFIO (0x600 + 4 * n) 1
def aoForced (s : State) (n : Nat) : Bool := s.fio.lock.isSome && cfgBit s lFIO (0x680 + 4 * n) 16

/-- The fault indices that stand (R316). -/
def fioFault (s : State) (i : Nat) : Bool :=
  if i < 64 then (diCh s i).wb
  else if i < 96 then
    let c := doCh s (i - 64)
    c.sc || c.therm || c.rbErr || c.openLoad
  else if i < 112 then (aoCh s (i - 96)).loopBreak || (aoCh s (i - 96)).short
  else if i < 118 then s.fio.sup.getLsbD (i - 112)
  else decide (i = 118) && ((List.range 32).any (fun n => doForced s n) || (List.range 16).any (fun n => aoForced s n))

/-- Does field I/O report a wire break on the arm DI of the dead-man counter (R253)? -/
def armDiFault (s : State) : Bool := decide (cfg s lECHO 0x10C 6 0 < 64) && fioFault s (cfg s lECHO 0x10C 6 0)

/-- Any fault index but the force, for ANY_FAULT and FAULT_SUM (R324). -/
def fioAny (s : State) (lo hi : Nat) : Bool := (List.range (hi - lo)).any (fun i => fioFault s (lo + i))

/-- A slot's record, and its registers, the values in use. -/
def slot (s : State) (n : Nat) : Slot := tget s.loop.slots n {}
def sreg (s : State) (n o : Nat) : Word := reg s (uSLOT n) o
def sEn (s : State) (n : Nat) : Bool := bit (sreg s n 0x10) 0
/-- Does the network core serve its ports: its page enabled, out of the power-fail sequence (R396)? -/
def netOn (s : State) : Bool := alive s lNET && decide (s.pwr.phase ≠ .powerFail)

/-- A CAN controller. -/
def canSt (s : State) (n : Nat) : CanSt := tget s.net.can n {}
/-- Is the pairing link at work: the page powered and enabled, PAIR_EN = 1 (R445)? A freeze leaves it unchanged (R456). -/
def ropeOn (s : State) : Bool := alive s lROPE && cfgBit s lROPE 0x100 0
def fenceOk (s : State) : Bool := cbit s.rope.peerFlags 4

/-- SYNCED: of a standby, its mirror is complete; of the duty, what its partner says (R445; log entry 40). -/
def ropeSynced (s : State) : Bool :=
  s.rope.role = 3#3 || ((s.rope.role = 5#3 || s.rope.role = 4#3) && cbit s.rope.peerFlags 2)

/-- The results of the self-tests (R453, R454). -/
def shadowOk (s : State) : Bool := match s.rope.misAt with | some t => decide (1000000000 < s.now - t) | none => true
def dramOk (s : State) : Bool := s.rope.dramUe = 0#32
def selfFault (s : State) : Bool :=
  standby s && (decide (s.rope.chmbFail ≠ 0#8) || !shadowOk s || !s.rope.flowOk || !dramOk s)
/-- PEER_HEALTH_OK: the FLAGS of the partner's last heartbeat (R443). -/
def peerHealthOk (s : State) : Bool := cbit s.rope.peerFlags 3

/-- The level sources and FAULT_SUM of the page (R457). -/
def ropeLevels (s : State) : Word :=
  if !ropeOn s then 0#32
  else bitw (!ropeSynced s) 8 ||| bitw (!peerHealthOk s) 9 ||| bitw s.rope.linkFault 10 ||| bitw (!fenceOk s) 11
def ropeFaults (s : State) : Byte :=
  if !ropeOn s then 0#8
  else BitVec.ofNat 8 (b2n (s.rope.linkFault || !s.rope.linkUp) + 2 * b2n (!fenceOk s) + 4 * b2n (selfFault s))

/-- FAULT_SUM of the FIO page (R324): DO, AO, SUPPLY, WB. -/
def fioFaults (s : State) : Byte :=
  BitVec.ofNat 8 (b2n (fioAny s 64 96) + 2 * b2n (fioAny s 96 112) + 4 * b2n (fioAny s 112 118) + 8 * b2n (fioAny s 0 64))

/-- A slot with a trip bit set, and a released slot that is not in AUTO (R297). -/
def slotTrip (l : Slot) : Bool := decide (l.trips ≠ 0#3)
def slotNotAuto (l : Slot) : Bool := decide (l.mode ≠ 0#3) && decide (l.mode ≠ 1#3)

/-- The level sources of the Gallery (R213): UNACK, EMERG, DESC_BAD. -/
def galLevels (s : State) : Word :=
  bitw (s.gal.pts.any (fun e => decide (e.2.core.st = 1#3))) 1 |||
  bitw (s.gal.pts.any (fun e => decide (e.2.core.st = 1#3) && decide (e.2.core.prio = 0#2))) 2 ||| bitw s.gal.descBad 7

/-- The level sources of IRQ_RAW.SRC of a unit (R142, R150, R213, R241, R267, R297, R324, R348, R349, R369, R397, R399, R457). -/
def irqLevels (s : State) (u : Nat) : Word :=
  if decide (5 ≤ u) && decide (u ≤ 12) then
    bitw (chm s (u - 5)).angLost 4 ||| bitw ((List.range 8).any (fun k => setResidual s (u - 5) k)) 7
  else if u = lSSNS then bitw (alive s lSSNS && !s.ssns.freqValid) 4
  else if u = lGAL then galLevels s
  else if u = lGRP then
    bitw s.grp.rebuild 8 ||| bitw (alive s lGRP && !grpSynced s) 9 ||| bitw (alive s lGRP && s.grp.masterNode.isNone) 10
  else if u = lECHO then
    bitw (s.echo.calls.any (fun e => decide (e.2.st = 1#2))) 9 ||| bitw (bridgeOn s) 10 ||| bitw (armDiFault s) 11
  else if u = lLOOP then
    bitw (s.loop.slots.any (fun e => slotTrip e.2)) 4 ||| bitw (s.loop.slots.any (fun e => slotNotAuto e.2)) 5
  else if u = lFIO then bitw (fioFault s 118) 6 ||| bitw (fioAny s 0 118) 7
  else if u = lLANT then bitw s.lant.vcolFault 1
  else if u = lBIST then bitw s.bist.drive 3
  else if u = lFLOW then bitw (decide (768 ≤ s.flow.queue.length)) 5
  else if u = lNET then bitw s.net.pmbAlert 8 ||| bitw (netOn s && (s.net.linkA != s.net.linkB)) 9
  else if decide (24 ≤ u) && decide (u ≤ 29) then
    bitw (decide ((canSt s (u - 24)).st = 2#2)) 4 ||| bitw (decide ((canSt s (u - 24)).st = 1#2)) 5
  else if u = lROPE then ropeLevels s
  else 0#32

/-- BLK_STAT.FAULT_SUM of a unit (the same rules, and R180, R401). -/
def faultSum (s : State) (u : Nat) : Byte :=
  if decide (5 ≤ u) && decide (u ≤ 12) then
    let c := chm s (u - 5)
    BitVec.ofNat 8 (b2n (decide (c.calFail ≠ 0#8)) + 2 * b2n c.chvp + 4 * b2n c.chvl + 8 * b2n c.coupler)
  else if u = lINTG then BitVec.ofNat 8 (b2n s.intg.store)
  else if u = lGAL then BitVec.ofNat 8 (b2n s.gal.descBad)
  else if u = lGRP then BitVec.ofNat 8 (b2n s.grp.chkBad)
  else if u = lECHO then
    BitVec.ofNat 8 (b2n (lineFault s.echo.a) + 2 * b2n (lineFault s.echo.b) +
      4 * b2n (decide (s.echo.a.lost ≠ 0#32) || decide (s.echo.b.lost ≠ 0#32)))
  else if u = lLOOP then BitVec.ofNat 8 (b2n (s.loop.slots.any (fun e => slotTrip e.2)))
  else if u = lFIO then fioFaults s
  else if u = lLANT then BitVec.ofNat 8 (b2n s.lant.vcolFault)
  else if u = lBIST then BitVec.ofNat 8 (b2n s.bist.drive)
  else if u = lFLOW then BitVec.ofNat 8 (b2n s.flow.badSince)
  else if u = lNET then BitVec.ofNat 8 (b2n (netOn s && !s.net.linkA) + 2 * b2n (netOn s && !s.net.linkB))
  else if decide (24 ≤ u) && decide (u ≤ 29) then BitVec.ofNat 8 (b2n (decide ((canSt s (u - 24)).st = 2#2)))
  else if decide (30 ≤ u) && decide (u ≤ 35) then BitVec.ofNat 8 (b2n (s.net.serFault.getLsbD (u - 30)))
  else if u = lROPE then ropeFaults s
  else 0#8

end Sys2Proof.Machine
end

