-- ==== Sys2Proof/Machine/Flags.lean ====
section
/-! DEFINITION. What is computed from the state: IRQ_RAW, IRQ_PEND, the
interrupt lines and CTX_PEND (R68, R75, R76), and the settling of the lines after a command. -/
namespace Sys2Proof.Machine

/-- IRQ_RAW: latched sources, level sources and CFG_SKEW of the page or one of its sub-blocks (R64, R68, R75). -/
def irqRaw (s : State) (u : Nat) : Word :=
  (hdr s u).latched ||| irqLevels s u ||| bitw ((unitsOf u).any (fun x => (hdr s x).skew)) 28

/-- IRQ_PEND is IRQ_RAW AND IRQ_MASK (R68). -/
def irqPend (s : State) (u : Nat) : Word := irqRaw s u &&& (hdr s u).mask

/-- The interrupt line of a page is asserted while IRQ_PEND is non-zero (R76); a page that is off or absent asserts nothing. -/
def lineUp (s : State) (l : Nat) : Bool := present s l && unitOn s l && decide (irqPend s l ≠ 0#32)

/-- The asserted lines that go to a context (R76). -/
def linesOf (s : State) (c : Ctx) : List Nat :=
  (List.range 45).filter (fun l => decide ((hdr s l).mask ≠ 0#32) && decide ((hdr s l).owner = c) && lineUp s l)

/-- Is the interrupt of a queue asserted (R433)? -/
def queueUp (q : Queue) : Bool := decide (q.irq &&& q.mask ≠ 0#5)

/-- The asserted queues of a context, while their domain is on (R433). -/
def queuesOf (s : State) (c : Ctx) : List Nat :=
  if domOn s dHOST then
    (s.dma.q.filter (fun e => queueUp e.2 && decide ((hdr s (uQUEUE e.1)).owner = c))).map (·.1) else []

/-- CTX_PEND_n (R76). -/
def ctxPend (s : State) (c : Ctx) : Nat :=
  (linesOf s c).foldl (fun n l => n + 2 ^ l) (if (queuesOf s c).isEmpty then 0 else 2 ^ 45)

/-- May PCIE_n send a message: link up with Bus Master Enable, port domain on (R408)? -/
def msixReady (s : State) (port : Nat) : Bool := domOn s dHOST && s.hostUp.getLsbD port

/-- The MSI-X vectors that are asserted toward PCIE_n: line L, and 64 + q for a queue (R76, R433); none while its link is down, so
that a link that returns finds each of them newly asserted (R408). -/
def vectorsOf (s : State) (port : Nat) : List Nat :=
  if msixReady s port then
    linesOf s (BitVec.ofNat 3 (2 + port)) ++ (queuesOf s (BitVec.ofNat 3 (2 + port))).map (64 + ·) else []

/-- After a command the interrupts settle: each newly asserted vector of PCIE_0 and PCIE_1 is sent once; a
NOTIFY is due again when CTX_PEND_6 has been zero (R76, R77, R382, R408, R433). -/
def settle (s : State) : State :=
  let l0 := vectorsOf s 0
  let l1 := vectorsOf s 1
  let n0 := l0.filter (fun l => !s.msi0.contains l)
  let n1 := l1.filter (fun l => !s.msi1.contains l)
  { s with msi0 := l0, msi1 := l1, out := s.out ++ n0.map (Out.msix 0) ++ n1.map (Out.msix 1)
           net := { s.net with notified := s.net.notified && decide (ctxPend s 6#3 ≠ 0) } }

/-- A command has had its effect. -/
def done (s : State) : Host.Outcome State Fault Refusal := .next (settle s)

end Sys2Proof.Machine
end

