-- ==== Sys2Proof/Machine/Flowstone.lean ====
section
/-! DEFINITION. Flowstone: the ring, its records, the writer, snapshots and the authorised clear (R351 to R370). -/
namespace Sys2Proof.Machine

/-- The ring has 2,048 blocks (R351), and a block holds at most as many records (R354). -/
def ringBlocks : Nat := 2048

/-- Address of a block of the ring (R351). -/
def blkBase (b : Nat) : Nat := 0x68000000 + 0x10000 * (b % ringBlocks)

/-- Size of a record with `len` payload bytes (R354). -/
def recSize (len : Nat) : Nat := 32 + 8 * ((len + 7) / 8)

/-- The bytes of a record, MARK last (R354, R355). -/
def recBytes (seq : Nat) (time : DWord) (r : FlowRec) : List Byte :=
  let head := leBytes 2 r.payload.length ++ [BitVec.ofNat 8 r.src.toNat, r.typ]
  let tail := leBytes 8 seq ++ leBytes 8 time.toNat
  let pad := List.replicate (8 * ((r.payload.length + 7) / 8) - r.payload.length) 0#8
  let pcrc := if r.payload.length = 0 then 0 else crc32c r.payload
  head ++ leBytes 4 (crc32c (head ++ tail)) ++ tail ++ r.payload ++ pad ++ leBytes 4 pcrc ++ leBytes 4 0x5A1EC0DE

/-- A record found in the ring. -/
structure RingRec where
  addr : Nat
  seq : Nat
  src : Nat
  typ : Nat
  len : Nat
  valid : Bool
deriving DecidableEq, Repr

/-- The record at an address, judged by R355; none where the rest of the block holds nothing. -/
def ringAt (m : List Host.Cell) (a : Nat) : Option RingRec :=
  let left := 0x10000 - a % 0x10000
  let len := mgetLE m a 2
  let size := recSize len
  let seq := mgetLE m (a + 8) 8
  if left < 32 ∨ seq = 0 ∨ 4064 < len ∨ left < size then none
  else if mgetLE m (a + size - 4) 4 ≠ 0x5A1EC0DE then none
  else if mgetLE m (a + 4) 4 ≠ crc32c (mgetBytes m a 4 ++ mgetBytes m (a + 8) 16) then none
  else
    let pcrc := if len = 0 then 0 else crc32c (mgetBytes m (a + 24) len)
    some ⟨a, seq, mgetLE m (a + 2) 1, mgetLE m (a + 3) 1, len, decide (mgetLE m (a + size - 8) 4 = pcrc)⟩

/-- The records from an address to the end of its block. -/
def ringScan (m : List Host.Cell) : Nat → Nat → List RingRec
  | 0, _ => []
  | n + 1, a => match ringAt m a with
    | none => []
    | some r => r :: (if a % 0x10000 + recSize r.len < 0x10000 then ringScan m n (a + recSize r.len) else [])

/-- The memory cells of a block. -/
def blkCells (m : List Host.Cell) (b : Nat) : List Host.Cell :=
  m.filter (fun c => decide (blkBase b ≤ c.1) && decide (c.1 < blkBase b + 0x10000))

/-- The records of a block. -/
def blkRecs (m : List Host.Cell) (b : Nat) : List RingRec := ringScan (blkCells m b) ringBlocks (blkBase b)

/-- A block is erased when all of its bytes are 0 (R351). -/
def blkErased (m : List Host.Cell) (b : Nat) : Bool := (blkCells m b).isEmpty

/-- The blocks in ring order from the one after the head block, the head block last. -/
def ringOrder (s : State) : List Nat := (List.range ringBlocks).map (fun i => (s.flow.headBlk + 1 + i) % ringBlocks)

/-- The blocks that hold anything, oldest first, the head block last. -/
def usedBlocks (s : State) : List Nat := (ringOrder s).filter (fun b => !blkErased s.mem b)

/-- How many blocks are erased ahead of the head block. -/
def erasedAhead (s : State) : Nat := ((ringOrder s).take (ringBlocks - 1)).takeWhile (fun b => blkErased s.mem b) |>.length

/-- The oldest valid record of the ring (FIRST_SEQ, FIRST_ADDR). -/
def firstRec (s : State) : Option RingRec :=
  (usedBlocks s).findSome? (fun b => (blkRecs s.mem b).find? (fun r => r.valid))

/-- LAST_SEQ: the SEQ of the last marked record. -/
def lastSeq (s : State) : Nat := s.flow.nextSeq - 1

/-- The snapshot block of a context. -/
def snap (s : State) (x : Nat) : Snap := tget s.flow.snaps x {}
def setSnap (s : State) (x : Nat) (v : Snap) : State := { s with flow := { s.flow with snaps := tset s.flow.snaps x v {} } }

/-- Does a held snapshot keep this block (R362)? -/
def pins (s : State) (x b : Nat) : Bool :=
  (snap s x).held && (blkRecs s.mem b).any (fun r => decide ((snap s x).cur ≤ r.seq))

/-- Erase one block. -/
def eraseBlk (s : State) (b : Nat) : State := { s with mem := mwipe s.mem (blkBase b) (blkBase b + 0x10000) }

/-- The writer needs a block that a snapshot keeps: it breaks the pin of every snapshot concerned, then erases (R362). -/
def breakPins (s : State) (b : Nat) : State :=
  let floor := match (blkRecs s.mem ((b + 1) % ringBlocks)).head? with | some r => r.seq | none => s.flow.nextSeq
  let s' := (List.range 8).foldl (fun t x =>
    if pins s x b then raise (setSnap t x { snap t x with floor := floor, lost := true }) lFLOW 1 else t) s
  eraseBlk s' b

/-- Open the block after the head block, erased first if it is not (R351, R362). -/
def openNext (s : State) : State :=
  let b := (s.flow.headBlk + 1) % ringBlocks
  let s := if blkErased s.mem b then s else breakPins s b
  { s with flow := { s.flow with headBlk := b, headAddr := blkBase b, closed := false } }

/-- Write one record and mark it (R351, R355). -/
def writeRec (s : State) (r : FlowRec) : State :=
  let size := recSize r.payload.length
  let s := if s.flow.closed || decide (0x10000 < s.flow.headAddr - blkBase s.flow.headBlk + size) then openNext s else s
  let a := s.flow.headAddr
  let next := a + size
  { s with
    mem := msetBytes s.mem a (recBytes s.flow.nextSeq (time64 s) r)
    flow := { s.flow with nextSeq := s.flow.nextSeq + 1, headAddr := next,
                          closed := decide (0x10000 ≤ next - blkBase s.flow.headBlk) } }

/-- The LOSS record: 16 two-byte counts (R357, R358). -/
def lossRec (s : State) : FlowRec := ⟨0#4, 10#8, (List.range 16).flatMap (fun i => leBytes 2 (tget s.flow.drops i 0))⟩

/-- The writer writes the next queued record; the first time fewer than 512 wait after a drop, a LOSS record (R355, R358). -/
def writeNext (s : State) : State :=
  match s.flow.queue with
  | [] => s
  | r :: rest =>
    let s := writeRec { s with flow := { s.flow with queue := rest } } r
    if s.flow.lossDue && decide (rest.length < 512) then
      let s' := writeRec s (lossRec s)
      { s' with flow := { s'.flow with lossDue := false, drops := [] } }
    else s

/-- Write up to `n` queued records. -/
def writeAll : Nat → State → State
  | 0, s => s
  | n + 1, s => writeAll n (writeNext s)

/-- Does the writer write: enabled, recovered, not frozen, not stopped (R360, R368)? POWER_FAIL is its last record (R44). -/
def writerRuns (s : State) : Bool :=
  works s lFLOW && s.flow.recovered && !s.flow.stopped && decide (s.pwr.phase ≠ .powerFail)

/-- A record of the writer's own, after those that wait: SEQ follows the order of arrival (R358). -/
def writeAfter (s : State) (r : FlowRec) : State := writeRec (writeAll s.flow.queue.length s) r

/-- Does Flowstone take a record of this source (R356, R368)? -/
def flowTakes (s : State) (src : BitVec 4) : Bool :=
  (hdr s lFLOW).en && !s.flow.stopped &&
  (decide (src = 0#4) || (cfgBit s lFLOW 0x100 (16 + src.toNat) && !s.pwr.degraded))

/-- A record reaches the input queue; one of sources 1 to 5 that finds 1,024 waiting is dropped and counted (R358). -/
def queueRec (s : State) (r : FlowRec) : State :=
  if !flowTakes s r.src then s
  else if decide (1024 ≤ s.flow.queue.length) && decide (1 ≤ r.src.toNat) && decide (r.src.toNat ≤ 5) then
    raise { s with flow := { s.flow with
      drops := tset s.flow.drops r.src.toNat (satInc 16 (tget s.flow.drops r.src.toNat 0)) 0,
      lossDue := true, dropCnt := satInc 32 s.flow.dropCnt } } lFLOW 0
  else { s with flow := { s.flow with
      queue := s.flow.queue ++ [r], peak := max s.flow.peak (s.flow.queue.length + 1) } }

/-- All records on their way reach the queue, in order. -/
def queueAll (s : State) : State :=
  s.flow.arriving.foldl queueRec { s with flow := { s.flow with arriving := [] } }

/-- All waiting records are written, as far as the writer runs. -/
def flowDrain (s : State) : State :=
  let s := queueAll s
  if writerRuns s then writeAll s.flow.queue.length s else s

/-- A device record written at once after those that wait (R44, R59, R61, R368). -/
def deviceRecNow (s : State) (typ : Byte) (payload : List Byte) : State := flowDrain (flowRec s lPWR 0#4 typ payload)

/-- FLOW_RECORD_IN (R356, R358): the oldest record on its way reaches the input queue. -/
def execFlowRecordIn (s : State) : Host.Outcome State Fault Refusal :=
  match s.flow.arriving with
  | [] => done s
  | r :: rest => done (queueRec { s with flow := { s.flow with arriving := rest } } r)

/-- FLOW_RECORD_WRITE (R351, R355, R358). -/
def execFlowRecordWrite (s : State) : Host.Outcome State Fault Refusal :=
  done (if writerRuns s then writeNext s else s)

/-- The blocks a clear has still to erase: those whose first record is older than the CLEAR record (R364, R365). -/
def clearBlocks (s : State) (seq : Nat) : List Nat :=
  (usedBlocks s).filter (fun b => match (blkRecs s.mem b).head? with
    | some r => decide (r.seq < seq)
    | none => decide (b ≠ s.flow.headBlk))

/-- The block the writer would erase next to keep its reserve, unless a snapshot defers it (R352, R362). -/
def reserveBlock (s : State) : Option Nat :=
  if erasedAhead s < cfg s lFLOW 0x100 7 0 then
    match ((usedBlocks s).filter (fun b => b ≠ s.flow.headBlk)).head? with
    | some b => if (List.range 8).any (fun x => pins s x b) then none else some b
    | none => none
  else none

/-- One erase: the next block of a clear, or the oldest block of the ring; with the head block full and no erased block left, a pin
breaks (R352, R362, R364). -/
def eraseStep (s : State) : State :=
  match s.flow.clearing with
  | some seq =>
    match (clearBlocks s seq).head? with
    | some b =>
      let s := eraseBlk s b
      { s with flow := { s.flow with clearErased := s.flow.clearErased + 1 } }
    | none => s
  | none =>
    match reserveBlock s with
    | some b => eraseBlk s b
    | none =>
      let next := (s.flow.headBlk + 1) % ringBlocks
      if s.flow.closed && !blkErased s.mem next then breakPins s next else s

/-- FLOW_BLOCK_ERASE (R352, R362, R364). -/
def execFlowBlockErase (s : State) : Host.Outcome State Fault Refusal :=
  done (if writerRuns s then eraseStep s else s)

/-- Erase until the reserve of R352 is restored. -/
def restoreReserve : Nat → State → State
  | 0, s => s
  | n + 1, s => match reserveBlock s with | some b => restoreReserve n (eraseBlk s b) | none => s

/-- LC_STAT bits [7:4] (PWR 0x140). -/
def lcBits (s : State) : Nat :=
  b2n s.pwr.slot + 2 * b2n s.pwr.trial + 4 * b2n s.pwr.trialFail + 8 * b2n s.pwr.lcReject

/-- The START record (R357). -/
def startRec (s : State) (corrupt : Nat) : FlowRec :=
  ⟨0#4, 1#8, leBytes 4 s.pwr.rstCause.toNat ++ leBytes 1 s.pwr.lcState.toNat ++ leBytes 1 (lcBits s) ++
    leBytes 1 s.pwr.lastWake.toNat ++ leBytes 1 (b2n s.grot.sysOk + 2 * b2n s.grot.calcOk) ++
    leBytes 4 s.grot.gsec.toNat ++ leBytes 4 corrupt⟩

/-- The block whose valid first record has the highest SEQ (R360 step 1). -/
def headCandidate (s : State) : Option (Nat × Nat) :=
  (List.range ringBlocks).foldl (fun best b => match (blkRecs s.mem b).head? with
    | some r => if r.valid && (match best with | some (_, q) => decide (q < r.seq) | none => true) then some (b, r.seq) else best
    | none => best) none

/-- The highest SEQ of a valid device record of a type in the ring, 0 where there is none. -/
def newestDevice (s : State) (typ : Nat) : Nat :=
  (((List.range ringBlocks).flatMap (fun b => blkRecs s.mem b)).filter
    (fun r => decide (r.src = 0) && decide (r.typ = typ) && r.valid)).foldl (fun n r => max n r.seq) 0

/-- A clear that has passed its checks begins (R364): the head block is closed, CLEAR is written, every held snapshot is told. -/
def beginClear (s : State) (ctx : Ctx) (upTo : Nat) (nonce : BitVec 128) : State :=
  let s := writeAll s.flow.queue.length s
  let first := match firstRec s with | some q => q.seq | none => s.flow.nextSeq
  let seq := s.flow.nextSeq
  let s := writeRec { s with flow := { s.flow with closed := true } }
    ⟨0#4, 7#8, leBytes 8 first ++ leBytes 8 (seq - 1) ++ leBytes 8 upTo ++ leBytes 1 ctx.toNat ++
      List.replicate 7 0#8 ++ (leBytes 16 nonce.toNat).take 8⟩
  let s := (List.range 8).foldl (fun t x =>
    if (snap t x).held then setSnap t x { snap t x with floor := seq, lost := true } else t) s
  { s with flow := { s.flow with clearing := some seq, clearErased := 0, clearAsked := none } }

/-- Recovery (R360): head block, next SEQ, START, a clear to resume, the reserve, and a clear that waited for it. -/
def recover (s : State) : State :=
  let hb := headCandidate s
  let recs := match hb with | some (b, _) => blkRecs s.mem b | none => []
  let next := match recs.getLast? with | some r => r.seq + 1 | none => s.flow.nextSeq
  let corrupt := (recs.filter (fun r => !r.valid)).length
  let clr := if newestDevice s 8 < newestDevice s 7 then some (newestDevice s 7) else none
  let s := { s with flow := { s.flow with
    headBlk := (match hb with | some (b, _) => b | none => 2047), closed := true, nextSeq := next,
    badCnt := min (s.flow.badCnt + corrupt) 0xFFFFFFFF, badSince := decide (0 < corrupt), clearing := clr, clearErased := 0,
    recovered := true, needRecovery := false } }
  let s := restoreReserve ringBlocks (raise (writeRec s (startRec s corrupt)) lFLOW 4)
  match s.flow.clearAsked with | some (c, q, n) => beginClear s c q n | none => s

/-- FLOW_RECOVERY (R360): runs once after each enable. -/
def execFlowRecovery (s : State) : Host.Outcome State Fault Refusal :=
  done (if works s lFLOW && s.flow.needRecovery && !s.flow.stopped && decide (s.pwr.phase ≠ .powerFail) then recover s else s)

/-- FLOW_REGION_WRITE (R353, R499): a write to the region from any other path is discarded and captured with code 0x8;
with PD_REC off it meets a bus error and is captured nowhere (R495). -/
def execFlowRegionWrite (ctx : Ctx) (_addr : BitVec 27) (_value : Word) (s : State) : Host.Outcome State Fault Refusal :=
  done (if pathOk s ctx && unitOn s lFLOW then capture s lFLOW ctx true 0x8 0 else s)

/-- SNAP_TAKE (R361). -/
def execSnapTake (x ctx : Ctx) (s : State) : Host.Outcome State Fault Refusal :=
  let o := 0x200 + 0x40 * x.toNat
  done (ctxWrite s x ctx lFLOW o (fun s =>
    if !cfgBit s lFLOW 0x104 (8 + x.toNat) then capture s lFLOW ctx true 0x8 o
    else
      let f := firstRec s
      let first := match f with | some r => r.seq | none => s.flow.nextSeq
      let addr := match f with | some r => r.addr | none => 0
      setSnap s x.toNat ⟨true, false, first, lastSeq s, first, first, addr⟩))

/-- SNAP_RELEASE (R361). -/
def execSnapRelease (x ctx : Ctx) (exported : Bool) (s : State) : Host.Outcome State Fault Refusal :=
  done (ctxWrite s x ctx lFLOW (0x200 + 0x40 * x.toNat) (fun s =>
    let v := snap s x.toNat
    let s := setSnap s x.toNat { v with held := false }
    if exported && v.held then
      { s with flow := { s.flow with exportedSeq := v.last, exportTime := time64 s, exportAt := some s.now } }
    else s))

/-- SNAP_CUR_WRITE (R361): a value outside SNAP_CUR to SNAP_LAST + 1 has no effect and is captured with code 0x8. -/
def execSnapCurWrite (x ctx : Ctx) (value : DWord) (s : State) : Host.Outcome State Fault Refusal :=
  let o := 0x218 + 0x40 * x.toNat
  done (ctxWrite s x ctx lFLOW o (fun s =>
    let v := snap s x.toNat
    if value.toNat < v.cur || v.last + 1 < value.toNat then capture s lFLOW ctx true 0x8 o
    else setSnap s x.toNat { v with cur := value.toNat }))

/-- A write that the contexts of FLOW_CTX.CLR_CTX may make, whoever owns the page (R366). -/
def clrWrite (s : State) (c : Ctx) (o : Nat) (k : State → State) : State :=
  access s c lFLOW o true (fun s =>
    if cfgBit s lFLOW 0x104 (16 + c.toNat) then k s else capture s lFLOW c true 0x1 o)

/-- CLR_NONCE (R364 step 1). -/
def execClrNonce (ctx : Ctx) (s : State) : Host.Outcome State Fault Refusal :=
  done (clrWrite s ctx 0x140 (fun s =>
    let n := Config.freeNonce s.fresh
    { s with fresh := s.fresh + 1, flow := { s.flow with nonce := some (n, ctx, s.now), nonceReg := n } }))

/-- CLR_NONCE_EXPIRY (R364): 60 s after the draw the nonce is no longer valid. -/
def execClrNonceExpiry (s : State) : Host.Outcome State Fault Refusal :=
  done { s with flow := { s.flow with nonce := none } }

/-- The 16 bytes of the device ID and of a nonce. -/
def nonceBytes (n : BitVec 128) : List Byte := leBytes 16 n.toNat

/-- The bytes of `n` consecutive words of a unit's registers. -/
def regBytes (s : State) (u o n : Nat) : List Byte := (List.range n).flatMap (fun i => leBytes 4 (reg s u (o + 4 * i)).toNat)

/-- CLR_SEQ. -/
def clrSeq (s : State) : Nat := (reg s lFLOW 0x148).toNat + 0x100000000 * (reg s lFLOW 0x14C).toNat

/-- A soft reset of the page (R69): what is on its way stays on its way, the ring keeps its place, and the failed attempts and LOCK go on to
the next module reset (R366); recovery runs again. -/
def flowSoftReset (s : State) : State :=
  { s with flow := { ({} : Flow) with
    arriving := s.flow.arriving, nextSeq := s.flow.nextSeq, headBlk := s.flow.headBlk, clrFails := s.flow.clrFails,
    clrFailed := s.flow.clrFailed, stopped := s.flow.stopped, needRecovery := true } }

/-- The message that CLR_TAG authenticates (R364 step 2). -/
def clrMessage (s : State) (n : BitVec 128) (c : Ctx) : List Byte :=
  [0x46#8, 0x4C#8, 0x43#8, 0x4C#8] ++ nonceBytes s.otp.devId ++ nonceBytes n ++ leBytes 8 (clrSeq s) ++ leBytes 1 c.toNat

/-- The valid nonce and the context it is bound to: for 60 s from its draw (R364). -/
def nonceNow (s : State) : Option (BitVec 128 × Ctx) :=
  match s.flow.nonce with
  | some (n, c, t) => if s.now ≤ t + 60000000000 then some (n, c) else none
  | none => none

/-- The RESULT of a GO, checked in the order of R364. -/
def clrCheck (s : State) (c : Ctx) : Nat :=
  if 5 ≤ s.flow.clrFailed then 8
  else if (match nonceNow s with | some (_, b) => decide (b ≠ c) | none => false) then 2
  else if s.pwr.lcState ≠ 3#3 then 3
  else match nonceNow s with
    | none => 4
    | some (n, _) =>
      if lastSeq s < clrSeq s then 5
      else if regBytes s lFLOW 0x160 8 ≠ hmacSha256 s.otp.clrKey (clrMessage s n c) then 6
      else if (hdr s lFLOW).frozen then 7
      else 1

/-- CLR_GO (R364, R366). A clear that passes while the writer does not run waits for it (DEDUCED, log entry 51). -/
def execClrGo (ctx : Ctx) (s : State) : Host.Outcome State Fault Refusal :=
  done (clrWrite s ctx 0x140 (fun s =>
    let r := clrCheck s ctx
    let s := { s with flow := { s.flow with nonce := none, clrResult := BitVec.ofNat 4 r } }
    if r = 1 then
      if writerRuns s then beginClear s ctx (clrSeq s) s.flow.nonceReg
      else { s with flow := { s.flow with clearAsked := some (ctx, clrSeq s, s.flow.nonceReg) } }
    else
      let fails := satInc 8 s.flow.clrFails
      let s := { s with flow := { s.flow with clrFails := fails, clrFailed := s.flow.clrFailed + 1 } }
      raise (flowRec s lFLOW 0#4 9#8 (leBytes 1 r ++ leBytes 1 ctx.toNat ++ [0#8, 0#8] ++ leBytes 4 fails)) lFLOW 3))

/-- CLEAR_DONE (R364 step 4, R365): when no older block is left. -/
def execClearDone (s : State) : Host.Outcome State Fault Refusal :=
  done (match s.flow.clearing with
    | some seq =>
      if writerRuns s && (clearBlocks s seq).isEmpty then
        let s := writeAfter s ⟨0#4, 8#8, leBytes 4 s.flow.clearErased ++ leBytes 4 0⟩
        raise { s with flow := { s.flow with clearing := none } } lFLOW 2
      else s
    | none => s)

end Sys2Proof.Machine
end

