-- ==== Sys2Proof/Machine/Journal.lean ====
section
/-! DEFINITION. The Grotto's calendar and its backup SRAM journal (R96, R102, R106, R107). -/
namespace Sys2Proof.Machine

/-- A year divisible by 4, except one divisible by 100 but not by 400 (R96). -/
def leapYear (y : Nat) : Bool := y % 4 = 0 && (y % 100 ≠ 0 || y % 400 = 0)

/-- Length of a month (R96). -/
def monthDays (y m : Nat) : Nat :=
  if m = 2 then (if leapYear y then 29 else 28)
  else if m = 4 ∨ m = 6 ∨ m = 9 ∨ m = 11 then 30 else 31

/-- The calendar one second later; WDAY advances at midnight (R96, R101). -/
def calendarNext (g : Grot) : Grot :=
  if g.sec < 59 then { g with sec := g.sec + 1 }
  else if g.min < 59 then { g with sec := 0, min := g.min + 1 }
  else if g.hour < 23 then { g with sec := 0, min := 0, hour := g.hour + 1 }
  else
    let g := { g with sec := 0, min := 0, hour := 0, wday := (g.wday + 1) % 7 }
    if g.day < monthDays g.year g.month then { g with day := g.day + 1 }
    else if g.month < 12 then { g with day := 1, month := g.month + 1 }
    else { g with day := 1, month := 1, year := (g.year + 1) % 4096 }

/-- The journal word at a byte offset. -/
def jget (s : State) (o n : Nat) : Nat := mgetLE s.grot.sram o n

/-- Write `n` bytes of the journal. -/
def jset (s : State) (o n v : Nat) : State := { s with grot := { s.grot with sram := msetLE s.grot.sram o n v } }

/-- Does a checked area pass: MAGIC and CRC match (R106)? -/
def areaOk (s : State) (base size magic : Nat) : Bool :=
  decide (jget s base 4 = magic) && decide (jget s (base + size) 4 = crc32c (mgetBytes s.grot.sram base size))

def sysAreaOk (s : State) : Bool := areaOk s 0x000 0x3C 0x4A545247
def calcAreaOk (s : State) : Bool := areaOk s 0x040 0x7C 0x4A544C43

/-- Write the CRC of an area last (R107). -/
def areaSeal (s : State) (base size : Nat) : State := jset s (base + size) 4 (crc32c (mgetBytes s.grot.sram base size))

/-- A system area rewritten valid, with no mark and no entry (R107). -/
def sysRewrite (s : State) : State :=
  let s := { s with grot := { s.grot with sram := mwipe s.grot.sram 0 0x40 } }
  areaSeal (jset s 0 4 0x4A545247) 0 0x3C

/-- The power-fail mark (R44, R107). -/
def journalPowerFail (s : State) : State :=
  areaSeal (jset (jset s 0x004 4 s.grot.gsec.toNat) 0x008 1 1) 0 0x3C

/-- A degraded-mode entry (R59, R107). -/
def journalDegraded (s : State) (code : Nat) : State :=
  let h := jget s 0x009 1 % 8
  let s := jset (jset s (0x00C + 4 * h) 4 s.grot.gsec.toNat) (0x02C + h) 1 code
  areaSeal (jset s 0x009 1 ((h + 1) % 8)) 0 0x3C

/-- DEGR_STAT.COUNT: entries no more than 3,600 s older than GSEC, saturating at 3 (R107 step 4); an entry whose code is 0
was never written. -/
def degradedCount (s : State) : Nat :=
  min 3 ((List.range 8).filter (fun i =>
    decide (jget s (0x02C + i) 1 ≠ 0) && decide ((s.grot.gsec.toNat + 0x100000000 - jget s (0x00C + 4 * i) 4) % 0x100000000 ≤ 3600))).length

/-- What every start does with the journal (R107): check both areas, read PF_MARK where the start follows VIN good, clear it,
derive COUNT. -/
def journalStart (s : State) (afterVin : Bool) : State :=
  let sysOk := sysAreaOk s
  let calcOk := calcAreaOk s
  let mark := sysOk && decide (jget s 0x008 1 = 1)
  let s := { s with grot := { s.grot with sysOk := sysOk, calcOk := calcOk } }
  let s := if sysOk then (if mark then areaSeal (jset s 0x008 1 0) 0 0x3C else s) else sysRewrite s
  let cause := if afterVin then (if mark then 0x02#7 else 0x01#7) else 0#7
  let s := { s with pwr := { s.pwr with rstCause := s.pwr.rstCause ||| cause, degrCount := BitVec.ofNat 2 (degradedCount s) } }
  raiseIf (!(sysOk && calcOk)) s lGROT 3

end Sys2Proof.Machine
end

