-- ==== Sys2Proof/Machine/Calcite.lean ====
section
/-! DEFINITION. Calcite: regions, waveforms, the journal area, power loss and recovery (R335 to R347, R350, R459 row BIST). -/
namespace Sys2Proof.Machine

/-- A region, and its settings in use (R338, R349). -/
def bReg (s : State) (r : Nat) : BReg := tget s.bist.regs r {}
def setBReg (s : State) (r : Nat) (v : BReg) : State := { s with bist := { s.bist with regs := tset s.bist.regs r v {} } }
def bOff (r : Nat) : Nat := 0x200 + 0x20 * r
def bEn (s : State) (r : Nat) : Bool := cfgBit s lBIST (bOff r) 0
def bFirst (s : State) (r : Nat) : Nat := cfg s lBIST (bOff r) 14 8
def bCnt (s : State) (r : Nat) : Nat := cfg s lBIST (bOff r) 21 16
def bWf (s : State) (r : Nat) : Nat := cfg s lBIST (bOff r) 27 24
def bSrc (s : State) (r : Nat) : Bool := cfgBit s lBIST (bOff r + 4) 8
def bRate (s : State) (r : Nat) : Nat := cfg s lBIST (bOff r + 4) 19 16
def regionsOn (s : State) : List Nat := (List.range 32).filter (bEn s)

/-- Segments that a look of a region makes light; look 0 is blank (R338). -/
def lookBits (s : State) (r : Nat) (k : BitVec 2) : Word :=
  if k = 0#2 then 0#32 else reg s lBIST (bOff r + 4 + 4 * k.toNat)

/-- A phase word, its duration in ms, and the number of phases of a table (R336). -/
def wfWord (s : State) (t p : Nat) : Word := tget s.bist.wf (16 * t + p) 0#32
def wfDur (s : State) (t p : Nat) : Nat := fld (wfWord s t p) 5 0
def wfCount (s : State) (t : Nat) : Nat := ((List.range 16).takeWhile (fun p => decide (wfDur s t p ≠ 0))).length

/-- The level code of a phase for a segment that goes from dark or light to dark or light (R336). -/
def wfLevel (w : Word) (a b : Bool) : Nat :=
  match a, b with
  | false, false => fld w 9 8
  | false, true => fld w 11 10
  | true, false => fld w 13 12
  | true, true => fld w 15 14

/-- The level that a segment of a region is driven to now: 0 VCOM, 1 +15 V, 2 -15 V (R335, R345). -/
def segLevel (s : State) (r i : Nat) : Nat :=
  let g := bReg s r
  match g.steps with
  | [] => 0
  | d :: _ =>
    if g.rest then 0 else
    let l := if d.allLd then wfLevel (wfWord s d.wf d.p) true false
      else wfLevel (wfWord s d.wf d.p) ((lookBits s r d.a).getLsbD i) ((lookBits s r d.b).getLsbD i)
    if d.neg && decide (l ≠ 0) then 3 - l else l

/-- REGION_PHASE (R340). -/
def phaseWord (done cut : Nat) (look prev : BitVec 2) (wf : Nat) : Nat :=
  done % 32 + 32 * (cut % 8) + 256 * look.toNat + 1024 * prev.toNat + 4096 * (wf % 16)

/-- Calcite writes a region's part of its journal area, CRC last (R107, R340); an area that fails its check is laid out anew with
every region DIRTY. -/
def calcWrite (s : State) (r : Nat) (dirty : Bool) (phase : Nat) : State :=
  let s := if calcAreaOk s then s else
    jset (jset { s with grot := { s.grot with sram := mwipe s.grot.sram 0x40 0xC0 } } 0x40 4 0x4A544C43) 0x44 4 0xFFFFFFFF
  let b := BitVec.ofNat 32 (2 ^ r)
  let d := BitVec.ofNat 32 (jget s 0x44 4)
  let s := jset s 0x44 4 (if dirty then d ||| b else d &&& ~~~b).toNat
  let s := jset (jset s (0x4C + 2 * r) 2 phase) 0x48 4 (jget s 0x48 4 + 1)
  let m := if dirty then s.bist.dirty ||| b else s.bist.dirty &&& ~~~b
  areaSeal { s with bist := { s.bist with dirty := m } } 0x40 0x7C

/-- Does the block run: present, powered, configured, enabled, not degraded (R347)? -/
def calcOn (s : State) : Bool := alive s lBIST && s.pwr.cfgLoaded

/-- May an update or the recovery start (R341, R343, R347)? -/
def calcMay (s : State) : Bool :=
  calcOn s && works s lBIST && !(hdr s lBIST).freeze && s.pwr.holdReady && !s.pwr.fail && decide (s.pwr.phase ≠ .powerFail)

/-- May an update start: recovery has ended, and no set waits for the updates to end (R345, R347)? -/
def updMay (s : State) : Bool := calcMay s && s.bist.recovered && !s.bist.recovery && (hdr s lBIST).pend.isNone

/-- Points bound to a region through BIST_REG (R338). -/
def bPoints (s : State) (r : Nat) : List Point :=
  (s.gal.pts.map (·.2)).filter (fun p =>
    bit (p.desc.getD 0 0#32) 0 && bit (p.desc.getD 12 0#32) 31 && decide (fld (p.desc.getD 12 0#32) 28 24 = r))

/-- Bound points ACTIVE, and bound points RETURNED (R338). -/
def bActive (s : State) (r : Nat) : Nat := ((bPoints s r).filter (fun p => p.core.st = 1#3 || p.core.st = 2#3)).length
def bReturned (s : State) (r : Nat) : Nat := ((bPoints s r).filter (fun p => p.core.st = 3#3)).length

/-- The target look that the class of a region with SRC = 0 gives (R338). -/
def classLook (s : State) (r : Nat) : BitVec 2 :=
  let m := reg s lBIST (bOff r + 4)
  BitVec.ofNat 2 (if 0 < bActive s r then fld m 3 2 else if 0 < bReturned s r then fld m 5 4 else fld m 1 0)

/-- May the initial update of a region start (R346)? -/
def initMay (s : State) (r : Nat) : Bool := if bSrc s r then s.pwr.released else (bPoints s r).all (fun p => p.core.first)

/-- The drive steps of an update: the phases of its table on the rows from one look to another (R339). -/
def updSteps (s : State) (wf : Nat) (a b : BitVec 2) : List BDrive :=
  (List.range (wfCount s wf)).map (fun p => { wf := wf, p := p, eighths := 8 * wfDur s wf p, a := a, b := b })

/-- An update ends: the region shows the look (R339, R340, R346); a SWEEP turns back (R459). -/
def endUpdate (s : State) (r : Nat) : State :=
  let g := bReg s r
  let turn := decide (g.look = 3#2)
  let pend := match g.pend with | some l => some l | none => if turn then g.back else none
  let s := setBReg s r { g with run := false, steps := [], rest := false, shown := g.look, init := true, pend := pend,
                                back := if turn then none else g.back }
  raise (countUp (calcWrite s r false (256 * g.look.toNat)) lBIST 0x11C 0 16) lBIST 0

/-- An update starts (R339, R340). -/
def startUpdate (s : State) (r : Nat) (look : BitVec 2) : State :=
  let g := bReg s r
  let wf := bWf s r
  let g := { g with run := true, look := look, prev := g.shown, wf := wf, done := 0, steps := updSteps s wf g.shown look, rest := false,
                    stepAt := s.now, startAt := some s.now, pend := none, begun := true }
  let s := calcWrite (setBReg s r g) r true (phaseWord 0 0 look g.prev wf)
  if g.steps.isEmpty then endUpdate s r else s

/-- Has RATE passed since the previous update's start (R339)? -/
def rateOk (s : State) (r : Nat) : Bool :=
  match (bReg s r).startAt with | none => true | some t => decide (t + 100000000 * bRate s r ≤ s.now)

/-- What waits at a region starts, where it may (R339, R346); `due` says that RATE allows it. -/
def tryUpdate (s : State) (r : Nat) (due : Bool) : State :=
  let g := bReg s r
  if !(updMay s && bEn s r) || g.run || !g.steps.isEmpty then s
  else if !g.begun then (if initMay s r && due then startUpdate s r g.target else s)
  else match g.pend with
    | none => s
    | some l => if l = g.shown then setBReg s r { g with pend := none } else if due then startUpdate s r l else s

/-- A target look changes (R339): it starts an update, or becomes the pending one. -/
def requestLook (s : State) (r : Nat) (look : BitVec 2) : State :=
  let g := bReg s r
  let pend := if g.run && decide (look = g.look) then none else some look
  let s := setBReg s r { g with target := look, pend := pend, back := none }
  tryUpdate s r (rateOk s r)

/-- The points of a region have changed (R338, R339, R346). -/
def bistRefresh (s : State) (r : Nat) : State :=
  if !(calcOn s && bEn s r) then s
  else if !bSrc s r && decide (classLook s r ≠ (bReg s r).target) then requestLook s r (classLook s r)
  else tryUpdate s r (rateOk s r)

/-- As `bistRefresh`, for every region. -/
def bistRefreshAll (s : State) : State := (List.range 32).foldl bistRefresh s

/-- A committed change of a point reaches its region (R338). -/
def bistPoint (s : State) (d : List Word) : State :=
  if bit (d.getD 12 0#32) 31 then bistRefresh s (fld (d.getD 12 0#32) 28 24) else s

/-- BIST_UPDATE_START (R339): RATE allows the pending update of a region. -/
def execBistUpdateStart (region : BitVec 5) (s : State) : Host.Outcome State Fault Refusal :=
  done (tryUpdate s region.toNat true)

/-- A region is recovered (R345). -/
def regionRecovered (s : State) (r : Nat) : State :=
  calcWrite (setBReg s r { bReg s r with shown := 0#2, steps := [], rest := false }) r false 0

/-- The running step of a region ends (R337, R340, R341, R345): after a fall of VIN the next one does not start. -/
def phaseEnd (s : State) (r : Nat) : State :=
  let g := bReg s r
  match g.steps with
  | [] => s
  | _ :: rest =>
    let stop := s.pwr.fail || decide (s.pwr.phase = .powerFail)
    let g := { g with steps := rest, rest := stop && !rest.isEmpty, stepAt := s.now }
    if g.run then
      let g := { g with done := g.done + 1 }
      let s := calcWrite (setBReg s r g) r true (phaseWord g.done 0 g.look g.prev g.wf)
      if rest.isEmpty then (let t := endUpdate s r; tryUpdate t r (rateOk t r)) else s
    else if rest.isEmpty then regionRecovered s r else setBReg s r g

/-- Does a step of a region run? -/
def stepRuns (s : State) (r : Nat) : Bool :=
  present s lBIST && unitOn s lBIST && !s.pwr.degraded && !(bReg s r).steps.isEmpty && !(bReg s r).rest

/-- BIST_PHASE_END (R337, R339, R340, R345). -/
def execBistPhaseEnd (region : BitVec 5) (s : State) : Host.Outcome State Fault Refusal :=
  done (if stepRuns s region.toNat then phaseEnd s region.toNat else s)

/-- The phases that run at the power-fail sequence finish before its end (R341). -/
def finishPhases (s : State) : State := (List.range 32).foldl (fun t r => if stepRuns t r then phaseEnd t r else t) s

/-- Running updates, and what runs of a recovery, end before Sleep (R23, R347). -/
def finishUpdates (s : State) : State :=
  (List.range 32).foldl (fun t r =>
    if (bReg t r).run then endUpdate (setBReg t r { bReg t r with pend := none, back := none }) r
    else if (bReg t r).steps.isEmpty then t else regionRecovered t r) s

/-- The power-fail sequence begins: pending updates are dropped (R341). -/
def dropUpdates (s : State) : State :=
  { s with bist := { s.bist with regs := s.bist.regs.map (fun e => (e.1, { e.2 with pend := none, back := none })) } }

/-- VIN is good again before HOLD_RIDE ends: each region goes on with its next phase (R341). -/
def resumePhases (s : State) : State :=
  (List.range 32).foldl (fun t r => if (bReg t r).rest then setBReg t r { bReg t r with rest := false, stepAt := t.now } else t) s

/-- Reset or degraded entry cuts the running phase of an update; CUT goes to the journal (R344), and nothing goes on. The journal entry of
a region in recovery stays as it is (DEDUCED, log entry 50). -/
def cutPhases (s : State) : State :=
  let cut (t : State) (r : Nat) : State :=
    let g := bReg t r
    let dur := wfDur t g.wf g.done
    let eighths := min 7 (8 * (t.now - g.stepAt) / (dur * 1000000))
    let t := if g.run && stepRuns t r then calcWrite t r true (phaseWord g.done eighths g.look g.prev g.wf) else t
    if g.run || !g.steps.isEmpty || g.pend.isSome then
      setBReg t r { g with run := false, steps := [], rest := false, pend := none, back := none } else t
  if present s lBIST && unitOn s lBIST && !s.pwr.degraded then
    (List.range 32).foldl cut { s with bist := { s.bist with recovery := false } } else s

/-- The recovery of one region: nothing for a clean one; for the others the cut phase and the completed ones backward with
negated levels, then the clearing table (R345). -/
def recoverRegion (s : State) (known : Bool) (r : Nat) : State :=
  let w := jget s (0x4C + 2 * r) 2
  let clr := cfg s lBIST 0x100 7 4
  let clearing (a : BitVec 2) : List BDrive :=
    (List.range (wfCount s clr)).map (fun p => { wf := clr, p := p, eighths := 8 * wfDur s clr p, a := a, allLd := !known, b := 0#2 })
  if known && !s.bist.dirty.getLsbD r then setBReg s r { bReg s r with shown := BitVec.ofNat 2 (bitsOf w 9 8) }
  else
    let wf := bitsOf w 15 12
    let n := bitsOf w 4 0
    let a := BitVec.ofNat 2 (bitsOf w 11 10)
    let b := BitVec.ofNat 2 (bitsOf w 9 8)
    let back (p e : Nat) : BDrive := { wf := wf, p := p, eighths := e, neg := true, a := a, b := b }
    let unwind := if !known then [] else
      (if bitsOf w 7 5 = 0 then [] else [back n (bitsOf w 7 5 * wfDur s wf n)]) ++
      (List.range (min n 16)).reverse.map (fun p => back p (8 * wfDur s wf p))
    let steps := unwind ++ clearing a
    let s := setBReg s r { bReg s r with steps := steps, stepAt := s.now }
    if steps.isEmpty then regionRecovered s r else s

/-- BIST_RECOVERY_START (R345). -/
def execBistRecoveryStart (s : State) : Host.Outcome State Fault Refusal :=
  done (if calcMay s && !s.bist.recovered && !s.bist.recovery then
    let known := s.grot.calcOk
    let s := { s with bist := { s.bist with
      recovery := true, dirty := if known then BitVec.ofNat 32 (jget s 0x44 4) else 0xFFFFFFFF#32 } }
    (regionsOn s).foldl (fun t r => recoverRegion t known r) s
  else s)

/-- BIST_RECOVERY_DONE (R345, R346). -/
def execBistRecoveryDone (s : State) : Host.Outcome State Fault Refusal :=
  done (if s.bist.recovery && calcOn s && !s.pwr.fail then
    let s := (regionsOn s).foldl (fun t r => if (bReg t r).steps.isEmpty then t else regionRecovered t r) s
    let s := { s with bist := { s.bist with recovery := false, recovered := true } }
    bistRefreshAll (raise s lBIST 1)
  else s)

/-- Has every enabled region completed its initial update (R346)? -/
def initDone (s : State) : Bool := s.bist.recovered && (regionsOn s).all (fun r => (bReg s r).init)

/-- BIST_STALE_CLEAR (R38, R346): STALE_WF row LV_LD has run. Without an enabled region no update completes, and the mark stays. -/
def execBistStaleClear (s : State) : Host.Outcome State Fault Refusal :=
  done (if calcMay s && initDone s && !(regionsOn s).isEmpty && s.bist.stale then
    raise { s with bist := { s.bist with stale := false } } lBIST 2 else s)

/-- A write of REG_CMD (R338): a region with SRC = 0 takes none; a disabled one keeps the target until it is enabled. -/
def regCmdWrite (s : State) (ctx : Ctx) (r : Nat) (value : Word) : State :=
  if !bSrc s r then capture s lBIST ctx true 0x8 (bOff r + 0x14)
  else if bit value 31 then requestLook s r (BitVec.ofNat 2 (fld value 1 0)) else s

/-- BIST_REG_CMD_GO (R338, R339). -/
def execBistRegCmdGo (ctx : Ctx) (region : BitVec 5) (value : Word) (s : State) : Host.Outcome State Fault Refusal :=
  done (ownerWrite s ctx lBIST (bOff region.toNat + 0x14) (fun s => regCmdWrite s ctx region.toNat value))

/-- The tables that the set in effect or the pending set names (R336): CLR_WF, STALE_WF, and those of enabled regions. -/
def wfNamed (s : State) : List Nat :=
  let pv (o : Nat) : Word := match (hdr s lBIST).pend with
    | some l => (match l.find? (fun e => e.1 = rk lBIST o) with | some e => e.2 | none => reg s lBIST o)
    | none => reg s lBIST o
  let of (f : Nat → Word) : List Nat :=
    [fld (f 0x100) 3 0, fld (f 0x100) 7 4] ++
    ((List.range 32).filter (fun r => bit (f (bOff r)) 0)).map (fun r => fld (f (bOff r)) 27 24)
  of (reg s lBIST) ++ of pv

/-- WF_ADDR after an access: PHASE, then TABLE, increments under AUTOINC (R349). -/
def wfNext (s : State) : State :=
  let a := reg s lBIST 0x10C
  if bit a 31 then
    let n := (16 * fld a 3 0 + fld a 11 8 + 1) % 256
    setReg s lBIST 0x10C (BitVec.ofNat 32 (0x80000000 + n / 16 + 256 * (n % 16))) else s

/-- A write of WF_DATA (R336): a table that is in use takes none. -/
def wfWrite (s : State) (ctx : Ctx) (value : Word) : State :=
  let t := cfg s lBIST 0x10C 3 0
  if (wfNamed s).contains t then capture s lBIST ctx true 0x8 0x110
  else wfNext { s with bist := { s.bist with wf := tset s.bist.wf (16 * t + cfg s lBIST 0x10C 11 8) (value &&& 0xFFFF#32) 0#32 } }

/-- A read of WF_DATA. -/
def wfReadWord (s : State) : Word := wfWord s (cfg s lBIST 0x10C 3 0) (cfg s lBIST 0x10C 11 8)
def wfRead (s : State) : State := wfNext (answer s (wfReadWord s).toNat)

/-- WF_DATA_WRITE (R336). -/
def execWfDataWrite (ctx : Ctx) (value : Word) (s : State) : Host.Outcome State Fault Refusal :=
  done (ownerWrite s ctx lBIST 0x110 (fun s => wfWrite s ctx value))

/-- DRIVE_FAULT (R349, R486). -/
def execDriveFault (level : Bool) (s : State) : Host.Outcome State Fault Refusal :=
  done (if present s lBIST then { s with bist := { s.bist with drive := level } } else s)

/-- No update and no recovery runs: a committed set may take effect (R347). -/
def calcIdle (s : State) : Bool := !s.bist.recovery && s.bist.regs.all (fun e => !e.2.run && e.2.steps.isEmpty)

/-- The SWEEP test (R459): each enabled region is drawn to LOOK_3, then to the look it showed. -/
def sweepStart (s : State) : State :=
  (regionsOn s).foldl (fun t r =>
    let g := bReg t r
    let back := if g.run then g.look else g.shown
    if back = 3#2 then t else
    let t := setBReg t r { g with pend := some 3#2, back := some back }
    tryUpdate t r (rateOk t r)) s

/-- A soft reset of the page (R69): the stale segment keeps its mark. -/
def bistSoftReset (s : State) : State := { s with bist := { ({} : Bist) with stale := s.bist.stale } }

/-- BIST_STAT, REG_STAT, RUN_MAP and PEND_MAP (R349). -/
def bistStat (s : State) : Word :=
  bitw s.bist.stale 0 ||| bitw s.bist.recovery 1 ||| bitw (initDone s) 2 |||
  bitw (calcOn s && !s.pwr.holdReady && (!s.bist.recovered || (regionsOn s).any (fun r =>
    !(bReg s r).run && ((bReg s r).pend.isSome || (!(bReg s r).begun && initMay s r))))) 3
def regStat (s : State) (r : Nat) : Word :=
  let g := bReg s r
  BitVec.ofNat 32 (g.shown.toNat + 4 * g.target.toNat + 16 * (g.pend.getD 0#2).toNat + 64 * b2n g.pend.isSome + 128 * b2n g.run +
    256 * (if g.run then g.done % 32 else 0) + 0x2000 * b2n (s.bist.dirty.getLsbD r) +
    0x10000 * min (bActive s r) 255 + 0x1000000 * min (bReturned s r) 255)
def runMap (s : State) : Word := s.bist.regs.foldl (fun m e => if e.2.run then m ||| BitVec.ofNat 32 (2 ^ e.1) else m) 0#32
def pendMap (s : State) : Word := s.bist.regs.foldl (fun m e => if e.2.pend.isSome then m ||| BitVec.ofNat 32 (2 ^ e.1) else m) 0#32

end Sys2Proof.Machine
end

