-- ==== Sys2Proof/Machine/Power.lean ====
section
/-! DEFINITION. Supplies, power states, resets, degraded mode, secure boot and lifecycle (R40 to R62, R495, R496). The rows that
reach into later blocks stand in Machine/Modes.lean and Machine/Startup.lean. -/
namespace Sys2Proof.Machine

/-- Domains as DOM_STAT bits. -/
def domsBackup : BitVec 16 := 0x0001#16
def domsAlways : BitVec 16 := 0x0003#16
/-- PD_BACKUP, PD_AON, then PD_SAFE, PD_DRAM, PD_REC, then PD_HOST: what is on while the boot ROM runs (R48 steps 1 to 3). -/
def domsBoot : BitVec 16 := 0x038B#16
/-- PD_GAL, PD_AFE_W, PD_AFE_E, PD_FIO, PD_LOOP, PD_NET (R48 step 4). -/
def domsConfig : BitVec 16 := 0x7070#16
/-- PD_APP, PD_LANT, PD_BIST, PD_SER (R48 step 5); the -B keeps the display domains off (R5). -/
def domsLast (s : State) : BitVec 16 := if s.otp.variantA then 0x8C04#16 else 0x8004#16
/-- PD_APP, PD_LANT and PD_SER, shed at FAIL (R44). -/
def domsShed : BitVec 16 := 0x8404#16
/-- Off within 1 ms of the power-fail sequence (R44): PD_AFE_W, PD_AFE_E, PD_FIO, PD_LOOP, PD_HOST, PD_NET, PD_DRAM. -/
def domsFail : BitVec 16 := 0x71D0#16

/-- The GROT fields the Grotto retains (R95): WAKE_CFG and the alarm registers. -/
def grotRetained (k : Nat) : Bool := (0x2120 ≤ k && k ≤ 0x2130) && k ≠ 0x2124

/-- Everything that a reset, Sleep or Off returns to its reset value (R55, R82); what stays: the queue, the outside, OTP,
memory (wiped by its own rows, R60), the Grotto with its retained fields but no calendar commit on its way (log entry 70), the stale segment, the crystals, RST_CAUSE, the
supply flags and what the MRAM and fuses hold of boot and lifecycle. -/
def volatileReset (s : State) : State :=
  { State.reset with
    pending := s.pending, now := s.now, fresh := s.fresh, mem := s.mem, otp := s.otp, out := s.out,
    grot := { s.grot with commit := none },
    act := s.act.filter (fun e => grotRetained e.1), clk := { State.reset.clk with xt32 := s.clk.xt32 },
    ptp := { State.reset.ptp with ppsIn := s.ptp.ppsIn },
    bist := { State.reset.bist with stale := s.bist.stale },
    flow := { State.reset.flow with nextSeq := s.flow.nextSeq, headBlk := s.flow.headBlk },
    pwr := { State.reset.pwr with
      vinGood := s.pwr.vinGood, dip := s.pwr.dip, fail := s.pwr.fail, overV := s.pwr.overV, holdReady := s.pwr.holdReady,
      holdFault := s.pwr.holdFault, vbat := s.pwr.vbat, meas := s.pwr.meas, rstCause := s.pwr.rstCause, upAt := s.pwr.upAt,
      rstN := s.pwr.rstN, fenceIn := s.pwr.fenceIn, lcState := s.pwr.lcState, activeSlot := s.pwr.activeSlot,
      bootPending := s.pwr.bootPending, trialFail := s.pwr.trialFail, slot := s.pwr.slot, retireWipe := s.pwr.retireWipe } }

/-- The stale mark is written to BIST_STALE (R38); the -B has no stale segment (R5). -/
def writeStale (s : State) : State := if s.otp.variantA then { s with bist := { s.bist with stale := true } } else s

/-- A module reset begins (R55): everything returns to its reset value, the outputs to their reset states, the cause is recorded. A
power-fail sequence, once begun, runs to its end (R45): there the cause is all that is left of the source. -/
def moduleReset (s : State) (cause : BitVec 7) : State :=
  if s.pwr.phase = .powerFail then { s with pwr := { s.pwr with rstCause := s.pwr.rstCause ||| cause } }
  else
    let s := volatileReset (writeStale (cutPhases s))
    { s with pwr := { s.pwr with phase := .inReset, doms := domsAlways, rstCause := s.pwr.rstCause ||| cause } }

/-- Bits of RST_CAUSE (R55). -/
def causeExt : BitVec 7 := 0x04#7
def causeWdt : BitVec 7 := 0x08#7
def causeDegr : BitVec 7 := 0x10#7
def causeFence : BitVec 7 := 0x20#7
def causeSoft : BitVec 7 := 0x40#7

/-- The wipe of a move to RETIRED: MRAM configuration region and Flowstone ring, OTP keys revoked, SEQ restarted (R60, R355). -/
def retireWipeAll (s : State) : State :=
  { s with
    mem := mwipe s.mem 0x66000000 0x70000000
    otp := { s.otp with revoked := 0xF#4 }
    flow := { s.flow with nextSeq := 1, headBlk := 2047, headAddr := 0x68000000, closed := true }
    pwr := { s.pwr with retireWipe := false } }

/-- A start: the timeline of R49 from its 10 ms step (R47, R49, R62, R107). A cut RETIRED wipe ends first; RETIRED runs the
boot ROM alone. POWER_ON and BROWNOUT are resets, on whose entry the stale mark is written (R38, R55). -/
def start (s : State) (afterVin : Bool) : State :=
  let s := if s.pwr.retireWipe then retireWipeAll s else s
  let s := if afterVin then writeStale s else s
  let s := journalStart { s with grot := { s.grot with wipeBusy := false } } afterVin
  let n := Config.freeNonce s.fresh
  { s with
    fresh := s.fresh + 1
    pwr := { s.pwr with
      phase := if s.pwr.lcState = 4#3 then .retired else .boot, doms := domsBoot, nonce := n,
      wdtAt := s.now, sramWiped := false, dramWiped := false, safeRunning := false, cfgLoaded := false, appRunning := false,
      appReleased := false, byWake := false, sysokOn := false } }

/-- A start after VIN good; while RST_N or ROPE_FENCE_IN_N is low the module is held in reset instead (R55). -/
def startVin (s : State) : State :=
  let s := start s true
  if s.pwr.rstN || s.pwr.fenceIn then { s with pwr := { s.pwr with phase := .inReset, doms := domsAlways } } else s

/-- A wake from Sleep (R22, R47): the start-up timeline again, RST_CAUSE unchanged, LAST_WAKE recorded. It is no reset, so it ends no
trial (log entry 71). -/
def wake (s : State) (source : BitVec 4) : State :=
  if s.pwr.pstate = .sleep ∧ s.pwr.phase = .run then
    let t := start s false
    { t with pwr := { t.pwr with
        pstate := .run, lastWake := source, rstCause := s.pwr.rstCause, upAt := s.now, byWake := true,
        trial := s.pwr.trial, trialApp := s.pwr.trialApp } }
  else s

/-- The measurements of SUPPLY_MEAS that come with a supply event. -/
def measured (s : State) (m : Word) : State := { s with pwr := { s.pwr with meas := m } }

/-- Does the wipe of a start go on: in boot, in recovery, and in a RETIRED module (R60)? -/
def wiping (s : State) : Bool := match s.pwr.phase with | .boot => true | .recovery => true | .retired => true | _ => false

/-- SRAM_WIPE_DONE (R49, R60). -/
def execSramWipeDone (s : State) : Host.Outcome State Fault Refusal :=
  done (if wiping s = true ∧ s.pwr.sramWiped = false then
    { s with mem := mwipe s.mem 0x20000000 0x20400000, pwr := { s.pwr with sramWiped := true } } else s)

/-- DRAM_WIPE_DONE (R49, R60). -/
def execDramWipeDone (s : State) : Host.Outcome State Fault Refusal :=
  done (if wiping s = true ∧ s.pwr.dramWiped = false then
    { s with mem := mwipe s.mem 0x80000000 0xBC000000, pwr := { s.pwr with dramWiped := true } } else s)

/-- Base of an image slot: false is A, true is B (R51). -/
def slotBase (b : Bool) : Nat := if b then 0x63000000 else 0x60000000
def configBase : Nat := 0x66000000

/-- Offset of the application payload: the next 4 KiB boundary after the safety payload (R52). -/
def appOffset (safeLen : Nat) : Nat := ((192 + safeLen + 4095) / 4096) * 4096

/-- Does the image at an address verify (R53)? `config` asks for the configuration's rule, a key slot other than 0. -/
def imageOk (s : State) (base : Nat) (config : Bool) : Bool :=
  let m := s.mem
  let key := mgetLE m (base + 6) 1
  let safeLen := mgetLE m (base + 12) 4
  let appLen := mgetLE m (base + 16) 4
  let pub := mgetBytes m (base + 128) 64
  let digest := mgetBytes m (base + 32) 32
  decide (mgetLE m base 4 = 0x49564E4C) && decide (mgetLE m (base + 4) 2 = 1) &&
  decide (key < 4) && !(config && decide (key = 0)) && !s.otp.revoked.getLsbD key &&
  decide (beNat (sha256 pub) = (s.otp.keyHash.getD key 0#256).toNat) &&
  decide (s.otp.rollback.toNat ≤ mgetLE m (base + 8) 4) &&
  decide (digest = sha256 (mgetBytes m base 32 ++ mgetBytes m (base + 192) safeLen ++ mgetBytes m (base + appOffset safeLen) appLen)) &&
  ecdsaOk digest (mgetLE m (base + 64) 32) (mgetLE m (base + 96) 32) (mgetLE m (base + 128) 32) (mgetLE m (base + 160) 32)

/-- The safety firmware of a slot starts. -/
def runSlot (s : State) (b trial : Bool) : State :=
  { s with pwr := { s.pwr with slot := b, trial := trial, safeRunning := true } }

/-- The trial of the inactive slot starts: TRIAL_FAIL speaks of it from here on (R54; log entry 71). -/
def startTrial (s : State) (b : Bool) : State :=
  runSlot { s with pwr := { s.pwr with bootPending := false, trialFail := false, trialApp := false } } b true

/-- A trial ends without success (R54). -/
def trialEnds (s : State) : State :=
  { s with pwr := { s.pwr with trialFail := true, trial := false, trialApp := false } }

/-- BOOT_SAFETY_IMAGE_VERIFY (R51, R53, R54, R62): after a reset the trial slot first where one is pending, then the active slot, then
the other; after a wake the slot that ran before; with none the module enters recovery. In MANUFACTURE the boot ROM runs alone. -/
def execBootSafetyImageVerify (s : State) : Host.Outcome State Fault Refusal :=
  done (if s.pwr.phase = .boot ∧ s.pwr.sramWiped = true ∧ s.pwr.safeRunning = false ∧ s.pwr.lcState ≠ 0#3 then
    let a := s.pwr.activeSlot
    let due := s.pwr.bootPending && !s.pwr.byWake
    if s.pwr.byWake && imageOk s (slotBase s.pwr.slot) false then runSlot s s.pwr.slot s.pwr.trial
    else if due && imageOk s (slotBase (!a)) false then startTrial s (!a)
    else
      let s := if s.pwr.byWake && s.pwr.trial && !s.pwr.trialApp then trialEnds s else s
      let s := if due then trialEnds { s with pwr := { s.pwr with bootPending := false } } else s
      if imageOk s (slotBase a) false then runSlot s a false
      else if imageOk s (slotBase (!a)) false then runSlot s (!a) false
      else { s with pwr := { s.pwr with phase := .recovery } }
  else s)

/-- Domains come on; those that ride-through sheds wait for VIN good (R44). -/
def domsWanted (s : State) (m : BitVec 16) : State :=
  if s.pwr.fail then { s with pwr := { s.pwr with doms := s.pwr.doms ||| (m &&& ~~~domsShed), shed := s.pwr.shed ||| (m &&& domsShed) } }
  else domsSet s m

/-- The application cores run where PD_APP is on and APP_CTRL does not hold them. -/
def appStart (s : State) : State := { s with pwr := { s.pwr with appRunning := domOn s dAPP && !cfgBit s lPWR 0x120 0 } }

/-- BOOT_APP_RELEASE (R48 step 5, R49): the last domains come on and the application cores are released; in Doze PD_APP stays off (R21). -/
def execBootAppRelease (s : State) : Host.Outcome State Fault Refusal :=
  done (if (s.pwr.phase = .boot ∨ s.pwr.phase = .run) ∧ s.pwr.cfgLoaded = true ∧ s.pwr.appReleased = false then
    let s := domsWanted s (if s.pwr.pstate = .doze then domsLast s &&& ~~~0x0004#16 else domsLast s)
    appStart { s with pwr := { s.pwr with appReleased := true } } else s)

/-- SUPPLY_DIP, SUPPLY_DIP_CLEAR, SUPPLY_OVER, SUPPLY_OVER_CLEAR: each change of a flag is one event (R43). The monitor sits in PD_AON. -/
def execSupplyDip (meas : Word) (s : State) : Host.Outcome State Fault Refusal :=
  let s := measured s meas
  done (if !domOn s dAON || s.pwr.dip then s else supplyEvent { s with pwr := { s.pwr with dip := true } } 0 true)

def execSupplyDipClear (meas : Word) (s : State) : Host.Outcome State Fault Refusal :=
  let s := measured s meas
  done (if domOn s dAON && s.pwr.dip then supplyEvent { s with pwr := { s.pwr with dip := false } } 0 false else s)

def execSupplyOver (meas : Word) (s : State) : Host.Outcome State Fault Refusal :=
  let s := measured s meas
  done (if !domOn s dAON || s.pwr.overV then s else supplyEvent { s with pwr := { s.pwr with overV := true } } 2 true)

def execSupplyOverClear (meas : Word) (s : State) : Host.Outcome State Fault Refusal :=
  let s := measured s meas
  done (if domOn s dAON && s.pwr.overV then supplyEvent { s with pwr := { s.pwr with overV := false } } 2 false else s)

/-- Is the module powered and out of the power-fail sequence? -/
def powered (s : State) : Bool := match s.pwr.phase with | .off => false | .powerFail => false | _ => true

/-- HOLD_READY (R41, R42). -/
def execHoldReady (meas : Word) (s : State) : Host.Outcome State Fault Refusal :=
  let s := measured s meas
  done (if domOn s dAON then bistRefreshAll { s with pwr := { s.pwr with holdReady := true } } else s)

/-- HOLD_FAULT (R41, R183): VHOLD below 12 V for 5 s after VIN good. -/
def execHoldFault (meas : Word) (s : State) : Host.Outcome State Fault Refusal :=
  let s := measured s meas
  done (if !domOn s dAON || s.pwr.holdFault then s else
    send { s with pwr := { s.pwr with holdFault := true } } lPWR lGAL
      (.item { srcType := 4#3, idx := 3#9, value := f32One, stamp := time64 s }))

/-- RST_N_LOW (R36, R55). -/
def execRstNLow (s : State) : Host.Outcome State Fault Refusal :=
  done (if s.pwr.phase ≠ .off then
    let t := moduleReset s causeExt
    { t with pwr := { t.pwr with rstN := true } } else s)

/-- FENCE_IN_RESET (R55): ROPE_FENCE_IN_N low for at least 1 µs. -/
def execFenceInReset (s : State) : Host.Outcome State Fault Refusal :=
  done (if s.pwr.phase ≠ .off then
    let t := moduleReset s causeFence
    { t with pwr := { t.pwr with fenceIn := true } } else s)

/-- RESET_RELEASE (R49, R55): the sources have ended and the start-up timeline begins. -/
def execResetRelease (s : State) : Host.Outcome State Fault Refusal :=
  let t := { s with pwr := { s.pwr with rstN := false, fenceIn := false } }
  done (match s.pwr.phase with
    | .inReset => start { t with pwr := { t.pwr with upAt := s.now } } false
    | .off => t
    | .powerFail => t
    | _ => s)

/-- A watchdog reset; before BOOT_CONFIRM it ends a trial (R54, R56). -/
def wdtReset (s : State) : State :=
  let s := if s.pwr.trial && decide (s.pwr.phase ≠ .powerFail) then { s with pwr := { s.pwr with trialFail := true } } else s
  moduleReset s causeWdt

/-- The safety core's watchdog runs from reset release (R56), while PD_SAFE is on. -/
def wdtRuns (s : State) : Bool :=
  domOn s dSAFE && (match s.pwr.phase with | .boot => true | .recovery => true | .run => true | .retired => true | _ => false)

/-- WDT_TIMEOUT (R18, R55, R56). -/
def execWdtTimeout (s : State) : Host.Outcome State Fault Refusal :=
  done (if wdtRuns s then wdtReset s else s)

/-- WDT_KICK (R56): the two values alternate; any other is an immediate reset; a correct one restarts the timeout with the
WDT_CFG.TIMEOUT now in use. -/
def execWdtKick (ctx : Ctx) (value : Word) (s : State) : Host.Outcome State Fault Refusal :=
  done (ownerWrite s ctx lPWR 0x128 (fun s =>
    if value = (if s.pwr.wdtExpectA5 then 0xA5A5#32 else 0x5A5A#32) then
      { s with pwr := { s.pwr with wdtExpectA5 := !s.pwr.wdtExpectA5, wdtAt := s.now, wdtMs := cfg s lPWR 0x124 9 0 } }
    else wdtReset s))

/-- SYSOK stops, and the expected value returns to 0x0000_5A5A (R57). -/
def sysokStop (s : State) : State :=
  { s with pwr := { s.pwr with sysokOn := false, sysokExpectA5 := false, sysokKicks := 0 } }

/-- May SYSOK start to toggle: released, in Run or Doze, not degraded (R37, R57)? In Sleep PD_SAFE is off, so it goes on only until the
last kick is 1.8 ms old. -/
def sysokAllowed (s : State) : Bool := s.pwr.released && decide (s.pwr.phase = .run) && !s.pwr.degraded

/-- SYSOK_KICK (R57): two correct values in sequence start it; a wrong one stops it. -/
def execSysokKick (ctx : Ctx) (value : Word) (s : State) : Host.Outcome State Fault Refusal :=
  done (ownerWrite s ctx lPWR 0x12C (fun s =>
    if value = (if s.pwr.sysokExpectA5 then 0xA5A5#32 else 0x5A5A#32) then
      let n := s.pwr.sysokKicks + 1
      { s with pwr := { s.pwr with
          sysokExpectA5 := !s.pwr.sysokExpectA5, sysokKicks := min n 2, sysokAt := s.now,
          sysokOn := s.pwr.sysokOn || (sysokAllowed s && decide (2 ≤ n)) } }
    else sysokStop s))

/-- SYSOK_KICK_TIMEOUT (R37, R57): no correct kick for 1.8 ms. -/
def execSysokKickTimeout (s : State) : Host.Outcome State Fault Refusal :=
  done (if s.pwr.sysokOn then sysokStop s else s)

/-- SW_RESET (R55): accepted from CTX_0 only, whoever owns the page. -/
def execSwReset (ctx : Ctx) (value : Word) (s : State) : Host.Outcome State Fault Refusal :=
  done (ctxWrite s 0#3 ctx lPWR 0x11C (fun s => if value = 0x5A5A#32 then moduleReset s causeSoft else s))

/-- ERR_INFO as its register word (R68). -/
def errWord (e : ErrInfo) : Word :=
  BitVec.ofNat 32 (e.ctx.toNat + 8 * b2n e.write + 16 * e.code.toNat + 256 * e.offset.toNat + 0x100000 * e.page.toNat +
    0x40000000 * b2n e.overflow + 0x80000000 * b2n e.valid)

/-- DEGR_HOLD_EXPIRY (R55, R59): the module resets itself unless the hold time is 0 or three entries fell in the last hour. -/
def execDegrHoldExpiry (s : State) : Host.Outcome State Fault Refusal :=
  done (if s.pwr.degraded && decide (cfg s lPWR 0x138 7 0 ≠ 0) && decide (degradedCount s < 3) then moduleReset s causeDegr else s)

/-- CORE_BUS_ERROR (R495): the core takes an access-fault exception of its own; a read delivers no data and nothing outside the
core changes. -/
def execCoreBusError (_app : Bool) (_addr : Word) (_write : Bool) (s : State) : Host.Outcome State Fault Refusal := done s

/-- BOOT_CONFIRM (R54). -/
def execBootConfirm (ctx : Ctx) (s : State) : Host.Outcome State Fault Refusal :=
  done (ownerWrite s ctx lPWR 0x144 (fun s =>
    if s.pwr.trial then
      let b := if s.pwr.trialApp then !s.pwr.activeSlot else s.pwr.slot
      let rb := mgetLE s.mem (slotBase b + 8) 4
      { s with pwr := { s.pwr with activeSlot := b, trial := false, trialApp := false },
               otp := { s.otp with rollback := if s.otp.rollback.toNat < rb then BitVec.ofNat 16 rb else s.otp.rollback } }
    else s))

/-- The safety payload of a slot. -/
def safetyPayload (s : State) (b : Bool) : List Byte := mgetBytes s.mem (slotBase b + 192) (mgetLE s.mem (slotBase b + 12) 4)

/-- The square root modulo the field prime, where there is one. -/
def sqrtMod (v : Nat) : Nat := powMod p256P 256 v ((p256P + 1) / 4)

/-- The public keys under which `(r, s)` can be a signature of a digest: the two points with that x coordinate. -/
def keysOf (digest : List Byte) (r s : Nat) : List (Nat × Nat) :=
  let y2 := (fsub (r * r * r) (3 * r) + p256B) % p256P
  let y := sqrtMod y2
  let ri := invMod p256N r
  let z := beNat digest
  let u1 := (p256N - z * ri % p256N) % p256N
  let u2 := s * ri % p256N
  if y * y % p256P ≠ y2 then [] else
  [y, (p256P - y) % p256P].map (fun yy =>
    let q := jadd (jmul 256 u1 ⟨p256G.1, p256G.2, 1⟩) (jmul 256 u2 ⟨r, yy, 1⟩)
    let zi := invMod p256P q.z
    (q.x * (zi * zi % p256P) % p256P, q.y * (zi * zi % p256P * zi % p256P) % p256P))

/-- Is LC_TOKEN a signature, by a key whose hash stands in one of these OTP slots unrevoked, over the target state, the device ID
and the nonce (R61)? OTP holds hashes alone, so the candidate keys are those the signature itself determines. R61 gives the three
parts no byte form: the target state is taken as one byte, then the device ID and the nonce as their registers hold them, least
significant byte first, and r and s little-endian as in LC_TOKEN (DESIGN CHOICE, log entry 10). -/
def tokenOk (s : State) (target : Nat) (slots : List Nat) : Bool :=
  let tok := regBytes s lPWR 0x200 16
  let r := leNat (tok.take 32)
  let sg := leNat (tok.drop 32)
  let digest := sha256 (leBytes 1 target ++ nonceBytes s.otp.devId ++ nonceBytes s.pwr.nonce)
  (keysOf digest r sg).any (fun q =>
    ecdsaOk digest r sg q.1 q.2 &&
    slots.any (fun k => !s.otp.revoked.getLsbD k &&
      decide (beNat (sha256 (leBytes 32 q.1 ++ leBytes 32 q.2)) = (s.otp.keyHash.getD k 0#256).toNat)))

/-- Does an OTP slot of the integrator hold a key hash (R61)? -/
def integratorKey (s : State) : Bool :=
  [1, 2, 3].any (fun k => decide (s.otp.keyHash.getD k 0#256 ≠ 0#256) && !s.otp.revoked.getLsbD k)

/-- The export guard of R367: RETIRED needs an exported snapshot released within the last 600 s while RETIRE_GUARD is 1. -/
def exportGuard (s : State) : Bool :=
  !cfgBit s lFLOW 0x104 24 || (match s.flow.exportAt with | some t => decide (s.now ≤ t + 600000000000) | none => false)

/-- Is a lifecycle request allowed (R61, R367)? -/
def lcAllowed (s : State) (target : Nat) : Bool :=
  match s.pwr.lcState.toNat, target with
  | 0, 1 => tokenOk s 1 [0]
  | 1, 2 => integratorKey s
  | 2, 3 => tokenOk s 3 [1, 2, 3]
  | 3, 2 => true
  | 2, 4 => tokenOk s 4 [1, 2, 3] && exportGuard s
  | 3, 4 => tokenOk s 4 [1, 2, 3] && exportGuard s
  | _, _ => false

/-- LC_STAT.LC_REJECT is set, nothing else changes and a new nonce is drawn (R61). -/
def lcReject (s : State) : State :=
  { s with fresh := s.fresh + 1, pwr := { s.pwr with lcReject := true, nonce := Config.freeNonce s.fresh } }

/-- A lifecycle change: the record, the commit, then reset and wipe (R60, R61, R62). -/
def lcCommit (s : State) (target : Nat) : State :=
  let s := deviceRecNow s 6#8 (leBytes 1 s.pwr.lcState.toNat ++ leBytes 1 target ++ [0#8, 0#8])
  let s := { s with pwr := { s.pwr with lcState := BitVec.ofNat 3 target, retireWipe := decide (target = 4) } }
  let s := moduleReset s 0#7
  { s with grot := { s.grot with sram := [], wipeBusy := true } }

/-- A write of LC_REQ (R61): from CTX_0. -/
def lcRequest (s : State) (ctx : Ctx) (target : Nat) : State :=
  ownerWrite s ctx lPWR 0x148 (fun s =>
    if decide (ctx = 0#3) && lcAllowed s target then lcCommit s target else lcReject s)

/-- LC_REQ_PROVISIONED, LC_REQ_OPERATIONAL, LC_REQ_SERVICE, LC_REQ_RETIRED (R61, R367). -/
def execLcReqProvisioned (ctx : Ctx) (s : State) : Host.Outcome State Fault Refusal := done (lcRequest s ctx 1)
def execLcReqOperational (ctx : Ctx) (s : State) : Host.Outcome State Fault Refusal := done (lcRequest s ctx 2)
def execLcReqService (ctx : Ctx) (s : State) : Host.Outcome State Fault Refusal := done (lcRequest s ctx 3)
def execLcReqRetired (ctx : Ctx) (s : State) : Host.Outcome State Fault Refusal := done (lcRequest s ctx 4)

end Sys2Proof.Machine
end

