-- ==== Sys2Proof/Machine/TimeBase.lean ====
section
/-! DEFINITION. Clocks, the PTP clock and the Grotto's rows (R85 to R108), and the passing of time on an empty queue. -/
namespace Sys2Proof.Machine

/-- A signed 32-bit or 64-bit field as an integer. -/
def sInt32 (w : Word) : Int := sext 32 w.toNat
def sInt64 (w : DWord) : Int := sext 64 w.toNat

/-- An integer saturated to signed 32 bits. -/
def sat32 (i : Int) : Int := if i < -0x80000000 then -0x80000000 else if 0x7FFFFFFF < i then 0x7FFFFFFF else i

/-- RATE_ADJ saturates at ±512,000,000 (PTP_RATE). -/
def clampRate (i : Int) : Int := if i < -512000000 then -512000000 else if 512000000 < i then 512000000 else i

/-- A quarter of an 8 ns clock period of the NET island: uptime advances by 2 ns; while PD_NET is on, TIME64 advances at the end of the
period by 8 ns adjusted by the rate in use, and stamps are interpolated until then (R88, R89). -/
def tick (s : State) : State :=
  let s := { s with now := s.now + 2 }
  if !domOn s dNET then s
  else if s.ptp.sub ≠ 3#2 then { s with ptp := { s.ptp with sub := s.ptp.sub + 1 } }
  else
    let acc : Int := (s.ptp.frac : Int) + 8 * 1024000000000 + 8 * s.ptp.rate
    { s with ptp := { s.ptp with
        time := s.ptp.time + BitVec.ofInt 64 (acc / 1024000000000), frac := (acc % 1024000000000).toNat, sub := 0#2 } }

/-- XT32_FAIL and XT32_BACK (R86): from a failure on, what the prescaler and the wake counter have counted is not fixed, until each
starts again on the crystal. -/
def execXt32Fail (s : State) : Host.Outcome State Fault Refusal :=
  done (if s.clk.xt32 then
    raiseIf (unitOn s lCLK) { s with
      clk := { s.clk with xt32 := false }, grot := { s.grot with preFree := true, wakeFree := true } } lCLK 0
  else s)

def execXt32Back (s : State) : Host.Outcome State Fault Refusal :=
  done (if s.clk.xt32 then s else raiseIf (unitOn s lCLK) { s with clk := { s.clk with xt32 := true } } lCLK 1)

/-- PTP_TIME_READ (R88): a 32-bit read latches the upper half; a 64-bit read returns both halves. -/
def execPtpTimeRead (ctx : Ctx) (wide : Bool) (s : State) : Host.Outcome State Fault Refusal :=
  done (readAccess s ctx lPTP 0x100 (fun s =>
    if wide then answer s s.ptp.time.toNat
    else
      let s := answer s (s.ptp.time.toNat % 0x100000000)
      { s with ptp := { s.ptp with hiLatch := BitVec.ofNat 32 (s.ptp.time.toNat / 0x100000000) } }))

/-- The lock state becomes `dest`, with a step of `step` ns (0 for none): LOCK_CHG on a change, and a device record of a change or
step (R91, R357 type 4). -/
def ptpMove (s : State) (dest : BitVec 2) (step : Int) : State :=
  let old := s.ptp.lock
  let s := { s with ptp := { s.ptp with lock := dest, good := 0, missed := 0 } }
  let s := raiseIf (decide (old ≠ dest)) s lPTP 0
  if old ≠ dest ∨ step ≠ 0 then
    flowRec s lPTP 0#4 4#8 (leBytes 1 old.toNat ++ leBytes 1 dest.toNat ++ [0#8, 0#8] ++
      leBytes 4 (reg s lPTP 0x124).toNat ++ leBytes 8 (narrow 64 step))
  else s

/-- Move TIME64 by a signed number of ns. -/
def ptpShift (s : State) (d : Int) : State := { s with ptp := { s.ptp with time := s.ptp.time + BitVec.ofInt 64 d } }

/-- PTP_STEP (R89, R91): adds the signed offset; the lock state goes to FREERUN. -/
def execPtpStep (ctx : Ctx) (time : DWord) (s : State) : Host.Outcome State Fault Refusal :=
  done (ownerWrite s ctx lPTP 0x108 (fun s => ptpMove (ptpShift s (sInt64 time)) 0#2 (sInt64 time)))

/-- The servo steps the clock by the measured offset (R89): IRQ_RAW.STEP. -/
def servoStep (s : State) (dest : BitVec 2) (offset : Int) : State :=
  raise (ptpMove (ptpShift s (-offset)) dest (-offset)) lPTP 2

/-- The servo slews: the rate in use becomes a value the spec does not give, within ±500 ppm (R88; log entry 1). -/
def servoSlew (s : State) : State :=
  let d := draw s
  { d.2 with ptp := { d.2.ptp with rate := clampRate (sInt32 d.1) } }

/-- One valid offset measurement moves the lock state (R91). In HOLDOVER it only slews: where the offset is above 100 µs the step is that
of the next update, in ACQUIRE; the table leaves open which update steps (DESIGN CHOICE, log entry 69). -/
def ptpUpdate (s : State) (offset : Int) : State :=
  let s := setReg s lPTP 0x124 (BitVec.ofInt 32 (sat32 offset))
  let s := { s with ptp := { s.ptp with missed := 0 } }
  let mag := offset.natAbs
  match s.ptp.lock.toNat with
  | 0 => if 100000 < mag then servoStep s 1#2 offset else servoSlew (ptpMove s 1#2 0)
  | 1 =>
    if 100000 < mag then servoStep s 1#2 offset
    else if mag ≤ cfg s lPTP 0x118 11 0 then
      let n := s.ptp.good + 1
      if cfg s lPTP 0x118 15 12 ≤ n then servoSlew (ptpMove s 2#2 0)
      else servoSlew { s with ptp := { s.ptp with good := n } }
    else servoSlew { s with ptp := { s.ptp with good := 0 } }
  | 2 => if cfg s lPTP 0x118 31 16 < mag then servoSlew (ptpMove s 1#2 0) else servoSlew s
  | _ => servoSlew (ptpMove s 1#2 0)

/-- Is the servo on: the page works and SERVO_MANUAL is 0 (R89)? -/
def servoOn (s : State) : Bool := works s lPTP && !cfgBit s lPTP 0x114 3

/-- PTP_MESSAGE_RX (R90, R91, UTC_OFF). -/
def execPtpMessageRx (msg : PtpMsg) (s : State) : Host.Outcome State Fault Refusal :=
  done (if works s lPTP then
    match msg with
    | .update o => if servoOn s && !s.ptp.gm then ptpUpdate s (sInt64 o) else s
    | .announce sel gm utc v =>
      let s := { s with ptp := { s.ptp with msel := sel, gm := gm && !cfgBit s lPTP 0x114 2 } }
      if sel then setReg s lPTP 0x128 (BitVec.ofNat 32 (utc.toNat + 0x10000 * b2n v)) else s
  else s)

/-- Loss of the reference (R91). -/
def ptpLost (s : State) : State :=
  match s.ptp.lock.toNat with
  | 1 => ptpMove s 0#2 0
  | 2 => ptpMove s (if cfg s lPTP 0x11C 15 0 = 0 then 0#2 else 3#2) 0
  | _ => s

/-- PTP_LOSS (R91): LOSS_CNT consecutive update periods with no valid update. -/
def execPtpLoss (s : State) : Host.Outcome State Fault Refusal := done (if servoOn s then ptpLost s else s)

/-- PTP_HOLDOVER_EXPIRY (R91): HOLD_MAX seconds in HOLDOVER. -/
def execPtpHoldoverExpiry (s : State) : Host.Outcome State Fault Refusal :=
  done (if servoOn s ∧ s.ptp.lock = 3#2 then ptpMove s 0#2 0 else s)

/-- Do the updates come from PPS_IN (LOCK_STAT.REF_PPS)? -/
def refPps (s : State) : Bool := s.ptp.gm && cfgBit s lPTP 0x114 4

/-- The phase of TIME64 against the nearest second, signed ns. -/
def ppsPhase (t : DWord) : Int :=
  let r := t.toNat % 1000000000
  if r < 500000000 then (r : Int) else (r : Int) - 1000000000

/-- Put a 64-bit value into a register pair. -/
def setReg64 (s : State) (u o : Nat) (v : DWord) : State :=
  setReg (setReg s u o (BitVec.ofNat 32 v.toNat)) u (o + 4) (BitVec.ofNat 32 (v.toNat / 0x100000000))

/-- PPS_IN_EDGE (R93): the pin changes its level; an edge of the polarity in IN_POL is stamped and raises its source, and a grandmaster
with PPS_REF takes its phase from it. -/
def execPpsInEdge (s : State) : Host.Outcome State Fault Refusal :=
  let s := { s with ptp := { s.ptp with ppsIn := !s.ptp.ppsIn } }
  done (if unitOn s lPTP && cfgBit s lPTP 0x130 0 && (s.ptp.ppsIn ^^ cfgBit s lPTP 0x130 1) then
    let s := raise (setReg64 s lPTP 0x138 (time64 s)) lPTP 1
    if servoOn s && refPps s then ptpUpdate s (ppsPhase (time64 s)) else s
  else s)

/-- PPS_IN_MISS (R93): one update period with no valid update. -/
def execPpsInMiss (s : State) : Host.Outcome State Fault Refusal :=
  done (if unitOn s lPTP && cfgBit s lPTP 0x130 0 then
    let s := raise s lPTP 3
    if servoOn s && refPps s then
      let n := s.ptp.missed + 1
      let s := { s with ptp := { s.ptp with missed := n } }
      if cfg s lPTP 0x11C 23 16 ≤ n then ptpLost s else s
    else s
  else s)

/-- PPS_OUT_PULSE (R94): TIME64 mod 1,000,000,000 = 0. -/
def execPpsOutPulse (s : State) : Host.Outcome State Fault Refusal :=
  done (if unitOn s lPTP && cfgBit s lPTP 0x130 2 && (!cfgBit s lPTP 0x130 3 || decide (s.ptp.lock = 2#2)) then
    { s with ptp := { s.ptp with ppsOut := true } } else s)

/-- PPS_OUT_END (R94): OUT_W ms after the rise. -/
def execPpsOutEnd (s : State) : Host.Outcome State Fault Refusal :=
  done { s with ptp := { s.ptp with ppsOut := false } }

/-- Does the calendar match every field enabled in ALM_CFG (R104)? -/
def almMatch (s : State) : Bool :=
  let c := reg s lGROT 0x130
  let t := reg s lGROT 0x12C
  let d := reg s lGROT 0x128
  bit c 15 && (!bit c 0 || decide (fld t 5 0 = s.grot.sec)) && (!bit c 1 || decide (fld t 13 8 = s.grot.min)) &&
  (!bit c 2 || decide (fld t 20 16 = s.grot.hour)) && (!bit c 3 || decide (fld t 26 24 = s.grot.wday)) &&
  (!bit c 4 || decide (fld d 28 24 = s.grot.day)) && (!bit c 5 || decide (fld d 19 16 = s.grot.month))

/-- The edge of a second tick or commit is stamped in PTP GROT_TS (R97, R99), while the PTP clock runs. -/
def grotStamp (s : State) : State := if unitOn s lPTP then setReg64 s lPTP 0x140 (time64 s) else s

/-- Raise a GROT source, on the side of the page that is in PD_AON (R95). -/
def grotRaise (s : State) (i : Nat) : State := raiseIf (domOn s dAON) s lGROT i

/-- GROTTO_SECOND_TICK (R97, R104): the calendar and GSEC advance, SEC_TICK, the tick to GAL and GROT_TS. -/
def execGrottoSecondTick (s : State) : Host.Outcome State Fault Refusal :=
  let g := calendarNext s.grot
  let s := { s with grot := { g with gsec := g.gsec + 1, preAt := s.now, preFree := !s.clk.xt32 } }
  let s := { s with grot := { s.grot with almDue := s.grot.almDue || almMatch s } }
  done (send (grotStamp (grotRaise s 2)) lGROT lGAL (.grotto (decide (s.grot.sec = 0) && decide (s.grot.min % 15 = 0))))

/-- The prescaler: 32,768 edges per second since it last read 0 on the crystal; where the internal oscillator has run since, its count
is not fixed (R86, R97), and the value is free. -/
def prescaler (s : State) : Nat :=
  if !s.grot.preFree then min 32767 ((s.now - s.grot.preAt) * 32768 / 1000000000) else (Config.freeWord s.fresh).toNat % 32768

/-- Words of a date and of a time with weekday. -/
def dateWord (g : Grot) : Word := BitVec.ofNat 32 (g.year + 0x10000 * g.month + 0x1000000 * g.day)
def timeWord (g : Grot) : Word := BitVec.ofNat 32 (g.sec + 0x100 * g.min + 0x10000 * g.hour + 0x1000000 * g.wday)

/-- TIME_SNAP_READ (R98): returns the prescaler and copies the calendar of the same edge. -/
def execTimeSnapRead (ctx : Ctx) (s : State) : Host.Outcome State Fault Refusal :=
  done (readAccess s ctx lGROT 0x100 (fun s =>
    let s := answer s (prescaler s)
    let s := { s with fresh := s.fresh + 1 }
    setReg (setReg (setReg s lGROT 0x104 (dateWord s.grot)) lGROT 0x108 (timeWord s.grot)) lGROT 0x10C s.grot.gsec))

/-- Is a set on its way into the Grotto (APPLY_STAT.PENDING of the GROT page; R99, R100)? -/
def grotPending (s : State) : Bool := s.grot.commit.isSome || (hdr s lGROT).pend.isSome

/-- The REASON and REJ_OFFSET with which a set is rejected, the lowest code first (R99). -/
def calReason (d t sec : Word) : Option (Nat × Nat) :=
  let m := fld d 19 16
  if m = 0 ∨ 12 < m then some (0x40, 0x110)
  else if fld d 28 24 = 0 ∨ monthDays (fld d 11 0) m < fld d 28 24 then some (0x41, 0x110)
  else if 23 < fld t 20 16 then some (0x42, 0x114)
  else if 59 < fld t 13 8 then some (0x43, 0x114)
  else if 59 < fld sec 5 0 then some (0x44, 0x118)
  else none

/-- A rejected set or value: REJECT, REASON, REJ_OFFSET and APPLY_REJ (R80). -/
def rejectSet (s : State) (u reason off : Nat) : State :=
  raise (setHdr s u { hdr s u with reject := true, reason := BitVec.ofNat 8 reason, rejOff := BitVec.ofNat 12 off }) (pageOf u) 29

/-- The edge at which a waiting set loads the calendar or is rejected (R99). A commit never fires the alarm (R104), and leaves one that
an earlier tick has made due. -/
def calCommit (s : State) : State :=
  match s.grot.commit with
  | none => s
  | some (d, t, sec) =>
    let s := { s with grot := { s.grot with commit := none } }
    match calReason d t sec with
    | some (r, o) => rejectSet s lGROT r o
    | none =>
      let s := { s with grot := { s.grot with
        year := fld d 11 0, month := fld d 19 16, day := fld d 28 24, hour := fld t 20 16, min := fld t 13 8,
        sec := fld sec 5 0, preAt := s.now, preFree := !s.clk.xt32 } }
      let h := hdr s lGROT
      let s := raise (setHdr s lGROT { h with gen := h.gen + 1, reject := false, reason := 0#8, rejOff := 0#12 }) lGROT 30
      send (grotStamp s) lGROT lGAL (.grotto true)

/-- CAL_COMMIT (R99). -/
def execCalCommit (s : State) : Host.Outcome State Fault Refusal := done (calCommit s)

/-- CAL_SET_SEC (R99, R100): copies the holding registers and starts the commit; a frozen Grotto is at its boundary (R82). -/
def execCalSetSec (ctx : Ctx) (value : Word) (s : State) : Host.Outcome State Fault Refusal :=
  done (ownerWrite s ctx lGROT 0x118 (fun s =>
    if grotPending s then capture s lGROT ctx true 0x8 0x118
    else
      let s := { s with grot := { s.grot with commit := some (reg s lGROT 0x110, reg s lGROT 0x114, value &&& 0x3F#32) } }
      if (hdr s lGROT).frozen then calCommit s else s))

/-- WDAY_SET (R101). -/
def execWdaySet (ctx : Ctx) (value : Word) (s : State) : Host.Outcome State Fault Refusal :=
  done (ownerWrite s ctx lGROT 0x11C (fun s =>
    if fld value 2 0 = 7 then rejectSet s lGROT 0x01 0x11C
    else { s with grot := { s.grot with wday := fld value 2 0 } }))

/-- The backup SRAM of a first start: MAGIC words zero, every other byte undefined (R102). -/
def coldSram (n : Nat) : List Host.Cell :=
  (List.range 4096).foldl (fun m a =>
    mset m a (if a < 4 ∨ (0x40 ≤ a ∧ a < 0x44) then 0#8 else Config.freeByte (4096 * n + a))) []

/-- GROTTO_COLD_START (R102): with neither VIN nor VBAT present before. -/
def execGrottoColdStart (s : State) : Host.Outcome State Fault Refusal :=
  done (if s.pwr.phase = .off then
    { s with fresh := s.fresh + 1, act := s.act.filter (fun e => !grotRetained e.1),
             grot := { sram := coldSram s.fresh, preAt := s.now, wakeAt := s.now, preFree := !s.clk.xt32, wakeFree := !s.clk.xt32,
                       sysOk := false, calcOk := false } }
  else s)

/-- A periodic wake or calendar alarm (R103, R104): the source, the event to GAL, PWRON if asked, and the wake controller. -/
def grotWake (s : State) (src code : Nat) (pwr : Bool) : State :=
  let s := send (grotRaise s src) lGROT lGAL (.grotto false)
  let s := { s with grot := { s.grot with pwron := s.grot.pwron || pwr } }
  wake s (BitVec.ofNat 4 code)

/-- PERIODIC_WAKE (R103): the wake counter reaches its end and reloads. -/
def execPeriodicWake (s : State) : Host.Outcome State Fault Refusal :=
  done (if cfg s lGROT 0x120 25 0 = 0 then s else
    grotWake { s with grot := { s.grot with wakeAt := s.now, wakeFree := !s.clk.xt32 } } 0 3 (cfgBit s lGROT 0x120 31))

/-- CALENDAR_ALARM (R104): once per second tick that matches. -/
def execCalendarAlarm (s : State) : Host.Outcome State Fault Refusal :=
  done (if s.grot.almDue then
    grotWake { s with grot := { s.grot with almDue := false } } 1 4 (cfgBit s lGROT 0x130 8) else s)

/-- PWRON_OFF_REQ (R105). -/
def execPwronOffReq (ctx : Ctx) (value : Word) (s : State) : Host.Outcome State Fault Refusal :=
  done (ownerWrite s ctx lGROT 0x134 (fun s =>
    if bit value 1 then { s with grot := { s.grot with pwron := false } } else s))

/-- JRNL_ADDR after an access: WORD increments under AUTOINC, wrapping at 0xFFC (R108). -/
def jrnlNext (s : State) : State :=
  let a := reg s lGROT 0x138
  if bit a 31 then setReg s lGROT 0x138 (maskMerge 0xFFC#32 a (a + 4#32)) else s

/-- JRNL_DATA_READ (R108). -/
def execJrnlDataRead (ctx : Ctx) (s : State) : Host.Outcome State Fault Refusal :=
  done (readAccess s ctx lGROT 0x13C (fun s => jrnlNext (answer s (jget s (4 * cfg s lGROT 0x138 11 2) 4))))

/-- JRNL_DATA_WRITE (R108): FW_AREA alone; a write below 0x100 has no effect and is captured with code 0x8. -/
def execJrnlDataWrite (ctx : Ctx) (value : Word) (s : State) : Host.Outcome State Fault Refusal :=
  done (ownerWrite s ctx lGROT 0x13C (fun s =>
    let a := 4 * cfg s lGROT 0x138 11 2
    if a < 0x100 then capture s lGROT ctx true 0x8 0x13C else jrnlNext (jset s a 4 value.toNat)))

end Sys2Proof.Machine
end

