-- ==== Sys2Proof/Machine/Chambers.lean ====
section
/-! DEFINITION. The Chambers and the supply-sense converter (R109 to R150, R461 to R464, R500). -/
namespace Sys2Proof.Machine

/-- The three registers of an entry, the values in use. -/
def entSel (s : State) (n e : Nat) : Word := reg s (lCHMB n) (0x200 + 16 * e)
def entExc (s : State) (n e : Nat) : Word := reg s (lCHMB n) (0x204 + 16 * e)
def entTim (s : State) (n e : Nat) : Word := reg s (lCHMB n) (0x208 + 16 * e)

/-- Is the entry enabled in this mode (0 SCAN, 1 FEEDBACK, 2 ANGLE)? -/
def entMode (s : State) (n e m : Nat) : Bool := bit (entSel s n e) 0 && decide (fld (entSel s n e) 2 1 = m)

/-- Does a supply or coupler fault of a Chamber stand (R140)? -/
def chmFault (c : Chmb) : Bool := c.chvp || c.chvl || c.coupler

/-- Does the Chamber run entries: working, not in self-calibration, no supply or coupler fault, no standby (R133, R139, R140, R448)? -/
def chmRuns (s : State) (n : Nat) : Bool :=
  works s (lCHMB n) && !standby s && !(chm s n).calBusy && !chmFault (chm s n)

/-- Does the Chamber start entries and passes: as `chmRuns`, and no FREEZE is asked for, after which only the entry in progress goes on
(R139)? -/
def chmStarts (s : State) (n : Nat) : Bool := chmRuns s n && !(hdr s (lCHMB n)).freeze

/-- Is the scan back to back: SCAN_PERIOD is 0 and the module is not in Doze (R118, R119)? -/
def backToBack (s : State) (n : Nat) : Bool := decide (cfg s (lCHMB n) 0x100 19 0 = 0) && decide (s.pwr.pstate ≠ .doze)

/-- Bit `e` of a per-entry mask. -/
def mbit (m : BitVec 32) (e : Nat) : Bool := m.getLsbD e
def mput (m : BitVec 32) (e : Nat) (b : Bool) : BitVec 32 :=
  if b then m ||| BitVec.ofNat 32 (2 ^ e) else m &&& ~~~BitVec.ofNat 32 (2 ^ e)

/-- The entries of a new pass: every enabled SCAN entry in index order, then in every OC_EVERY-th pass those with OC_EN
(R118, R120). -/
def passEntries (s : State) (n passNo : Nat) : List (Nat × Bool) :=
  let scan := (List.range 32).filter (fun e => entMode s n e 0)
  let k := cfg s (lCHMB n) 0x104 7 0
  let oc := if k ≠ 0 && passNo % k = 0 then scan.filter (fun e => bit (entSel s n e) 29) else []
  scan.map (fun e => (e, false)) ++ oc.map (fun e => (e, true))

/-- A pass begins (R118); one with no entry ends at once. -/
def startPass (s : State) (n : Nat) : State :=
  let c := chm s n
  let l := passEntries s n (c.passNo + 1)
  if l.isEmpty then setChm s n { c with passOn := false, again := false }
  else setChm s n { c with passOn := true, again := false, passNo := c.passNo + 1, scan := l, passAt := s.now }

/-- A back-to-back scan that rests goes on (R118, R500): after an enabling, a set, a self-calibration, a freeze, a takeover, Doze. -/
def chmKick (s : State) (n : Nat) : State :=
  if backToBack s n && chmStarts s n && !(chm s n).passOn then startPass s n else s

/-- Doze ends: every back-to-back scan that rests goes on (R119). -/
def chmResume (s : State) : State := (List.range 8).foldl chmKick s

/-- A pass ends when its last entry has been converted: its duration is kept; a pass that a grid point waits for, or the next one
where SCAN_PERIOD is 0, follows at once (R118). -/
def endPassIf (s : State) (n : Nat) : State :=
  let c := chm s n
  let busy := (match c.cur with | some r => decide (r.src = .scan) | none => false) ||
              (match c.conv with | some r => decide (r.src = .scan) | none => false)
  if c.passOn && c.scan.isEmpty && !busy then
    let s := setChm s n { c with passOn := false, passUs := min ((s.now - c.passAt) / 1000) 0xFFFFF }
    if (c.again || backToBack s n) && chmStarts s n then startPass s n else s
  else s

/-- The window a strobe reserves, in 1/768 ns (a Chamber tick is 15,625/768 ns): from (SETTLE + 2) ticks before it to 24 ticks after
(R121). -/
def strobeWindow (at768 settle : Nat) : Int × Int :=
  ((at768 : Int) - 15625 * ((settle : Int) + 2), (at768 : Int) + 15625 * 24)

/-- Two windows overlap. -/
def overlap (a b : Int × Int) : Bool := decide (a.1 < b.2) && decide (b.1 < a.2)

/-- Strobes in the order of their instants, equal ones in slot order (R121). -/
def strobeBefore (a b : Strobe) : Bool :=
  let i (f : Strobe) := 2 * f.base + 5 * f.phase
  decide (i a < i b) || (decide (i a = i b) && decide (a.slot ≤ b.slot))
def strobeInsert (x : Strobe) : List Strobe → List Strobe
  | [] => [x]
  | y :: r => if strobeBefore x y then x :: y :: r else y :: strobeInsert x r
def strobeSort (l : List Strobe) : List Strobe := l.foldr strobeInsert []

/-- The window of a FEEDBACK strobe, its phase being in 2.5 ns ticks of the frame. -/
def fbWindow (s : State) (n : Nat) (f : Strobe) : Int × Int :=
  strobeWindow (768 * f.base + 1920 * f.phase) (fld (entTim s n f.ent) 15 0)

/-- A FEEDBACK strobe is answered NO_SAMPLE (R121): counted, latched, and sent to the loop engine. -/
def noSample (s : State) (n : Nat) (f : Strobe) : State :=
  let c := chm s n
  let s := setChm s n { c with entFlags := tset c.entFlags f.ent (tget c.entFlags f.ent 0 ||| 0x20) 0 }
  send (raise (countUp s (lCHMB n) 0x128 0 16) (lCHMB n) 2) (lCHMB n) lLOOP (.noSample f.slot)

/-- An angle strobe is lost (R121): ANG_GAP counts it. -/
def angleLost (s : State) (n : Nat) : State := raise (countUp s (lCHMB n) 0x12C 0 16) (lCHMB n) 3

/-- The enabled ANGLE entry; a set holds at most one (R114). -/
def angleEntry (s : State) (n : Nat) : Option Nat := (List.range 32).find? (fun e => entMode s n e 2)

/-- The window of an angle strobe. -/
def angWindow (s : State) (n : Nat) (a : AngStrobe) : Int × Int :=
  let settle := match angleEntry s n with | some e => fld (entTim s n e) 15 0 | none => 0
  strobeWindow (768 * a.time) settle

/-- The scheduled angle strobes are given up; the GAP one of them carried stays due. -/
def dropQueue (c : Chmb) : Chmb := { c with angQ := [], angGap := c.angGap || c.angQ.any (·.gap) }

/-- The interval from t0 to (SETTLE + 25) ticks after it, in 1/768 ns (R122). -/
def runWindow (t0 settle : Nat) : Int × Int := (768 * (t0 : Int), 768 * (t0 : Int) + 15625 * ((settle : Int) + 25))

/-- Does a SCAN entry that would start now meet a window that is reserved (R122)? -/
def scanWaits (s : State) (n e : Nat) : Bool :=
  let w := runWindow (time64 s).toNat (fld (entTim s n e) 15 0)
  (chm s n).fbList.any (fun f => overlap w (fbWindow s n f)) || (chm s n).angQ.any (fun a => overlap w (angWindow s n a))

/-- The fields whose change sets an entry's merge state to HG (R131): INP, INM, INTYPE, PAIR, TAP, CAL_SET. -/
def mergeMask : Word := 0x07374F70#32

/-- What a Chamber does when a set takes effect (R118, R126, R128, R131, R136, R138, R500). `old` is the state before. -/
def chmApplied (s old : State) (n : Nat) (keys : List Nat) : State :=
  let c := chm s n
  let u := lCHMB n
  let sel0 (e : Nat) := entSel old n e
  let enabledNow (e : Nat) := bit (entSel s n e) 0 && !bit (sel0 e) 0
  let c := (List.range 32).foldl (fun c e =>
    let c := if enabledNow e ∨ (entSel s n e &&& mergeMask) ≠ (sel0 e &&& mergeMask) then { c with mergeLg := mput c.mergeLg e false } else c
    let touched := keys.contains (rk u (0x200 + 16 * e)) || keys.contains (rk u (0x204 + 16 * e)) || keys.contains (rk u (0x208 + 16 * e))
    if enabledNow e ∨ touched then { c with swapNext := mput c.swapNext e false } else c) c
  let hpf := (List.range 32).filter (fun e => bit (entSel s n e) 0 && bit (entSel s n e) 12)
  let srcChanged (o : Nat) (e : Nat) := keys.contains (rk u o) &&
    ((cfgBit s u o 0 && decide (cfg s u o 6 4 = fld (entSel s n e) 6 4)) ||
     (cfgBit old u o 0 && decide (cfg old u o 6 4 = fld (entSel s n e) 6 4)))
  let c := if hpf.any (fun e => enabledNow e || !bit (sel0 e) 12 || srcChanged 0x108 e || srcChanged 0x10C e)
    then { c with servo := true } else c
  let c := match angleEntry s n with
    | none => dropQueue c
    | some e => if angleEntry old n = some e then c else { c with angFirst := true }
  chmKick (setChm s n c) n

/-- A pending set of a Chamber takes effect at its boundary (R142). -/
def chmBoundary (s : State) (n : Nat) : State :=
  let r := takeEffect s (lCHMB n)
  if (hdr s (lCHMB n)).pend.isSome then chmApplied r.1 s n r.2 else s

/-- Self-calibration starts: BUSY until it is done (R133). -/
def startSelfCal (s : State) (n : Nat) : State :=
  setChm s n { chm s n with calBusy := true, calDone := false, cur := none, conv := none }

/-- What enabling a Chamber does (R131, R133, R140, R142, R500): merge states HG, CAL_CTRL.DONE 0; the first time after a reset,
self-calibration, which a fault that stands puts off to its end. -/
def chmEnable (s : State) (n : Nat) : State :=
  let c := chm s n
  let s := setChm s n { c with mergeLg := 0#32, swapNext := 0#32, passOn := false, scan := [], calDone := false, angFirst := true }
  if c.calibrated then chmKick s n
  else if chmFault c then s else startSelfCal s n

/-- SCAN_GRID_POINT (R118, R119, R139, R500): starts the next pass, or counts an overrun while one runs. A back-to-back scan has no
grid. -/
def execScanGridPoint (chmb : BitVec 3) (s : State) : Host.Outcome State Fault Refusal :=
  let n := chmb.toNat
  done (if !chmStarts s n || backToBack s n then s
    else if (chm s n).passOn then
      raise (countUp (setChm s n { chm s n with again := true }) (lCHMB n) 0x120 0 16) (lCHMB n) 0
    else startPass s n)

/-- Does the injection of the TEST page name this entry (R461)? -/
def injects (s : State) (n e : Nat) : Bool :=
  s.test.inj && decide (cfg s lTEST 0x100 2 0 = n) && decide (cfg s lTEST 0x100 12 8 = e)

/-- The injection starts at the entry's next t0, its merge state set to HG (R461). -/
def injectStart (s : State) (n e : Nat) : State :=
  if injects s n e && !s.test.injOn then
    let c := chm s n
    setChm { s with test := { s.test with injOn := true } } n { c with mergeLg := mput c.mergeLg e false }
  else s

/-- The injection ends with an END code; the entry's merge state is HG again (R461). -/
def injectEnd (s : State) (code : BitVec 3) : State :=
  if s.test.inj then
    let n := cfg s lTEST 0x100 2 0
    let c := chm s n
    let s := setChm s n { c with mergeLg := mput c.mergeLg (cfg s lTEST 0x100 12 8) false }
    raise { s with test := { s.test with inj := false, injOn := false, injEnd := code } } lTEST 0
  else s

/-- A sample of the injected entry (R462, R463): kept on the TEST page. -/
def injectSample (s : State) (x : Sample) : State :=
  { s with test := { s.test with
      injCnt := min (s.test.injCnt + 1) 255, injValue := x.value,
      injFlags := b2n x.range + 2 * b2n x.hgClip + 4 * b2n x.lgClip + 8 * b2n (x.complA || x.complB) } }

/-- The entry starts at t0 with the settings in use; an ordinary conversion of a SWAP entry alternates (R115, R128). -/
def beginEntry (s : State) (n e : Nat) (src : EntrySrc) (slot : Nat) (oc : Bool) (a : AngStrobe) : State :=
  let s := injectStart s n e
  let c := chm s n
  let sel := entSel s n e
  let set := 0x180 + 16 * fld sel 18 16
  let sw := bit sel 28 && !oc && mbit c.swapNext e
  let c := if oc then c else { c with swapNext := mput c.swapNext e (!mbit c.swapNext e) }
  setChm s n { c with cur := some {
    ent := e, src := src, slot := slot, oc := oc, swapped := sw, sel := sel, exc := entExc s n e, tim := entTim s n e,
    angle := a.idx, decim := a.decim, gap := a.gap, t0 := (time64 s).toNat,
    gain := reg s (lCHMB n) (set + 4), ofs := reg s (lCHMB n) (set + 8) } }

/-- The next entry of the scan list starts, unless it meets a reserved window and waits (R118, R122); one that a set has disabled, and
the open-circuit conversion of an injected entry (R462), are passed by. -/
def scanStart (s : State) (n : Nat) : State :=
  let t := chmBoundary s n
  match (chm t n).scan with
  | [] => s
  | (e, oc) :: rest =>
    let u := setChm t n { chm t n with scan := rest }
    if !entMode t n e 0 || (oc && injects t n e) then endPassIf u n
    else if scanWaits t n e then s
    else beginEntry u n e .scan 0 oc ⟨0, 0, 0, 0, false, false⟩

/-- The next FEEDBACK strobe's entry starts; where a set has disabled it, the strobe is answered NO_SAMPLE (R121, R123). -/
def feedbackStart (s : State) (n : Nat) : State :=
  match (chm s n).fbList with
  | [] => s
  | f :: rest =>
    let s := chmBoundary s n
    let s := setChm s n { chm s n with fbList := rest }
    if entMode s n f.ent 1 then beginEntry s n f.ent .feedback f.slot false ⟨0, 0, 0, 0, false, false⟩ else noSample s n f

/-- The next angle strobe's entry starts (R135). -/
def angleStart (s : State) (n : Nat) : State :=
  match (chm s n).angQ with
  | [] => s
  | a :: rest =>
    let s := chmBoundary s n
    match angleEntry s n with
    | some e => beginEntry (setChm s n { chm s n with angQ := rest, angIdx := a.idx }) n e .angle 0 false a
    | none => s

/-- ENTRY_START (R114, R115, R122, R142): the Chamber's pending set takes effect, then the next entry of the scan list, the next
FEEDBACK strobe or the next angle strobe starts. -/
def execEntryStart (chmb : BitVec 3) (src : EntrySrc) (s : State) : Host.Outcome State Fault Refusal :=
  let n := chmb.toNat
  done (if !chmStarts s n || (chm s n).cur.isSome then s else
    match src with
    | .scan => scanStart s n
    | .feedback => feedbackStart s n
    | .angle => angleStart s n)

/-- SAMPLING_STROBE (R115, R116): both paths hold the input; the stamp is TIME64 of the strobe. -/
def execSamplingStrobe (chmb : BitVec 3) (s : State) : Host.Outcome State Fault Refusal :=
  let n := chmb.toNat
  let c := chm s n
  done (if !alive s (lCHMB n) then s else match c.cur, c.conv with
    | some r, none => setChm s n { c with cur := none, conv := some { r with stamp := time64 s } }
    | _, _ => s)

/-- A quotient rounded to the nearest integer, halves away from zero. -/
def roundHalfAway (num den : Int) : Int :=
  if 0 ≤ num then (2 * num + den) / (2 * den) else -((2 * (-num) + den) / (2 * den))

/-- A 20-bit code as an integer. -/
def code20 (c : BitVec 20) : Int := sext 20 c.toNat

/-- The switch levels of the merge (R130). -/
def mergeUp : Nat := 491520
def mergeDown : Nat := 458752

/-- The merge state after a conversion: true is LG (R130). -/
def mergeNext (lg : Bool) (hg : Int) (hgClip : Bool) : Bool :=
  if lg then !(!hgClip && decide (hg.natAbs < mergeDown)) else hgClip || decide (mergeUp ≤ hg.natAbs)

/-- The merged value taken from the LG path (R130). -/
def lgValue (lg : Int) (gain ofs : Word) : Int :=
  roundHalfAway (lg * (gain.toNat : Int) * 16 + sInt32 ofs * 16777216) 268435456

/-- HG_CLIP or LG_CLIP: the code is at its limit, or the path is overloaded (R117). -/
def clipped (code : BitVec 20) (overload : Bool) : Bool := overload || decide (code = 0x7FFFF#20) || decide (code = 0x80000#20)

/-- The current in steps of 10 µA that a source delivers to a pin by an entry's settings: `b` is source B; a conversion with exchange
takes the other's pin (R124, R128). -/
def entSource (r : EntRun) (b : Bool) : Nat × Nat :=
  let pin := if b != r.swapped then fld r.exc 19 16 else fld r.exc 3 0
  (pin, if b then fld r.exc 29 20 else fld r.exc 13 4)

/-- The pin and current of a static source (R126). -/
def staticSource (s : State) (n : Nat) (b : Bool) : Option (Nat × Nat) :=
  let o := if b then 0x10C else 0x108
  if cfgBit s (lCHMB n) o 0 then some (cfg s (lCHMB n) o 6 4, cfg s (lCHMB n) o 25 16) else none

/-- Does the Chamber watch a source's compliance in a conversion (R129): it is on for the entry, or static on the entry's INP? -/
def watched (s : State) (n : Nat) (r : EntRun) (b : Bool) : Bool :=
  match staticSource s n b with
  | some x => decide (x.1 = fld r.sel 6 4)
  | none => decide ((entSource r b).2 ≠ 0)

/-- The sample of a conversion and the Chamber's state after it (R117, R129, R130, R134). -/
def mergeSample (s : State) (n : Nat) (r : EntRun) (v : ConvResult) : Sample × Chmb :=
  let c := chm s n
  let e := r.ent
  let k := fld r.sel 18 16
  let pair3 := decide (fld r.sel 21 20 = 3)
  let hgClip := clipped v.hg v.hgClip
  let lg := !pair3 && mergeNext (mbit c.mergeLg e) (code20 v.hg) hgClip
  let value := if lg then lgValue (code20 v.lg) r.gain r.ofs else code20 v.hg
  let cnt := (tget c.convCnt e 0 + 1) % 0x1000000
  let angle := decide (r.src = .angle)
  let x : Sample := {
    ch := 32 * n + e, stamp := r.stamp, value := BitVec.ofInt 32 value, hg := v.hg, lg := v.lg, range := lg,
    hgClip := hgClip, lgClip := clipped v.lg v.lgClip, complA := v.complA && watched s n r false,
    complB := v.complB && watched s n r true,
    retLoss := v.retLoss && decide (fld r.tim 19 16 ≠ 8) && (decide ((entSource r false).2 ≠ 0) || decide ((entSource r true).2 ≠ 0)),
    mismatch := setMismatch s n k, swapped := r.swapped,
    servo := bit r.sel 12 && c.servo, oc := r.oc,
    src := (match r.src with | .scan => 0#2 | .feedback => 1#2 | .angle => 2#2),
    angle := if angle then BitVec.ofNat 12 r.angle else 0#12, decim := if angle then BitVec.ofNat 3 r.decim else 0#3,
    gap := r.gap, seq := BitVec.ofNat 16 cnt, intype := bit r.sel 14, tap := BitVec.ofNat 3 (fld r.sel 26 24),
    pair := BitVec.ofNat 2 (fld r.sel 21 20), gain := r.gain, ofs := r.ofs }
  let flags := 2 * b2n x.complA + 4 * b2n x.complB + 8 * b2n x.retLoss
  let c := { c with
    conv := none, convCnt := tset c.convCnt e cnt 0, entFlags := tset c.entFlags e flags 0,
    mergeLg := if r.oc then c.mergeLg else mput c.mergeLg e lg,
    track := if cfgBit s (lCHMB n) 0x104 8 && !hgClip && decide (0x40000 ≤ (code20 v.hg).natAbs)
      then tset c.track k (tget c.track k 0 + 1) 0 else c.track }
  (x, c)

/-- Does a FEEDBACK sample go to the loop engine: its channel is enabled, and SWAP_AVG does not keep it back (R151, R169)? -/
def loopGets (s : State) (x : Sample) : Bool :=
  let cf := rget s (wk lINTG 0x180 x.ch)
  bit cf 0 && (!bit cf 5 || x.swapped)

/-- CONVERSION_DONE (R115, R117, R130, R134): the merged sample leaves for the integrity unit, and for the loop engine where a
FEEDBACK strobe asked for it. -/
def execConversionDone (chmb : BitVec 3) (conv : ConvResult) (s : State) : Host.Outcome State Fault Refusal :=
  let n := chmb.toNat
  done (if !alive s (lCHMB n) then s else match (chm s n).conv with
    | none => s
    | some r =>
      let (x, c) := mergeSample s n r conv
      let injected := s.test.injOn && injects s n r.ent
      let s := setChm s n c
      let s := raiseIf (x.complA || x.complB) s (lCHMB n) 5
      let s := if injected then injectSample s x else s
      let s := if injected && !cfgBit s lTEST 0x100 20 then s else send s (lCHMB n) lINTG (.sample x)
      let s := if r.src = .feedback && loopGets s x then send s (lCHMB n) lLOOP (.feedback r.slot x) else s
      endPassIf s n)

/-- SCAN_ENTRY_SKIP (R122): the next entry has waited too long and is skipped for this pass. -/
def execScanEntrySkip (chmb : BitVec 3) (s : State) : Host.Outcome State Fault Refusal :=
  let n := chmb.toNat
  let c := chm s n
  done (if !chmStarts s n || c.cur.isSome then s else
    match c.scan with
    | [] => s
    | (e, _) :: rest =>
      let s := setChm s n { c with scan := rest, entFlags := tset c.entFlags e (tget c.entFlags e 0 ||| 0x10) 0 }
      endPassIf (raise (countUp s (lCHMB n) 0x124 0 16) (lCHMB n) 1) n)

/-- A sorted list, after strobes that are served already, split into the strobes served and those answered NO_SAMPLE: a bad entry, an
overlap with an earlier one served, or more than sixteen of one frame in phase order (R121, R123). -/
def serveStrobes (s : State) (n : Nat) (kept l : List Strobe) : List Strobe × List Strobe :=
  let (_, ok, bad) := l.foldl (fun (acc : List Strobe × List Strobe × List Strobe) f =>
    let (seen, ok, bad) := acc
    let clash := match ok.getLast? with | some g => overlap (fbWindow s n g) (fbWindow s n f) | none => false
    let full := decide (16 ≤ (seen.filter (fun g => decide (g.base = f.base))).length)
    if full || !entMode s n f.ent 1 || clash then (seen ++ [f], ok, bad ++ [f]) else (seen ++ [f], ok ++ [f], bad)) (kept, kept, [])
  (ok, bad)

/-- Strobes are added to a queue in their order: one that overlaps the strobe before it is lost. Answers the queue, how many were lost,
and whether the last one was (R121). -/
def addStrobes (s : State) (n : Nat) (q l : List AngStrobe) (gap : Bool) : List AngStrobe × Nat × Bool :=
  l.foldl (fun (acc : List AngStrobe × Nat × Bool) a =>
    let (q, lost, gap) := acc
    let clash := match q.getLast? with | some b => overlap (angWindow s n b) (angWindow s n a) | none => false
    if clash then (q, lost + 1, true) else (q ++ [{ a with gap := a.gap || gap }], lost, false)) (q, 0, gap)

/-- Drop the scheduled angle strobes that meet a FEEDBACK window (R121). -/
def dropAngle (s : State) (n : Nat) : State :=
  let c := chm s n
  let hit (a : AngStrobe) := c.fbList.any (fun f => overlap (fbWindow s n f) (angWindow s n a))
  let (q, lost, gap) := c.angQ.foldl (fun (acc : List AngStrobe × Nat × Bool) a =>
    let (q, lost, gap) := acc
    if hit a then (q, lost + 1, true) else (q ++ [{ a with gap := a.gap || gap }], lost, false)) ([], 0, false)
  (List.range lost).foldl (fun t _ => angleLost t n) (setChm s n { c with angQ := q, angGap := c.angGap || gap })

/-- FB_STROBE_LIST (R121, R123, R139, R140): the list of the next frame arrives and joins the strobes of this frame; strobes of frames
that are past, and every strobe of a Chamber that cannot run, are answered NO_SAMPLE. -/
def execFbStrobeList (chmb : BitVec 3) (s : State) : Host.Outcome State Fault Refusal :=
  let n := chmb.toNat
  let c := chm s n
  let l := strobeSort c.fbSent
  let past (f : Strobe) : Bool := decide (f.base + 20000 ≤ s.loopFrameTime)
  done (if !unitOn s (lCHMB n) then s
    else if !chmStarts s n then l.foldl (fun t f => noSample t n f) (setChm s n { c with fbSent := [] })
    else
      let s := (c.fbList.filter past).foldl (fun t f => noSample t n f) (setChm s n { c with fbSent := [] })
      let (ok, bad) := serveStrobes s n (c.fbList.filter (fun f => !past f)) l
      dropAngle (bad.foldl (fun t f => noSample t n f) (setChm s n { chm s n with fbList := ok })) n)

/-- The decimation exponent: the smallest that keeps SPT / Δ at or below 150,000 strobes a second (R137). -/
def decimFor (spt delta : Nat) : Nat :=
  ((List.range 8).find? (fun d => decide (spt * 1000000000 ≤ 150000 * delta * 2 ^ d))).getD 7

/-- The strobes of the next tooth interval (R135, R137). -/
def toothStrobes (s : State) (n e1 delta tooth : Nat) : List AngStrobe :=
  let spt := cfg s (lCHMB n) 0x114 12 0
  let teeth := cfg s (lCHMB n) 0x110 26 16
  let d := decimFor spt delta
  ((List.range spt).filter (fun j => decide (j % 2 ^ d = 0))).map (fun j =>
    { time := e1 + delta + j * delta / spt, idx := (tooth * spt + j) % (teeth * spt), decim := d, place := j, next := true })

/-- Does a strobe fall inside a window that is already running, or has its own window begun (R136)? -/
def inRunning (s : State) (n : Nat) (a : AngStrobe) : Bool :=
  let c := chm s n
  let now : Int := 768 * (time64 s).toNat
  let w := angWindow s n a
  let busy (r : Option EntRun) : Bool := match r with | some r => overlap (runWindow r.t0 (fld r.tim 15 0)) w | none => false
  decide (w.1 < now) || busy c.cur || busy c.conv ||
  c.fbList.any (fun f => decide ((fbWindow s n f).1 ≤ now) && overlap (fbWindow s n f) w)

/-- The strobes of the next tooth interval join the queue (R121, R135 to R137): the first ones after lock or after the entry was enabled
wait for a window that runs to end. -/
def scheduleTooth (s : State) (n e1 delta tooth : Nat) : State :=
  let c := chm s n
  let l := toothStrobes s n e1 delta tooth
  let l := if c.angFirst then l.dropWhile (inRunning s n) else l
  let (q, lost, gap) := addStrobes s n (c.angQ.map (fun a => { a with next := false })) l c.angGap
  let s := setChm s n { c with angQ := q, angGap := gap, angFirst := c.angFirst && l.isEmpty }
  dropAngle ((List.range lost).foldl (fun t _ => angleLost t n) s) n

/-- The lock is lost (R136): scheduling stops, ANG_LOST stands, and the first sample after relock carries GAP. -/
def lockLost (s : State) (n : Nat) : State :=
  setChm s n { dropQueue (chm s n) with
    angLocked := false, angLost := true, angGap := true, angEdges := 0, angLast := none, angDecim := 0 }

/-- A tooth edge comes too late: more than TMO_MUL × Δ after the last one (R136). -/
def edgeLate (s : State) (n : Nat) (stamp : DWord) : Bool :=
  let c := chm s n
  match c.angLast with
  | some t => decide (2 ≤ c.angEdges) && decide (cfg s (lCHMB n) 0x114 23 16 * c.angDelta < stamp.toNat - t.toNat)
  | none => false

/-- A tooth edge (R135, R136, R137); one that comes too late has lost the lock, and is the first of three again. -/
def toothEdge (s : State) (n : Nat) (stamp : DWord) : State :=
  let s := if !edgeLate s n stamp then s else if (chm s n).angLocked then lockLost s n
    else setChm s n { chm s n with angEdges := 0, angLast := none }
  let c := chm s n
  let teeth := cfg s (lCHMB n) 0x110 26 16
  let gap := match c.angLast with | some t => stamp.toNat - t.toNat | none => 0
  let edges := if c.angLast.isNone then 1 else min (c.angEdges + 1) 3
  let locking := decide (edges = 3) && !c.angLocked
  let tooth := if c.angRef then 0 else if locking && decide (8 ≤ cfg s (lCHMB n) 0x110 7 4) then teeth - 1 else (c.angTooth + 1) % teeth
  let c := { c with angLast := some stamp, angDelta := gap, angEdges := edges, angTooth := tooth, angRef := false,
                    angLocked := c.angLocked || locking, angLost := c.angLost && !locking, angFirst := c.angFirst || locking }
  if c.angLocked && decide (0 < gap) then
    let s := setChm s n { c with angDecim := decimFor (cfg s (lCHMB n) 0x114 12 0) gap }
    if (angleEntry s n).isSome then scheduleTooth s n stamp.toNat gap ((tooth + 1) % teeth) else s
  else setChm s n c

/-- A reference edge (R135): the next tooth edge is tooth 0, and the strobes scheduled for its interval take their place in it. -/
def refEdge (s : State) (n : Nat) : State :=
  let c := chm s n
  setChm s n { c with angRef := true, angQ := c.angQ.map (fun a => if a.next then { a with idx := a.place } else a) }

/-- TACHO_EDGE (R135 to R137): an edge of the counter path of DI_`di`: a tooth edge on TACHO_DI, a reference edge on REF_DI. One input
that is both brings the tooth edge first (DESIGN CHOICE, log entry 74). -/
def execTachoEdge (chmb di : BitVec 3) (stamp : DWord) (s : State) : Host.Outcome State Fault Refusal :=
  let n := chmb.toNat
  let is (hi lo : Nat) : Bool := decide (cfg s (lCHMB n) 0x110 hi lo = di.toNat)
  done (if !chmStarts s n then s else
    let s := if is 2 0 then toothEdge s n stamp else s
    if is 7 4 then refEdge s n else s)

/-- ANGLE_LOCK_LOST (R136): no tooth edge within TMO_MUL × Δ. -/
def execAngleLockLost (chmb : BitVec 3) (s : State) : Host.Outcome State Fault Refusal :=
  let n := chmb.toNat
  done (if chmStarts s n && (chm s n).angLocked then lockLost s n else s)

/-- CAL_RUN (R133): a write of CAL_CTRL.RUN, accepted only while frozen. -/
def execCalRun (ctx : Ctx) (chmb : BitVec 3) (s : State) : Host.Outcome State Fault Refusal :=
  let n := chmb.toNat
  done (ownerWrite s ctx (lCHMB n) 0x118 (fun s =>
    if (hdr s (lCHMB n)).frozen then startSelfCal s n else capture s (lCHMB n) ctx true 0x8 0x118))

/-- The nominal LG/HG ratio of a range pair (R111). -/
def pairRatio (p : Nat) : Nat := match p with | 0 => 4 | 1 => 16 | 2 => 4 | _ => 1

/-- Does the fit of a set fail: its ratio outside ±1 % of nominal, or a residual above 0.5 HG LSB (R133)? -/
def calFails (s : State) (n : Nat) (r : CalResult) : Bool :=
  let nom := pairRatio (cfg s (lCHMB n) (0x180 + 16 * r.set.toNat) 1 0) * 16777216
  let d := ((r.gain.toNat : Int) - (nom : Int)).natAbs
  decide (nom < 100 * d) || decide (8 < (sext 16 r.misP.toNat).natAbs) || decide (8 < (sext 16 r.misN.toNat).natAbs)

/-- The values of a calibration set. -/
def putCal (s : State) (n : Nat) (r : CalResult) : State :=
  let b := 0x180 + 16 * r.set.toNat
  setReg (setReg (setReg s (lCHMB n) (b + 4) r.gain) (lCHMB n) (b + 8) r.ofs) (lCHMB n) (b + 12)
    (BitVec.ofNat 32 (r.misP.toNat + 0x10000 * r.misN.toNat))

/-- CHMB_SELF_CAL_DONE (R133, R500): the fitted sets are kept, failing ones reported, and with SCAN_PERIOD = 0 the first pass starts. -/
def execChmbSelfCalDone (chmb : BitVec 3) (results : List CalResult) (s : State) : Host.Outcome State Fault Refusal :=
  let n := chmb.toNat
  done (if (chm s n).calBusy then
    let fails := results.foldl (fun (b : Byte) r => if calFails s n r then b ||| BitVec.ofNat 8 (2 ^ r.set.toNat) else b) 0#8
    let s := results.foldl (fun t r => putCal t n r) s
    let s := setChm s n { chm s n with calBusy := false, calibrated := true, calDone := true, calFail := fails }
    let s := raise s (lCHMB n) 6
    chmKick s n
  else s)

/-- A tracker move keeps within 1/16 HG LSB at both switch points (R134). -/
def trackSmall (s : State) (n : Nat) (r : CalResult) : Bool :=
  let b := 0x180 + 16 * r.set.toNat
  let ratio := pairRatio (cfg s (lCHMB n) b 1 0)
  let dg : Int := (r.gain.toNat : Int) - ((reg s (lCHMB n) (b + 4)).toNat : Int)
  let d : Int := sInt32 r.ofs - sInt32 (reg s (lCHMB n) (b + 8))
  let lg : Int := (mergeUp / ratio : Nat)
  decide ((lg * dg * 16 + d * 16777216).natAbs ≤ 16777216) && decide ((-lg * dg * 16 + d * 16777216).natAbs ≤ 16777216)

/-- CAL_TRACK_UPDATE (R134): after every 4,096 counted conversions of a set. -/
def execCalTrackUpdate (chmb : BitVec 3) (result : CalResult) (s : State) : Host.Outcome State Fault Refusal :=
  let n := chmb.toNat
  let c := chm s n
  let k := result.set.toNat
  done (if cfgBit s (lCHMB n) 0x104 8 && decide (4096 ≤ tget c.track k 0) && trackSmall s n result then
    putCal (setChm s n { c with track := tset c.track k (tget c.track k 0 - 4096) 0 }) n result else s)

/-- SERVO_SETTLED (R138): 2 s after the entry was enabled or a static source changed. -/
def execServoSettled (chmb : BitVec 3) (s : State) : Host.Outcome State Fault Refusal :=
  done (setChm s chmb.toNat { chm s chmb.toNat with servo := false })

/-- The Chamber's work ends where it stands: entries, pass, strobes and angle tracking; every FEEDBACK strobe is answered NO_SAMPLE. -/
def chmHalt (s : State) (n : Nat) : State :=
  let lost (r : Option EntRun) (t : State) : State := match r with
    | some r => if r.src = .feedback then noSample t n { slot := r.slot, ent := r.ent, phase := 0 } else t
    | none => t
  let c := chm s n
  let s := c.fbList.foldl (fun t f => noSample t n f) (lost c.cur (lost c.conv s))
  setChm s n { dropQueue (chm s n) with
    cur := none, conv := none, fbList := [], angLocked := false, angEdges := 0, angLast := none, scan := [], passOn := false, again := false }

/-- The domain of a Chamber is off: nothing of its work is left (R23, R141). -/
def chmDark (s : State) : State :=
  let dark (e : Nat × Chmb) : Nat × Chmb := if unitOn s (lCHMB e.1) then e else (e.1, { dropQueue e.2 with
    cur := none, conv := none, fbSent := [], fbList := [], angLocked := false, angEdges := 0, angLast := none, scan := [], passOn := false,
    again := false, calBusy := false })
  { s with chmb := s.chmb.map dark }

/-- CHMB_SUPPLY_FAULT (R140, R461): CHVP (0), CHVL (1) or the coupler (2); no sample is delivered and every source is off. -/
def execChmbSupplyFault (chmb : BitVec 3) (which : Fin 3) (s : State) : Host.Outcome State Fault Refusal :=
  let n := chmb.toNat
  done (if unitOn s (lCHMB n) then
    let s := chmHalt s n
    let s := if injects s n (cfg s lTEST 0x100 12 8) then injectEnd s 3#3 else s
    let c := chm s n
    setChm s n { c with
      chvp := c.chvp || decide (which.val = 0), chvl := c.chvl || decide (which.val = 1), coupler := c.coupler || decide (which.val = 2),
      calBusy := false }
  else s)

/-- CHMB_FAULT_CLEAR (R140): when no condition is left the Chamber calibrates itself and restarts. -/
def execChmbFaultClear (chmb : BitVec 3) (which : Fin 3) (s : State) : Host.Outcome State Fault Refusal :=
  let n := chmb.toNat
  let c := chm s n
  let c' := { c with chvp := c.chvp && decide (which.val ≠ 0), chvl := c.chvl && decide (which.val ≠ 1),
                     coupler := c.coupler && decide (which.val ≠ 2) }
  let s := setChm s n c'
  done (if chmFault c && !chmFault c' && alive s (lCHMB n) then startSelfCal s n else s)

/-- What source A, or with `b` source B, drives now: a pin and its current in steps of 10 µA (R124 to R126, R139, R140): a static source
all the time, the other by the entry from t0 to the strobe; none while a fault stands, the Chamber calibrates itself or the module is the
standby (R448). -/
def sourceNow (s : State) (n : Nat) (b : Bool) : Option (Nat × Nat) :=
  let c := chm s n
  if !alive s (lCHMB n) || standby s || chmFault c || c.calBusy then none
  else match staticSource s n b, c.cur with
    | some x, _ => some x
    | none, some r => if decide ((entSource r b).2 ≠ 0) then some (entSource r b) else none
    | none, none => none

/-- The excitation current that a pin of a Chamber carries; both sources on one pin add (R124). -/
def pinCurrent (s : State) (n pin : Nat) : Nat :=
  let of (b : Bool) : Nat := match sourceNow s n b with | some x => if x.1 = pin then x.2 else 0 | none => 0
  of false + of true

/-- Is the pin the return of the running entry (R127), and does it carry the open-circuit test current (R120)? -/
def pinReturn (s : State) (n pin : Nat) : Bool :=
  match (chm s n).cur with | some r => decide (fld r.tim 19 16 = pin) | none => false
def pinTested (s : State) (n pin : Nat) : Bool :=
  match (chm s n).cur with | some r => r.oc && decide (fld r.sel 6 4 = pin) | none => false

/-- Send a supply-sense quantity to the integrity unit (R148); a standby's samples go only to its self-tests (R448). -/
def ssnsSend (s : State) (q : Nat) (v : F32) (stamp : DWord) : State := if standby s then s else send s lSSNS lINTG (.ssns (256 + q) v stamp)

/-- A pending SSNS set takes effect; one that changes NOM_FREQ, NOM_VOLT or DIV_RATIO discards the running window (R149). -/
def ssnsBoundary (s : State) : State :=
  let r := takeEffect s lSSNS
  if r.2.contains (rk lSSNS 0x100) || r.2.contains (rk lSSNS 0x104) then { r.1 with ssns := { r.1.ssns with win := {} } } else r.1

/-- The measurement goes on after a freeze: what it cut begins anew (R149; log entry 75). -/
def ssnsUnfreeze (s : State) : State := { s with ssns := { s.ssns with win := {}, halfA := {}, halfB := {}, halfC := {}, boRun := none } }

/-- A sample joins the sums (R145). -/
def sumSample (m : SsnsSums) (a b c vn : Int) : SsnsSums :=
  let sq (x : Int) : Nat := x.natAbs * x.natAbs
  { n := m.n + 1, a := m.a + sq a, b := m.b + sq b, c := m.c + sq c, vn := m.vn + sq vn,
    ab := m.ab + sq (a - b), bc := m.bc + sq (b - c), ca := m.ca + sq (c - a) }

/-- A sample of a phase joins the sum of its half cycle (R145). -/
def halfSample (m : SsnsHalf) (x : Int) : SsnsHalf := { n := m.n + 1, sum := m.sum + x.natAbs * x.natAbs }

/-- The RMS of `n` samples in bus volts, the nearest binary32 number (R145): a code step is 5 V / 2^19 at the land, and DIV_RATIO counts
in tenths. -/
def rmsVolts (s : State) (sum n : Nat) : F32 :=
  let d := cfg s lSSNS 0x104 15 0
  f32Sqrt (sum * d * d) (max n 1 * 2 ^ 40) 0

/-- Is the RMS of `n` samples below `pct` percent of NOM_VOLT, which counts in tenths of a volt (R145)? `above` asks the other side. -/
def rmsBelow (s : State) (sum n pct : Nat) : Bool :=
  let d := cfg s lSSNS 0x104 15 0
  let v := pct * cfg s lSSNS 0x100 31 16
  decide (sum * d * d * 1000000 < v * v * n * 2 ^ 40)
def rmsAbove (s : State) (sum n pct : Nat) : Bool :=
  let d := cfg s lSSNS 0x104 15 0
  let v := pct * cfg s lSSNS 0x100 31 16
  decide (v * v * n * 2 ^ 40 < sum * d * d * 1000000)

/-- The THD of a phase: the root sum square of its harmonics (R145); a harmonic that is no finite number gives none. -/
def thdOf (harm : List F32) : F32 :=
  if harm.all f32Finite then f32Sqrt (harm.foldl (fun t h => t + (f32Int h).natAbs * (f32Int h).natAbs) 0) 1 149 else f32NaN

/-- Does a sample exceed BO_THR percent of the nominal line-to-neutral peak in magnitude (R146)? Both sides squared, in units of
the converter's code. -/
def exceedsBo (s : State) (c : BitVec 20) : Bool :=
  let v := (code20 c).natAbs * 5 * cfg s lSSNS 0x104 15 0
  let lim := cfg s lSSNS 0x108 23 16 * cfg s lSSNS 0x100 31 16
  decide (2 * (lim * 524288) * (lim * 524288) < (100 * v) * (100 * v))

/-- SSNS_SAMPLE (R144 to R146, R149): a sample instant; the pending set takes effect, the sample joins the sums, and the blackout run
starts or ends. -/
def execSsnsSample (va vb vc vn : BitVec 20) (s : State) : Host.Outcome State Fault Refusal :=
  done (if works s lSSNS then
    let s := ssnsBoundary s
    let strong := exceedsBo s va || exceedsBo s vb || exceedsBo s vc
    { s with ssns := { s.ssns with
        win := sumSample s.ssns.win (code20 va) (code20 vb) (code20 vc) (code20 vn),
        halfA := halfSample s.ssns.halfA (code20 va), halfB := halfSample s.ssns.halfB (code20 vb),
        halfC := halfSample s.ssns.halfC (code20 vc), last := time64 s,
        boRun := if strong then none else some (s.ssns.boRun.getD (time64 s)) } }
  else s)

/-- Put consecutive result words. -/
def putWords (s : State) (u o : Nat) (l : List Word) : State := (l.zipIdx).foldl (fun t e => setReg t u (o + 4 * e.2) e.1) s

/-- The results of a window (R145): VRMS of A, B, C and N, VLL of AB, BC and CA, and the three THD. -/
def windowVolts (s : State) : List F32 :=
  let m := s.ssns.win
  [m.a, m.b, m.c, m.vn, m.ab, m.bc, m.ca].map (fun x => rmsVolts s x m.n)
def windowThd (w : SsnsWindow) : List F32 := (List.range 3).map (fun p => thdOf ((w.harm.drop (49 * p)).take 49))

/-- SSNS_WINDOW_END (R145, R148, R149): the window's results replace the page's as one, and go to channels 256 to 266 with the stamp of
its last sample. A window with no sample, which a set or a freeze has just cut, gives no result. -/
def execSsnsWindowEnd (w : SsnsWindow) (s : State) : Host.Outcome State Fault Refusal :=
  if decide (w.harm.length = 147) then
    done (if works s lSSNS && decide (s.ssns.win.n ≠ 0) then
      let volts := windowVolts s
      let thd := windowThd w
      let stamp := s.ssns.last
      let s := putWords (putWords (putWords s lSSNS 0x120 volts) lSSNS 0x140 thd) lSSNS 0x200 w.harm
      let s := setReg s lSSNS 0x154 (reg s lSSNS 0x154 + 1#32)
      let s := raise { s with ssns := { s.ssns with rotErr := w.rotErr, win := {}, windowed := true } } lSSNS 5
      let s := (volts.zipIdx).foldl (fun t e => ssnsSend t e.2 e.1 stamp) s
      (thd.zipIdx).foldl (fun t e => ssnsSend t (8 + e.2) e.1 stamp) s
    else s)
  else .fault .illFormed

/-- Is a frequency valid: a phase is present, and it lies from 40 Hz to 70 Hz (R145)? -/
def freqOk (mHz : BitVec 20) (phase : Bool) : Bool := phase && decide (40000 ≤ mHz.toNat) && decide (mHz.toNat ≤ 70000)

/-- SSNS_CYCLE_END (R145, R148, R150): the frequency of a cycle in mHz, delivered while valid; FREQ shows the last valid one, once a
window has completed. -/
def execSsnsCycleEnd (mHz : BitVec 20) (phase : Bool) (s : State) : Host.Outcome State Fault Refusal :=
  done (if works s lSSNS then
    let hz := f32RoundRat mHz.toNat 1000 0 64 false
    let ok := freqOk mHz phase
    let s := { s with ssns := { s.ssns with freqValid := ok } }
    let s := if ok && s.ssns.windowed then setReg s lSSNS 0x13C hz else s
    if ok then ssnsSend s 7 hz (time64 s) else s
  else s)

/-- Is a half-cycle RMS below SAG_THR, and is it above SWELL_THR, both in percent of NOM_VOLT (R145)? -/
def halfLow (s : State) (m : SsnsHalf) : Bool := rmsBelow s m.sum m.n (cfg s lSSNS 0x108 7 0)
def halfHigh (s : State) (m : SsnsHalf) : Bool := rmsAbove s m.sum m.n (cfg s lSSNS 0x108 15 8)

/-- The new value of a bit per phase: a phase whose half cycle ends takes the new one. -/
def phaseBits (old ends new : BitVec 3) : BitVec 3 := (old &&& ~~~ends) ||| (new &&& ends)

/-- Three bits, phase A lowest. -/
def abc (a b c : Bool) : BitVec 3 := BitVec.ofNat 3 (b2n a + 2 * b2n b + 4 * b2n c)

/-- SSNS_HALF_CYCLE (R145, R148): the half-cycle RMS of the phases whose half cycle ends, against SAG_THR and SWELL_THR. -/
def execSsnsHalfCycle (a b c : Bool) (s : State) : Host.Outcome State Fault Refusal :=
  let old := s.ssns
  let a := a && decide (old.halfA.n ≠ 0)
  let b := b && decide (old.halfB.n ≠ 0)
  let c := c && decide (old.halfC.n ≠ 0)
  done (if works s lSSNS && (a || b || c) then
    let ends := abc a b c
    let low := abc (halfLow s old.halfA) (halfLow s old.halfB) (halfLow s old.halfC)
    let high := abc (halfHigh s old.halfA) (halfHigh s old.halfB) (halfHigh s old.halfC)
    let sag := phaseBits old.sag ends low
    let sw := phaseBits old.swell ends high
    let s := { s with ssns := { old with
      sag := sag, swell := sw, above := phaseBits old.above ends (~~~low),
      halfA := if a then {} else old.halfA, halfB := if b then {} else old.halfB, halfC := if c then {} else old.halfC } }
    let s := raiseIf (decide (sag &&& ~~~old.sag ≠ 0#3)) s lSSNS 2
    let s := raiseIf (decide (sw &&& ~~~old.swell ≠ 0#3)) s lSSNS 3
    let s := if decide (old.sag = 0#3) = decide (sag = 0#3) then s else ssnsSend s 12 (f32Bool (decide (sag ≠ 0#3))) (time64 s)
    if decide (old.swell = 0#3) = decide (sw = 0#3) then s else ssnsSend s 13 (f32Bool (decide (sw ≠ 0#3))) (time64 s)
  else s)

/-- BLACKOUT_ON (R146): BO_TIME has passed in a run with no phase above BO_THR; the sample carries the stamp of the run's start. -/
def execBlackoutOn (s : State) : Host.Outcome State Fault Refusal :=
  done (match s.ssns.boRun with
    | some t =>
      if works s lSSNS && !s.ssns.blackout then
        let s := setReg64 { s with ssns := { s.ssns with blackout := true, above := 0#3 } } lSSNS 0x158 t
        ssnsSend (raise s lSSNS 0) 11 f32One t
      else s
    | none => s)

/-- BLACKOUT_OFF (R146): every phase at or above SAG_THR for BO_CLR. -/
def execBlackoutOff (s : State) : Host.Outcome State Fault Refusal :=
  done (if works s lSSNS && s.ssns.blackout && decide (s.ssns.above = 7#3) then
    ssnsSend (raise { s with ssns := { s.ssns with blackout := false } } lSSNS 1) 11 f32Zero (time64 s) else s)

end Sys2Proof.Machine
end

