-- ==== Sys2Proof/Machine/Integrity.lean ====
section
/-! DEFINITION. The integrity unit: calibration, linearisation, checks, confirmation, filters and delivery (R151 to R182). -/
namespace Sys2Proof.Machine

/-- A channel's record. -/
def chan (s : State) (c : Nat) : Chan := tget s.intg.chan c {}
def setChan (s : State) (c : Nat) (v : Chan) : State := { s with intg := { s.intg with chan := tset s.intg.chan c v {} } }

/-- A channel register of the CH_* window, the value in use. -/
def chReg (s : State) (o c : Nat) : Word := rget s (wk lINTG o c)

/-- A word of the linearisation store of a channel, the value in use (LIN_ADDR.WORD). -/
def linWord (s : State) (c w : Nat) : Word := rget s (wk lINTG 0x10C (256 * c + w))

/-- Nominal LSB_TRIM: HG full scale / 2^19, by TRIM_SEL.IDX (R111, R113); what an OTP that holds no trim reads as (log entry 12). -/
def trimNominal (idx : Nat) : F32 :=
  let ua (fs10nA : Nat) : F32 := f32RoundRat (fs10nA : Nat) (100000000 * 524288) 0 128 false
  match idx with
  | 0 => f32RoundRat 5 (2 * 524288) 0 128 false
  | 1 => 0x34A00000#32
  | 2 => 0x33A00000#32
  | 3 => f32RoundRat 10 524288 0 128 false
  | 4 => ua 2500000 | 5 => ua 250000 | 6 => ua 25000 | 7 => ua 2500 | 8 => ua 250 | 9 => ua 25
  | 10 => ua 3000000 | 11 => ua 1000000 | 12 => ua 100000 | 13 => ua 10000 | 14 => ua 1000 | _ => ua 100

/-- LSB_TRIM of a Chamber and trim index, from OTP (R168). -/
def lsbTrim (s : State) (chmb idx : Nat) : F32 := s.otp.lsbTrim.getD (16 * chmb + idx) (trimNominal idx)

/-- The trim index of a sample (TRIM_SEL.IDX). -/
def trimIndex (x : Sample) : Nat :=
  if x.intype then (if x.pair = 3#2 then 10 else 4) + x.tap.toNat else x.pair.toNat

/-- Has a linked channel a valid confirmed value (R170)? 511 names none. -/
def linkOk (s : State) (c : Nat) : Bool := decide (c = 511) || (chan s c).valid

/-- The ratio and compensation values of R168, R170 and R171. -/
def ratioRef (s : State) (c : Nat) : F32 := ((chan s c).lastCal).getD f32One
def compValue (s : State) (c : Nat) : F32 := if c = 511 then f32Zero else ((chan s c).lastLin).getD f32Zero

/-- Stage 2: trim and calibration (R168). -/
def stage2 (s : State) (c : Nat) (raw trim : F32) : F32 :=
  f32Fma (f32Mul raw trim) (chReg s 0x184 c) (chReg s 0x188 c)

/-- Word of segment `g` of a channel. -/
def segW (s : State) (c g w : Nat) : Word := linWord s c (36 * g + w)
def segEn (s : State) (c g : Nat) : Bool := bit (segW s c g 3) 8

/-- The enabled segments of a channel, from segment 0 without a gap (R171). -/
def segs (s : State) (c : Nat) : List Nat := (List.range 4).takeWhile (fun g => segEn s c g)

/-- The segment for a calibrated value, and whether the value lies outside every enabled segment (R172). -/
def pickSeg (s : State) (c : Nat) (x : F32) (l : List Nat) : Nat × Bool :=
  match l.find? (fun g => f32Le (segW s c g 0) x && f32Lt x (segW s c g 1)) with
  | some g => (g, false)
  | none =>
    let last := l.getLastD 0
    let near := l.foldl (fun acc g =>
      if f32Le (segW s c g 1) x && decide (g ≠ last) then
        (if f32Key x - f32Key (segW s c g 1) ≤ f32Key (segW s c (g + 1) 0) - f32Key x then acc else g + 1)
      else if f32Le (segW s c g 1) x then g else acc) (l.headD 0)
    (near, true)

/-- Horner's rule over the coefficients c[j][NX] down to c[j][0] (R172). -/
def hornerX (s : State) (c g j : Nat) (u : F32) : Nat → F32 → F32
  | 0, p => p
  | i + 1, p => hornerX s c g j u i (f32Fma p u (segW s c g (4 + 8 * j + i)))

/-- The polynomial in t over rows j = NT down to 0 (R172). -/
def hornerT (s : State) (c g nx : Nat) (u t : F32) : Nat → F32 → F32
  | 0, y => y
  | j + 1, y => hornerT s c g nx u t j (f32Fma y t (hornerX s c g j u nx (segW s c g (4 + 8 * j + nx))))

/-- Stage 4 (R171, R172): the linearised value, and LINR. A NaN chooses no segment. -/
def linearise (s : State) (c : Nat) (x t : F32) : F32 × Bool :=
  let l := segs s c
  if f32IsNaN x then (f32NaN, false)
  else if l.isEmpty then (x, false)
  else
    let (g, out) := pickSeg s c x l
    let u := f32Sub x (segW s c g 2)
    let nx := fld (segW s c g 3) 2 0
    let nt := fld (segW s c g 3) 5 4
    (hornerT s c g nx u t nt (hornerX s c g nt u nx (segW s c g (4 + 8 * nt + nx))), out)

/-- Is a quality valid (R162)? -/
def qualValid (q : Nat) : Bool := decide (q ≤ 1)

/-- Did a stage produce a result that is not finite (R162, code MATH): the calibrated or the linearised value? -/
def mathFails (cal lin : F32) : Bool := !f32Finite cal || !f32Finite lin

/-- The highest of the quality conditions known at stage 5 (R159, R162). -/
def stage5Qual (s : State) (c : Nat) (x : Sample) (cal lin : F32) (linr : Bool) : Nat :=
  let link := chReg s 0x18C c
  let lo := chReg s 0x198 c
  let hi := chReg s 0x19C c
  let plaus := !(f32IsZero lo && f32IsZero hi) && (f32Lt lin lo || f32Lt hi lin)
  [(x.mismatch, 1), (plaus, 2), (linr, 3), (!linkOk s (fld link 8 0) || !linkOk s (fld link 24 16), 4), (x.servo, 5),
   (x.lgClip || (x.hgClip && decide (x.pair = 3#2)), 6), (mathFails cal lin, 9)].foldl (fun q e => if e.1 then max q e.2 else q) 0

/-- The quality known at stage 4 (R162, R177): sample tags, linearisation range, links, finite result. -/
def stage4Qual (s : State) (c : Nat) (x : Sample) (cal lin : F32) (linr : Bool) : Nat :=
  let link := chReg s 0x18C c
  [(x.mismatch, 1), (linr, 3), (!linkOk s (fld link 8 0) || !linkOk s (fld link 24 16), 4), (x.servo, 5),
   (x.lgClip || (x.hgClip && decide (x.pair = 3#2)), 6), (mathFails cal lin, 9)].foldl (fun q e => if e.1 then max q e.2 else q) 0

/-- The value a quality shows: the computed value, or the last valid confirmed value, or 0.0 (R162). -/
def shown (ch : Chan) (q : Nat) (v : F32) : F32 := if q < 8 then v else ch.lastValid.getD f32Zero

/-- The dual-path agreement of a sample (R166). -/
def agreeFails (s : State) (c : Nat) (x : Sample) : Bool :=
  let lgv := if x.pair = 3#2 then code20 x.lg else lgValue (code20 x.lg) x.gain x.ofs
  !x.hgClip && decide (fld (chReg s 0x1A0 c) 15 8 * pairRatio x.pair.toNat < (lgv - code20 x.hg).natAbs)

/-- Do two stamps lie within XSKEW microseconds (R167)? -/
def withinSkew (a b : DWord) (us : Nat) : Bool := decide (((a.toNat : Int) - (b.toNat : Int)).natAbs ≤ 1000 * us)

/-- The cross-check of two linearised values (R167). -/
def crossFails (y yp tol : F32) : Bool :=
  !(f32Finite y && f32Finite yp) || decide ((f32Int tol) < ((f32Int y - f32Int yp).natAbs : Int))

/-- The linearised value of the partner channel's latest sample that is provisional or confirmed and lies within XSKEW (R167). -/
def partnerValue (s : State) (c : Nat) (stamp : DWord) (us : Nat) : Option F32 :=
  let l := (chan s c).inflight.reverse.map (fun p => (p.lin, p.x.stamp)) ++ (chan s c).confirmedY
  (l.find? (fun e => withinSkew stamp e.2 us)).map (·.1)

/-- The median of three. -/
def median3 (a b c : F32) : F32 :=
  if f32Le a b then (if f32Le b c then b else if f32Le a c then c else a)
  else (if f32Le a c then a else if f32Le b c then c else b)

/-- The filter's output with a new value included, and the state it leads to (R174). -/
def filterStep (ch : Chan) (cfg : Word) (y : F32) : F32 × Chan :=
  let k := fld cfg 11 8
  match fld cfg 7 6 with
  | 1 => let f := match ch.filt with | some f => f32Fma (f32Sub y f) (BitVec.ofNat 32 ((127 - k) * 0x800000)) f | none => y
         (f, { ch with filt := some f })
  | 2 => let h := (y :: ch.hist).take (2 ^ k)
         (f32RoundRat (h.foldl (fun n v => n + f32Int v) 0) h.length 149 64 false, { ch with hist := h })
  | 3 => let h := (y :: ch.hist).take 3
         ((match h with | [a, b, c] => median3 a b c | _ => y), { ch with hist := h })
  | _ => (y, ch)

/-- The filter restarts at the next valid sample (R174). -/
def filterReset (ch : Chan) : Chan := { ch with filt := none, hist := [] }

/-- The quality and value delivered, and the filter after them (R162, R174, R176): filtered when valid, computed or held otherwise; a
filter result that is not finite gives MATH with the held value. -/
def stage5 (ch : Chan) (cfg : Word) (q : Nat) (y : F32) : Nat × F32 × Chan :=
  if qualValid q then
    let (v, next) := filterStep ch cfg y
    if f32Finite v then (q, v, next) else (9, shown ch 9 y, filterReset ch)
  else (q, shown ch q y, filterReset ch)

/-- Send to the Gallery's input, in the same island. -/
def toGal (s : State) (m : GalMsg) : State := { s with galIn := s.galIn ++ [m] }

/-- The item of a sample (R176). -/
def itemOf (c : Nat) (x : Sample) (v : F32) (q : Nat) (prov : Bool) : Item :=
  { srcType := 0#3, idx := BitVec.ofNat 9 c, value := v, qual := BitVec.ofNat 4 q, stamp := x.stamp, seq := some x.seq.toNat,
    prov := prov, range := x.range, angle := x.angle, decim := x.decim }

/-- Note a quality shown by a confirmed item: QUAL_CHG on a change (IRQ bit 0). -/
def noteQual (s : State) (c q : Nat) : State :=
  let ch := chan s c
  raiseIf (decide (ch.qual.toNat ≠ q)) (setChan s c { ch with qual := BitVec.ofNat 4 q }) lINTG 0

/-- A status item of a channel (R163): to the Gallery, the PV window and the loop engine, as a confirmed item. -/
def statusItem (s : State) (c q : Nat) (stamp : DWord) (seq : BitVec 16) : State :=
  let s := noteQual s c q
  let ch := chan s c
  let v := ch.lastValid.getD f32Zero
  let pv : PvVal := ⟨2#2, v, stamp, BitVec.ofNat 4 q, seq⟩
  let s := setChan s c { ch with delivered := some (BitVec.ofNat 4 q), valid := false, count := 0,
                                 pv := if ch.pv.state = 1#2 then ch.pv else pv, pvKept := pv }
  let s := toGal s (.item { srcType := 0#3, idx := BitVec.ofNat 9 c, value := v, qual := BitVec.ofNat 4 q, stamp := stamp })
  let s := raiseIf (decide (q = 11)) s lINTG 1
  send s lINTG lLOOP (.fbStatus c (BitVec.ofNat 4 q))

/-- A squash is counted for its Chamber or the supply-sense converter; SQ_SAT at 65,535 (R155). -/
def squashCount (s : State) (c : Nat) : State :=
  let o := if c < 256 then 0x124 + 4 * (c / 32) else 0x144
  let s := countUp s lINTG o 0 16
  raiseIf (decide (fld (reg s lINTG o) 15 0 = 65535)) s lINTG 2

/-- An open-circuit conversion is judged (R165). -/
def ocJudge (s : State) (c : Nat) (x : Sample) : State :=
  let ch := chan s c
  if !bit (chReg s 0x180 c) 2 then s else
  let thr := fld (chReg s 0x1A0 c) 31 16
  let far := match ch.prevValue with
    | some v => decide (16 * thr < (sInt32 x.value - sInt32 v).natAbs)
    | none => false
  if x.hgClip || (decide (thr ≠ 0) && far) then statusItem (setChan s c { ch with ocOpen := true }) c 10 x.stamp x.seq
  else setChan s c { ch with ocOpen := false }

/-- Samples that wait for a value of channel `c` are checked against the one that has just passed stage 4 (R167). -/
def servePartners (s : State) (c : Nat) (y : F32) (stamp : DWord) : State :=
  let upd (p : Prov) : Prov :=
    if p.cross.isNone && !p.late && decide (p.xpair = c) && withinSkew p.x.stamp stamp p.xskew
    then { p with cross := some (crossFails p.lin y p.xtol) } else p
  { s with intg := { s.intg with chan := s.intg.chan.map (fun e => (e.1, { e.2 with inflight := e.2.inflight.map upd })) } }

/-- The count of a channel as it will stand when every sample in flight is confirmed (R175). -/
def countAhead (ch : Chan) : Nat :=
  ch.inflight.foldl (fun n p => if p.silent then n else if p.candidate then 0 else n + 1) ch.count

/-- Stages 1 to 5 of a sample that is accepted (R151, R158, R161, R168 to R176). -/
def acceptSample (s : State) (c : Nat) (x : Sample) (raw trim : F32) (chmb : Bool) : State :=
  let ch := chan s c
  let cf := chReg s 0x180 c
  let link := chReg s 0x18C c
  let avg := bit cf 5
  let x2 := stage2 s c raw trim
  let x3 := if avg && x.swapped && !ch.prevSwapped then
      f32Mul (f32Add x2 (ch.prevCal.getD x2)) 0x3F000000#32 else x2
  let x4 := if chmb && decide (fld link 24 16 ≠ 511) then f32Div x3 (ratioRef s (fld link 24 16)) else x3
  let (y, linr) := linearise s c x4 (compValue s (fld link 8 0))
  let q := stage5Qual s c x x4 y linr
  let silent := avg && !x.swapped
  let cand := !silent && decide (fld cf 19 12 ≤ countAhead ch)
  let xc := chReg s 0x190 c
  let cross : Option Bool := if chmb && bit cf 4 then
      (partnerValue s (fld xc 8 0) x.stamp (fld xc 31 16)).map (fun yp => crossFails y yp (chReg s 0x194 c))
    else some false
  let p : Prov := {
    x := x, cal := x4, lin := y, qual := BitVec.ofNat 4 q,
    excFail := chmb && bit cf 1 && (x.complA || x.complB || x.retLoss), agreeFail := chmb && bit cf 3 && agreeFails s c x,
    cross := cross, xpair := fld xc 8 0, xskew := fld xc 31 16, xtol := chReg s 0x194 c,
    candidate := cand, silent := silent, pairSquash := avg && x.swapped, chmb := chmb,
    cf := cf, due := s.now + 1000 * cfg s lINTG 0x100 6 0 - 186 }
  let (qv, v, _) := stage5 ch cf q y
  let pv : PvVal := ⟨1#2, v, x.stamp, BitVec.ofNat 4 qv, x.seq⟩
  let s := setChan s c { ch with
    inflight := ch.inflight ++ [p], shadow := some ⟨x, raw, trim, y, BitVec.ofNat 4 (stage4Qual s c x x4 y linr)⟩, prevCal := some x2, prevSwapped := x.swapped, prevValue := some x.value,
    pv := if cand then pv else ch.pv }
  let s := if cand then toGal s (.item (itemOf c x v qv true)) else s
  servePartners s c y x.stamp

/-- Is the integrity unit taking samples: powered, enabled, no FREEZE written (R161)? -/
def intgTakes (s : State) : Bool := alive s lINTG && !(hdr s lINTG).freeze

/-- INTG_SAMPLE_ACCEPT (R151, R152, R161, R165): the oldest sample waiting passes stages 1 to 5. -/
def execIntgSampleAccept (s : State) : Host.Outcome State Fault Refusal :=
  done (match s.intg.inq with
    | [] => s
    | m :: rest =>
      let s := { s with intg := { s.intg with inq := rest } }
      if !alive s lINTG then s
      else if (hdr s lINTG).freeze then countUp s lINTG 0x148 0 16
      else match m with
        | .sample x =>
          if !bit (chReg s 0x180 x.ch) 0 then s
          else if x.oc then ocJudge s x.ch x
          else acceptSample s x.ch x (f32OfInt (sInt32 x.value)) (lsbTrim s (x.ch / 32) (trimIndex x)) true
        | .ssns c v stamp =>
          if !bit (chReg s 0x180 c) 0 then s
          else
            let n := (chan s c).ssSeq + 1
            let s := setChan s c { chan s c with ssSeq := n }
            acceptSample s c { ch := c, stamp := stamp, value := 0#32, seq := BitVec.ofNat 16 n } v f32One false)

/-- The oldest provisional sample of a channel leaves; the loop engine hears how a feedback sample was resolved that it was given
(R169, R177). -/
def popProv (s : State) (c : Nat) (p : Prov) (r : Option (BitVec 4)) : State :=
  let ch := chan s c
  let s := setChan s c { ch with inflight := ch.inflight.tail, prevSquashed := r.isNone }
  if p.x.src = 1#2 && !p.silent then send s lINTG lLOOP (.fbResolved c p.x.seq.toNat r) else s

/-- A squash (R155): counted; the Gallery withdraws the provisional item, the PV window returns to the last confirmed value, and
after a squashed candidate the next sample is the candidate (R175). -/
def squash (s : State) (c : Nat) (p : Prov) : State :=
  let s := squashCount (popProv s c p none) c
  let ch := chan s c
  if p.candidate then
    toGal (setChan s c { ch with pv := ch.pvKept, count := max ch.count (fld p.cf 19 12) }) (.resolved c p.x.seq.toNat none)
  else s

/-- A noise measurement takes a confirmed sample of its channel (R178). -/
def noiseTake (s : State) (c : Nat) (v : Word) : State :=
  match s.intg.noise with
  | some n => if n.ch = c ∧ n.got < n.want then
      { s with intg := { s.intg with noise := some { n with
          got := n.got + 1, sum := n.sum + sInt32 v, sq := n.sq + (sInt32 v).natAbs * (sInt32 v).natAbs } } } else s
  | none => s

/-- A confirmation with its final quality (R160 to R162, R174 to R176), under the CH_CFG of its arrival; a filter that a set has
restarted since is not moved by it. A sample that SWAP_AVG keeps silent delivers nothing, so it moves neither the filter nor the values
that other samples refer to (R169). -/
def confirm (s : State) (c : Nat) (p : Prov) (fq : Nat) : State :=
  let (q, v, next) := stage5 (chan s c) p.cf fq p.lin
  let s := noteQual (popProv s c p (some (BitVec.ofNat 4 q))) c q
  let ch := chan s c
  let same := decide (fld p.cf 11 6 = fld (chReg s 0x180 c) 11 6)
  let ch := if p.silent then ch else
    let ch := if same then { ch with filt := next.filt, hist := next.hist } else ch
    if qualValid q then { ch with valid := true, lastValid := some v, lastCal := some p.cal, lastLin := some p.lin }
    else { ch with valid := false }
  let ch := { ch with seq := p.x.seq, confirmed := true, confirmedY := (p.lin, p.x.stamp) :: ch.confirmedY }
  let changed := decide (ch.delivered ≠ some (BitVec.ofNat 4 q))
  let deliver := !p.silent && (p.candidate || changed)
  let pv : PvVal := ⟨2#2, v, p.x.stamp, BitVec.ofNat 4 q, p.x.seq⟩
  let ch := if deliver then { ch with
      delivered := some (BitVec.ofNat 4 q), pv := if ch.inflight.any (fun e => e.candidate) then ch.pv else pv, pvKept := pv,
      count := 0 } else if p.silent then ch else { ch with count := ch.count + 1 }
  let s := noiseTake (setChan s c ch) c p.x.value
  if !deliver then s
  else if p.candidate then toGal s (.resolved c p.x.seq.toNat (some (v, BitVec.ofNat 4 q)))
  else toGal s (.item (itemOf c p.x v q false))

/-- The checks that failed, as quality codes (R159, R162). -/
def failedChecks (p : Prov) : List Nat :=
  (if p.excFail then [10] else []) ++ (if p.agreeFail then [8] else []) ++ (if p.cross = some true then [7] else [])

/-- The final quality of a sample: its stage 5 conditions, the open-circuit state and the failed checks (R159, R162). -/
def finalQual (s : State) (c : Nat) (p : Prov) : Nat :=
  let oc := if p.chmb && (chan s c).ocOpen && bit p.cf 2 then 10 else 0
  (failedChecks p).foldl max (max p.qual.toNat oc)

/-- The strike rule on a sample whose checks completed, with the swap rule of R169 (R160). -/
def resolveChecked (s : State) (c : Nat) (p : Prov) : State :=
  let ch := { chan s c with tmoStrike := false }
  let f := failedChecks p
  let pairLost := p.pairSquash && ch.prevSquashed
  if f.isEmpty then
    let s := setChan s c { ch with strike := false }
    if pairLost then squash s c p else confirm s c p (finalQual s c p)
  else if !ch.strike then squash (setChan s c { ch with strike := true }) c p
  else
    let s := setChan s c ch
    if pairLost then squash s c p else confirm s c p (finalQual s c p)

/-- A sample that timed out (R158, R160): squashed; the second in a row issues a status item TMO. -/
def resolveTimeout (s : State) (c : Nat) (p : Prov) : State :=
  let second := (chan s c).tmoStrike
  let s := squash (setChan s c { chan s c with tmoStrike := !second }) c p
  if second then statusItem s c 11 p.x.stamp p.x.seq else s

/-- SAMPLE_RESOLVE (R153, R157, R160): the channel's oldest provisional sample, once all its checks have completed. -/
def execSampleResolve (ch : BitVec 9) (s : State) : Host.Outcome State Fault Refusal :=
  let c := ch.toNat
  done (if !alive s lINTG then s else
    match (chan s c).inflight with
    | p :: _ => if p.late then resolveTimeout s c p else if p.cross.isSome then resolveChecked s c p else s
    | [] => s)

/-- The instant of the first deadline among a channel's samples that still have a check open. -/
def firstDue (ch : Chan) : Option Nat :=
  ch.inflight.foldl (fun m p => if p.cross.isSome || p.late then m else match m with | some t => some (min t p.due) | none => some p.due) none

/-- CONF_WIN_DEADLINE (R157, R158, R160): the first deadline among the channel's samples with a check open passes. The sample times out: it
is squashed at once, or as soon as the samples before it are resolved. -/
def execConfWinDeadline (ch : BitVec 9) (s : State) : Host.Outcome State Fault Refusal :=
  let c := ch.toNat
  done (if !alive s lINTG then s else
    let old := chan s c
    let mark (p : Prov) : Prov := if p.cross.isNone && decide (some p.due = firstDue old) then { p with late := true } else p
    let s := setChan s c { old with inflight := old.inflight.map mark }
    match (chan s c).inflight with
    | p :: _ => if p.late then resolveTimeout s c p else s
    | [] => s)

/-- The channel of a Chamber or supply-sense sample that squashing counts: an enabled one, no open-circuit conversion (R151). -/
def squashable (s : State) (m : IntgIn) : Option Nat :=
  let on (c : Nat) : Option Nat := if bit (chReg s 0x180 c) 0 then some c else none
  match m with
  | .sample x => if x.oc then none else on x.ch
  | .ssns c _ _ => on c

/-- A crossing value as the integrity unit takes it. -/
def intgPart : Payload → Option IntgIn
  | .sample x => some (.sample x)
  | .ssns c v t => some (.ssns c v t)
  | _ => none

/-- Every provisional sample is squashed (R23, R44, R153): those in the unit, and those whose conversion has ended and which are on their
way to it. -/
def squashAll (s : State) : State :=
  let way := s.intg.inq ++ s.xing.filterMap (fun x => intgPart x.what)
  let s := s.intg.chan.foldl (fun t e => e.2.inflight.foldl (fun t p => squash t e.1 p) t) s
  let s := (way.filterMap (squashable s)).foldl squashCount s
  { s with intg := { s.intg with inq := [] }, xing := s.xing.filter (fun x => (intgPart x.what).isNone) }

/-- NOISE_RUN (R178): a write of NOISE_CFG with RUN = 1; LOG2N counts between 8 and 16. -/
def execNoiseRun (ctx : Ctx) (value : Word) (s : State) : Host.Outcome State Fault Refusal :=
  done (ownerWrite s ctx lINTG 0x118 (fun s =>
    let s := setReg s lINTG 0x118 (value &&& 0x1F01FF#32)
    if bit value 31 then
      { s with intg := { s.intg with
          noiseDone := false, noise := some { ch := fld value 8 0, want := 2 ^ (max 8 (min 16 (fld value 20 16))) } } }
    else s))

/-- NOISE_DONE (R178): the mean and the standard deviation of the samples taken. -/
def execNoiseDone (s : State) : Host.Outcome State Fault Refusal :=
  done (match s.intg.noise with
    | some n =>
      if n.got = n.want then
        let var := n.want * n.sq - n.sum.natAbs * n.sum.natAbs
        let s := setReg s lINTG 0x120 (f32RoundRat n.sum n.want 0 64 false)
        let s := setReg s lINTG 0x11C (f32RoundRat (Nat.sqrt (var * 2 ^ 80) : Nat) n.want 40 64 false)
        raise { s with intg := { s.intg with noise := none, noiseDone := true } } lINTG 3
      else s
    | none => s)

/-- PV_SEL (R180, R181): latches the channel's value, stamp and state from one instant. -/
def execPvSel (x ctx : Ctx) (value : Word) (s : State) : Host.Outcome State Fault Refusal :=
  let o := 0x200 + 0x20 * x.toNat
  done (ctxWrite s x ctx lINTG o (fun s =>
    let c := fld value 8 0
    if 269 < c then capture s lINTG ctx true 0x8 o else
    let v := (chan s c).pv
    let s := setReg (setReg s lINTG o (BitVec.ofNat 32 c)) lINTG (o + 4) v.value
    setReg (setReg64 s lINTG (o + 8) v.stamp) lINTG (o + 0x10)
      (BitVec.ofNat 32 (v.state.toNat + 16 * v.qual.toNat + 0x10000 * v.seq.toNat))))

/-- CH_SEL (R180): a write above 269 is ignored and captured with code 0x8. -/
def execChSel (ctx : Ctx) (value : Word) (s : State) : Host.Outcome State Fault Refusal :=
  done (ownerWrite s ctx lINTG 0x104 (fun s =>
    if 269 < fld value 8 0 then capture s lINTG ctx true 0x8 0x104 else setReg s lINTG 0x104 (value &&& 0x1FF#32)))

/-- The key of the store word at LIN_ADDR, where it names one. -/
def linKey (s : State) : Option Nat :=
  let c := cfg s lINTG 0x108 8 0
  let w := cfg s lINTG 0x108 23 16
  if c ≤ 269 ∧ w ≤ 143 then some (wk lINTG 0x10C (256 * c + w)) else none

/-- LIN_ADDR.WORD increments under AUTOINC, wrapping from 143 to 0. -/
def linNext (s : State) : State :=
  if cfgBit s lINTG 0x108 31 then
    setFld s lINTG 0x108 23 16 (if 143 ≤ cfg s lINTG 0x108 23 16 then 0 else cfg s lINTG 0x108 23 16 + 1) else s

/-- What an accepted INTG set does to the channels it touches (R160, R175). -/
def intgApplied (s old : State) (keys : List Nat) : State :=
  (List.range 270).foldl (fun t c =>
    let k := wk lINTG 0x180 c
    if keys.contains k then
      let d := rget s k ^^^ rget old k
      let ch := chan t c
      let ch := if d &&& 0x1A#32 ≠ 0#32 then { ch with strike := false, tmoStrike := false } else ch
      let ch := if d &&& 0xFFFC0#32 ≠ 0#32 then { filterReset ch with count := 0 } else ch
      setChan t c ch
    else t) s

/-- The TMO status items of a module-wide release taken at OUT_DEADLINE (R163); no sample stands behind one, and the SEQ that the
PV window shows of it is free (log entry 1). -/
def intgDeadlineTmo (s : State) : State :=
  if works s lINTG then
    (List.range 270).foldl (fun t c =>
      if bit (chReg t 0x180 c) 0 && !(chan t c).confirmed then
        let (w, t) := draw t
        statusItem t c 11 (time64 t) (w.setWidth 16)
      else t) s
  else s

end Sys2Proof.Machine
end

