-- ==== Sys2Proof/Machine/Gallery.lean ====
section
/-! DEFINITION. The Gallery: sources, descriptors, conditions, delays, states, commands and dry runs (R183 to R213, R501). -/
namespace Sys2Proof.Machine

/-- A point's record. -/
def pnt (s : State) (p : Nat) : Point := tget s.gal.pts p {}
def setPnt (s : State) (p : Nat) (v : Point) : State := { s with gal := { s.gal with pts := tset s.gal.pts p v {} } }

/-- How many local points a node has. -/
def galPoints : Nat := 2048

/-- A word of a descriptor (R186). -/
def dw (d : List Word) (i : Nat) : Word := d.getD i 0#32
def dEn (d : List Word) : Bool := bit (dw d 0) 0
def dBinary (d : List Word) : Bool := decide (fld (dw d 0) 2 1 = 1)
def dSrcType (d : List Word) : Nat := fld (dw d 0) 6 4
def dSrcIdx (d : List Word) : Nat := fld (dw d 0) 16 8
def dGrpEn (d : List Word) : Bool := bit (dw d 0) 7
def dCond (d : List Word) : Nat := fld (dw d 0) 31 24
def dPrioOf (d : List Word) (k : Nat) : Nat := fld (dw d 9) (2 * k + 1) (2 * k)
def dGroup (d : List Word) : Nat := fld (dw d 10) 31 16
def dLant (d : List Word) : Nat := fld (dw d 11) 15 0
def dDoEn (d : List Word) : Bool := bit (dw d 11) 31
def dDo (d : List Word) : Nat := fld (dw d 11) 20 16
def dDoMode (d : List Word) : Nat := fld (dw d 11) 25 24
def dCall (d : List Word) : Nat := fld (dw d 12) 7 0
def dFlag (d : List Word) (i : Nat) : Bool := bit (dw d 12) (8 + i)
def dHostq (d : List Word) : Nat := fld (dw d 12) 23 16
def dBist (d : List Word) : Nat := fld (dw d 12) 31 24

/-- Length of a delay field in ms (R186, R192). -/
def delayMs (d : List Word) (on : Bool) : Nat :=
  (if on then fld (dw d 8) 15 0 else fld (dw d 8) 31 16) *
  (match fld (dw d 0) 18 17 with | 0 => 1 | 1 => 100 | _ => 1000)

/-- Is SRC_IDX in the range of its SRC_TYPE, and the PTYPE allowed (R183)? -/
def srcRange (t i : Nat) : Bool :=
  match t with | 0 => i ≤ 269 | 1 => i ≤ 63 | 2 => i ≤ 7 | 3 => i ≤ 63 | 4 => i ≤ 3 | 5 => i ≤ 255 | 6 => i ≤ 127 | _ => false
def ptypeAllowed (t pt : Nat) : Bool :=
  match t with | 0 => pt ≤ 1 | 2 => pt = 0 | 5 => pt ≤ 1 | 7 => pt ≤ 1 | _ => pt = 1

/-- Each enabled limit before the next in the order LL ≤ L < H ≤ HH (R187). -/
def limitsOrdered (d : List Word) : Bool :=
  let on := (List.range 4).filter (fun k => (dCond d).testBit k)
  on.all (fun a => on.all (fun b =>
    if decide (a < b) then
      (if decide (a ≤ 1 ∧ 2 ≤ b) then f32Lt (dw d (1 + a)) (dw d (1 + b)) else f32Le (dw d (1 + a)) (dw d (1 + b)))
    else true))

/-- The failing checks of a descriptor of point `p` that take in one field each, and those of several: the lowest offset of the fields,
and the REASON (R83, R187, R498). -/
def descFails1 (d : List Word) : List (Nat × Nat) :=
  [(decide (dSrcType d = 7), 0, 0x40), (decide (2 ≤ fld (dw d 0) 2 1), 0, 0x41),
   (decide (fld (dw d 0) 18 17 = 3), 0, 0x47), (decide (fld (dw d 0) 23 19 ≠ 0), 0, 0x49),
   (!f32Finite (dw d 1), 4, 0x43), (!f32Finite (dw d 2), 8, 0x43), (!f32Finite (dw d 3), 12, 0x43),
   (!f32Finite (dw d 4), 16, 0x43), (!f32Finite (dw d 5) || f32Lt (dw d 5) f32Zero, 20, 0x43), (!f32Finite (dw d 6), 24, 0x43),
   (!f32Finite (dw d 7), 28, 0x43),
   ((decide (1023 < dLant d) && decide (dLant d ≠ 0xFFFF)) || decide (fld (dw d 11) 23 21 ≠ 0) || decide (fld (dw d 11) 30 26 ≠ 0), 0x2C, 0x49),
   ((decide (15 < dCall d) && decide (dCall d ≠ 0xFF)) || decide (fld (dw d 12) 15 12 ≠ 0) || decide (fld (dw d 12) 30 29 ≠ 0), 0x30, 0x49),
   (decide (dw d 14 ≠ 0#32), 0x38, 0x4A), (decide (dw d 15 ≠ 0#32), 0x3C, 0x4A)].filterMap
    (fun e => if e.1 then some e.2 else none)
def descFails2 (p : Nat) (d : List Word) : List (Nat × Nat) :=
  let c := dCond d
  let pt := fld (dw d 0) 2 1
  [(!srcRange (dSrcType d) (dSrcIdx d), 0, 0x40), (!ptypeAllowed (dSrcType d) pt, 0, 0x41),
   (decide (c &&& (if pt = 0 then 0x80 else 0x3F) ≠ 0), 0, 0x42),
   (c.testBit 5 && !f32Lt (dw d 5) (dw d 7), 0, 0x43), (!limitsOrdered d, 0, 0x44),
   (c.testBit 4 && (decide (fld (dw d 9) 31 16 = 0) || f32IsZero (dw d 6)), 0, 0x45),
   (c.testBit 5 && (decide (2047 < fld (dw d 10) 15 0) || decide (fld (dw d 10) 15 0 = p)), 0, 0x46),
   (dDoEn d && decide (dDoMode d = 3), 0x2C, 0x48)].filterMap
    (fun e => if e.1 then some e.2 else none)
def descFails (p : Nat) (d : List Word) : List (Nat × Nat) := descFails1 d ++ descFails2 p d

/-- The failure that is reported: the lowest offset, then the lowest REASON (R498). -/
def descFirst (p : Nat) (d : List Word) : Option (Nat × Nat) :=
  (descFails p d).foldl (fun b e => match b with
    | some f => if e.1 < f.1 ∨ (e.1 = f.1 ∧ e.2 < f.2) then some e else b
    | none => some e) none

/-- The descriptor of a point in the declared region (R185); sixteen words of zeros stand as the empty list. -/
def regionDesc (s : State) (p : Nat) : List Word :=
  let l := (List.range 16).map (fun i => BitVec.ofNat 32 (mgetLE s.mem (descBase s + 64 * p + 4 * i) 4))
  if l.all (fun w => decide (w = 0#32)) then [] else l

/-- A descriptor of the region as the Gallery takes it: one that fails its check is treated as EN = 0 (R185). -/
def takenDesc (s : State) (p : Nat) : List Word :=
  let d := regionDesc s p
  if dEn d && (descFirst p d).isSome then [dw d 0 &&& ~~~1#32] ++ d.drop 1 else d

/-- The Gallery writes a descriptor to the region (R207). -/
def putRegionDesc (s : State) (p : Nat) (d : List Word) : State :=
  { s with mem := msetBytes s.mem (descBase s + 64 * p) (d.flatMap (fun w => leBytes 4 w.toNat)) }

/-- The points of the region with EN = 1 whose descriptor fails, with the REASON (R185). -/
def descFailing (s : State) : List (Nat × Nat) :=
  (List.range galPoints).filterMap (fun p =>
    let d := regionDesc s p
    if dEn d then (descFirst p d).map (fun e => (p, e.2)) else none)

/-- A descriptor check starts: DESC_CHK clears (R185). -/
def descClear (s : State) : State := setReg { s with gal := { s.gal with descBad := false } } lGAL 0x138 0#32

/-- The result of a descriptor check: DESC_CHK and DESC_BAD (R185). -/
def descReport (s : State) : State :=
  match (descFailing s).head? with
  | some (p, r) => setReg { s with gal := { s.gal with descBad := true } } lGAL 0x138 (BitVec.ofNat 32 (p + 0x10000 * r + 0x80000000))
  | none => descClear s

/-- Does the Gallery evaluate and commit: at work, no FREEZE written, and no standby (R211, R449)? -/
def galRuns (s : State) : Bool := works s lGAL && !(hdr s lGAL).freeze && !standby s

/-- The highest priority of the conditions in a mask; CAUTION for none (R193). -/
def prioIn (d : List Word) (mask : Nat) : Nat :=
  (List.range 8).foldl (fun b k => if mask.testBit k then min b (dPrioOf d k) else b) 3

/-- |a - b| in binary32. -/
def f32AbsDiff (a b : F32) : F32 := f32Sub a b &&& 0x7FFFFFFF#32

/-- The rate condition of a valid item against its reference (R189). -/
def rateCond (d : List Word) (ref : Option (F32 × DWord)) (y : F32) (t : DWord) (was : Bool) : Bool :=
  match ref with
  | none => false
  | some (y0, t0) =>
    if t.toNat ≤ t0.toNat ∨ t.toNat - t0.toNat < fld (dw d 9) 31 16 * 1000000 then was
    else
      let r := f32Div (f32Sub y y0) (f32RoundRat ((t.toNat - t0.toNat : Nat) : Int) 1000000000 0 64 false)
      (f32Lt f32Zero (dw d 6) && f32Le (dw d 6) r) || (f32Lt (dw d 6) f32Zero && f32Le r (dw d 6))

/-- Where the rate reference stands after the commit of a valid confirmed item (R189). -/
def rateMove (d : List Word) (ref : Option (F32 × DWord)) (y : F32) (t : DWord) : Option (F32 × DWord) :=
  match ref with
  | none => some (y, t)
  | some (_, t0) =>
    if t.toNat ≤ t0.toNat ∨ fld (dw d 9) 31 16 * 1000000 ≤ t.toNat - t0.toNat then some (y, t) else ref

/-- The condition truth C after an item (R188 to R190); `ydev` is the last committed valid value of DEV_REF, where it has one. -/
def condTruth (d : List Word) (c : Byte) (ref : Option (F32 × DWord)) (ydev : Option F32) (i : Item) : Byte :=
  let en := BitVec.ofNat 8 (dCond d)
  let y := i.value
  if !qualValid i.qual.toNat then cput c 6 true &&& en
  else
    let c := cput c 6 false
    if dBinary d then cput c 7 (f32Le 0x3F000000#32 y != bit (dw d 0) 3) &&& en
    else
      let db := dw d 5
      let hh := f32Le (dw d 4) y || (cbit c 3 && f32Le (f32Sub (dw d 4) db) y)
      let h := f32Le (dw d 3) y || (cbit c 2 && f32Le (f32Sub (dw d 3) db) y)
      let l := f32Le y (dw d 2) || (cbit c 1 && f32Le y (f32Add (dw d 2) db))
      let ll := f32Le y (dw d 1) || (cbit c 0 && f32Le y (f32Add (dw d 1) db))
      let rate := rateCond d ref y i.stamp (cbit c 4)
      let dev := match ydev with
        | some z => f32Lt (dw d 7) (f32AbsDiff y z) || (cbit c 5 && f32Lt (f32Sub (dw d 7) db) (f32AbsDiff y z))
        | none => cbit c 5
      cput (cput (cput (cput (cput (cput c 3 hh) 2 h) 1 l) 0 ll) 4 rate) 5 dev &&& en

/-- The committed valid value of the point DEV_REF names, where that point is enabled and has one (R190). -/
def devValue (s : State) (d : List Word) : Option F32 :=
  let r := pnt s (fld (dw d 10) 15 0)
  if dEn r.desc then r.core.valid else none

/-- One condition's active bit and timer at a commit of C (R191). -/
def delayStep (d : List Word) (now : Nat) (stamp : DWord) (c : Byte) (at' : Byte × Tbl (Option Tmr)) (k : Nat) : Byte × Tbl (Option Tmr) :=
  let (a, tm) := at'
  if cbit c k = cbit a k then (a, tset tm k none none)
  else
    let on := cbit c k
    let ms := delayMs d on
    if ms = 0 then (cput a k on, tset tm k none none)
    else match tget tm k none with
      | some t => if t.on = on then (a, tm) else (a, tset tm k (some ⟨on, now, ms, stamp⟩) none)
      | none => (a, tset tm k (some ⟨on, now, ms, stamp⟩) none)

/-- All eight conditions (R191). -/
def delays (d : List Word) (now : Nat) (stamp : DWord) (c a : Byte) (tm : Tbl (Option Tmr)) : Byte × Tbl (Option Tmr) :=
  (List.range 8).foldl (fun acc k => delayStep d now stamp c acc k) (a, tm)

/-- PRIO from ACT_COND; kept while it is empty (R193). -/
def prioOf (d : List Word) (a : Byte) (old : BitVec 2) : BitVec 2 := if a = 0#8 then old else BitVec.ofNat 2 (prioIn d a.toNat)

/-- The next STATE, and whether INST is new, when ACT_COND or PRIO changes (R194, R195). -/
def nextState (o : PtCore) (a : Byte) (prio : BitVec 2) : BitVec 3 × Bool :=
  let act := decide (a ≠ 0#8)
  let up := if o.sup then 5#3 else 1#3
  match o.st.toNat with
  | 0 => if act then (up, true) else (0#3, false)
  | 1 => if !act then (3#3, false) else (1#3, decide (prio.toNat < o.prio.toNat))
  | 2 => if !act then (0#3, false) else if prio.toNat < o.prio.toNat then (1#3, true) else (2#3, false)
  | 3 => if act then (up, true) else (3#3, false)
  | 5 => if act then (5#3, false) else (0#3, false)
  | _ => (o.st, false)

/-- The exit rule (R195). -/
def exitState (o : PtCore) : BitVec 3 × Bool :=
  if o.a = 0#8 then (0#3, false) else if o.sup then (5#3, false) else (1#3, true)

/-- The next instance number (R194). -/
def nextInst (i : Byte) : Byte := if i = 255#8 then 1#8 else i + 1#8

/-- The 24 bytes of a change item (R203). -/
def chgBytes (c : ChgItem) : List Byte :=
  leBytes 2 c.index ++ leBytes 1 (c.st.toNat + 16 * c.prev.toNat) ++ leBytes 1 (c.prio.toNat + 16 * c.qual.toNat) ++
  [c.act, c.inst] ++ leBytes 1 c.cause ++ leBytes 1 c.src ++ leBytes 8 c.stamp.toNat ++ leBytes 4 c.value.toNat ++
  leBytes 4 c.cdelta.toNat

/-- The point record of R237 for a change item. -/
def pointRec (c : ChgItem) : List Byte :=
  leBytes 2 c.index ++ leBytes 1 (c.st.toNat + 8 * c.prio.toNat + 32 * b2n (decide (c.act ≠ 0#8)) + 64 * b2n c.grpEn) ++
  [c.inst] ++ leBytes 2 c.group.toNat ++ [c.act] ++ leBytes 1 c.cause ++ leBytes 8 c.stamp.toNat

/-- May the node send event messages: released, not degraded, no standby (R240, R448)? -/
def publishes (s : State) : Bool := s.pwr.released && !s.pwr.degraded && !standby s

/-- Queue a record for the alarm transport; into an absent network it is dropped (R14, R235). -/
def transmit (s : State) (line typ : Nat) (body : List Byte) : State :=
  if !publishes s then s else if !domOn s dNET then dropAbsent s line
  else { s with grp := { s.grp with txq := s.grp.txq ++ [⟨typ, body⟩] } }

/-- Hand an item to Echo, in the same island, while Echo is enabled; frozen, its queue holds 512 entries, and an input that
finds it full is dropped and counted (R265). -/
def toEcho (s : State) (i : EchoIn) : State :=
  if !alive s lECHO then s
  else if (hdr s lECHO).frozen && decide (512 ≤ s.echo.inq.length) then
    raise (countUp { s with echo := { s.echo with dropped := true } } lECHO 0x1E8 0 16) lECHO 8
  else { s with echo := { s.echo with inq := s.echo.inq ++ [i] } }

/-- A change item goes to its consumers (R204): the grouping engine, the network core, Flowstone, host queues and Echo. Lantern,
Calcite and the DO alarm outputs follow the committed states themselves. On a standby it goes neither to the network nor to
Echo (R449). -/
def distribute (s : State) (d : List Word) (c : ChgItem) : State :=
  let s := raise s lGAL 0
  let s := if alive s lGRP then { s with grp := { s.grp with locals := s.grp.locals ++ [c] } } else s
  let s := if dFlag d 0 then transmit s lGAL 1 (pointRec c) else s
  let s := if dFlag d 1 then flowRec s lGAL 1#4 1#8 (chgBytes c) else s
  let s := (ctxsOf (dHostq d)).foldl (fun t x => hostEvent t lGAL x 1 (chgBytes c)) s
  if decide (dCall d ≠ 0xFF) && !standby s then toEcho s (.point c (dCall d)) else s

/-- (commit TIME64 − STAMP) in µs, clamped (R203). -/
def cdelta (t stamp : DWord) : Word :=
  BitVec.ofNat 32 (min ((t.toNat - stamp.toNat) / 1000) 0xFFFFFFFF)

/-- The change item of a commit (R203). -/
def chgItem (p : Nat) (d : List Word) (o c : PtCore) (cause src : Nat) (stamp t : DWord) : ChgItem :=
  { index := p, st := c.st, prev := o.st, prio := c.prio, qual := c.qual, act := c.a, inst := c.inst, cause := cause, src := src,
    stamp := stamp, value := c.value, cdelta := cdelta t stamp, grpEn := dGrpEn d, group := BitVec.ofNat 16 (dGroup d) }

/-- A DO in ALARM mode is released at the first confirmed evaluation of every point bound to it; with none bound, at module-wide
release (R50, R317). -/
def refreshRel (s : State) : State :=
  if !alive s lGAL then s
  else
    let ready (o : Nat) : Bool :=
      let l := s.gal.pts.filter (fun e => dEn e.2.desc && dDoEn e.2.desc && decide (dDo e.2.desc = o))
      if l.isEmpty then s.pwr.released else l.all (fun e => e.2.core.first)
    { s with fio := { s.fio with rel := (List.range 32).foldl (fun m o =>
        if decide (cfg s lFIO (0x300 + 16 * o) 2 0 = 2) && ready o then m ||| BitVec.ofNat 32 (2 ^ o) else m) s.fio.rel } }

/-- On the duty of a pair, a commit waits to be mirrored, coalesced per point, the latest winning (R449). -/
def mirrorDue (s : State) (p : Nat) (item : Option (Byte × Byte × DWord)) : State :=
  if s.rope.role ≠ 5#3 then s
  else
    let old := (s.rope.due.find? (fun e => decide (e.p = p))).bind (fun e => e.item)
    let item := match item with | some i => some i | none => old
    { s with rope := { s.rope with due := s.rope.due.filter (fun e => decide (e.p ≠ p)) ++ [⟨p, item, time64 s⟩] } }

/-- A commit ends: the committed state is replaced, and one item issues when STATE, PRIO or ACT_COND changed, except within OOS
(R197, R201, R203). `item` overrides the rule where R208 and R501 state it; `stamp` is none for the commit's own TIME64. -/
def finish (s : State) (p : Nat) (c : PtCore) (newInst : Bool) (cause src : Nat) (stamp : Option DWord) (item : Option Bool) : State :=
  let pt := pnt s p
  let o := pt.core
  let t := time64 s
  let c := if newInst then { c with inst := nextInst o.inst, instTime := t } else c
  let s := setPnt s p { pt with core := c }
  let s := if c.first && !o.first then refreshRel s else s
  let s := bistPoint s pt.desc
  let emit := item.getD ((decide (c.st ≠ o.st) || decide (c.prio ≠ o.prio) || decide (c.a ≠ o.a)) && !(decide (o.st = 6#3) && decide (c.st = 6#3)))
  let s := mirrorDue s p (if emit then some (BitVec.ofNat 8 cause, BitVec.ofNat 8 src, stamp.getD t) else none)
  if emit then
    distribute (setPnt s p { pnt s p with itCause := cause, itStamp := stamp.getD t }) pt.desc (chgItem p pt.desc o c cause src (stamp.getD t) t)
  else s

/-- A commit: one whose result is UNACK_ACT with a new INST waits for its verdict first (R204). -/
def commit (s : State) (p : Nat) (c : PtCore) (newInst : Bool) (cause src : Nat) (stamp : Option DWord) : State :=
  if c.st = 1#3 ∧ newInst then
    let pt := pnt s p
    let s := setPnt s p { pt with wait := some ⟨c, cause, src, stamp⟩ }
    { s with gal := { s.gal with vreq := s.gal.vreq ++ [p] } }
  else finish s p c newInst cause src stamp none

/-- The core after ACT_COND `a` with timers `tm` (R193, R194). -/
def withActive (d : List Word) (o : PtCore) (a : Byte) (tm : Tbl (Option Tmr)) : PtCore × Bool :=
  let prio := prioOf d a o.prio
  let (st, new) := nextState o a prio
  ({ o with a := a, tmr := tm, prio := prio, st := st }, new)

/-- Is an item one of a sample, or of a source that is no channel? A status item has no sample behind it (R163, R176). -/
def sampled (i : Item) : Bool := i.srcType ≠ 0#3 || i.seq.isSome

/-- What the commit of a confirmed item leads to (R188 to R195, R208, R210), by the limits and the DEV_REF value that its evaluation took;
delays, priorities and the conditions enabled are those in use. A status item is no first confirmed evaluation: outputs that depend on
the point wait for its first confirmation (R50, R179). -/
def evalCore (s : State) (pt : Point) (i : Item) : PtCore × Bool :=
  let d := pt.desc
  let o := pt.core
  let c := condTruth pt.evDesc o.c o.ref pt.evDev i &&& BitVec.ofNat 8 (dCond d)
  let (a, tm) := delays d s.now i.stamp c o.a o.tmr
  let (n, new) := withActive d { o with c := c } a tm
  let ok := qualValid i.qual.toNat
  ({ n with first := o.first || sampled i, value := i.value, qual := i.qual,
            ref := if ok then rateMove pt.evDesc o.ref i.value i.stamp else o.ref,
            valid := if ok then some i.value else o.valid }, new)

/-- PSTATE of a point: the STATE that a confirmation of its evaluated provisional item would commit; the PROV overlay stands
while it differs from STATE (R198). -/
def pstate (s : State) (pt : Point) : BitVec 3 :=
  match pt.prov with
  | some i => (evalCore s pt i).1.st
  | none => pt.core.st
def provOverlay (s : State) (pt : Point) : Bool := pstate s pt ≠ pt.core.st

/-- The dry run of a slot (R209), and its staged descriptor. -/
def dryOf (s : State) (k : Nat) : Dry := tget s.gal.dry k {}
def setDry (s : State) (k : Nat) (v : Dry) : State := { s with gal := { s.gal with dry := tset s.gal.dry k v {} } }
def slotDesc (s : State) (k : Nat) : List Word := (List.range 16).map (fun i => stagedAt s (rk lGAL (0x400 + 64 * k + 4 * i)))

/-- The dry run's ACT_COND changes: rises and falls of ACTIVE are counted, and each rise raises DRY_ACT (R209). -/
def dryActive (s : State) (k : Nat) (y : Dry) (a : Byte) : State :=
  let rise := y.a = 0#8 && a ≠ 0#8
  let fall := y.a ≠ 0#8 && a = 0#8
  raiseIf rise (setDry s k { y with
    a := a
    rises := if rise then BitVec.ofNat 16 (satInc 16 y.rises.toNat) else y.rises
    falls := if fall then BitVec.ofNat 16 (satInc 16 y.falls.toNat) else y.falls }) lGAL 4

/-- A dry evaluation of a confirmed item (R209). -/
def dryEval (s : State) (k : Nat) (i : Item) : State :=
  let y := dryOf s k
  let d := slotDesc s k
  let c := condTruth d y.c y.ref (devValue s d) i
  let (a, tm) := delays d s.now i.stamp c y.a y.tmr
  let y' := { y with c := c, tmr := tm, ref := if qualValid i.qual.toNat then rateMove d y.ref i.value i.stamp else y.ref }
  dryActive (setReg s lGAL 0x11C (reg s lGAL 0x11C + 1#32)) k y' a

/-- The dry runs on a point evaluate a confirmed item (R209). -/
def dryEvals (s : State) (p : Nat) (i : Item) : State :=
  ((List.range 16).filter (fun k => (dryOf s k).on && decide ((dryOf s k).point = p))).foldl (fun t k => dryEval t k i) s

/-- A dry run's timers due by `now` expire at a Gallery tick (R192, R209). -/
def dryExpire (s : State) (k : Nat) : State :=
  let y := dryOf s k
  let due := y.tmr.filter (fun e => match e.2 with | some t => decide (t.at0 + 1000000 * t.ms ≤ s.now) | none => false)
  if due.isEmpty then s
  else
    let a := due.foldl (fun a e => match e.2 with | some t => cput a e.1 t.on | none => a) y.a
    dryActive s k { y with tmr := due.foldl (fun t e => tset t e.1 none none) y.tmr } a

/-- At a 1 ms Gallery tick the dry runs' timers are served; the step on an empty queue calls it. -/
def galDryTick (s : State) : State :=
  if s.gal.dry.isEmpty || decide (s.now % 1000000 ≠ 0) || !galRuns s then s
  else (List.range 16).foldl (fun t k => if (dryOf t k).on then dryExpire t k else t) s

/-- The SEQ that STAT_Q shows of a committed item; one whose source gives no SEQ has none that the spec states: free (log entry 1). -/
def itemSeq (s : State) (i : Item) : BitVec 16 × State :=
  match i.seq with
  | some n => (BitVec.ofNat 16 n, s)
  | none => ((draw s).1.setWidth 16, (draw s).2)

/-- An evaluation takes the descriptor in use and the value of DEV_REF as it starts (R190, R199, R208). -/
def evalTake (s : State) (p : Nat) : State := setPnt s p { pnt s p with evDesc := (pnt s p).desc, evDev := devValue s (pnt s p).desc }

/-- A confirmed item's evaluation ends and its result commits (R199, R201); the dry runs of the point see it too. -/
def commitItem (s : State) (p : Nat) (i : Item) : State :=
  let pt := pnt s p
  if !dEn pt.desc then s
  else
    let (seq, s) := itemSeq s i
    let (c, new) := evalCore s pt i
    dryEvals (commit s p { c with seq := seq } new 0 15 (some i.stamp)) p i

/-- The start state of R208; SHELF and OOS decide STATE (R501). -/
def startCore (d : List Word) (o : PtCore) : PtCore :=
  { o with c := 0#8, a := 0#8, tmr := [], first := false, ref := none, valid := none,
           prio := BitVec.ofNat 2 (prioIn d (dCond d)), st := if o.oos then 6#3 else if o.shelf then 4#3 else 0#3 }

/-- What a point holds of its source's items is dropped: it changes its source or is not enabled. -/
def dropInputs (s : State) (p : Nat) : State :=
  let s := setPnt s p { pnt s p with slot := none, eval := none, evalRes := none, prov := none, res := none, await := [] }
  { s with gal := { s.gal with ready := s.gal.ready.filter (fun x => x ≠ p) } }

/-- A group's counts, first-out state and suppression count (R224). -/
def grpHdr (s : State) (g : Nat) : GrpHdr := tget s.grp.grps g {}
def setGrpHdr (s : State) (g : Nat) (h : GrpHdr) : State := { s with grp := { s.grp with grps := tset s.grp.grps g h {} } }

/-- Is a local point suppressed (R229)? -/
def suppressed (s : State) (p : Nat) : Bool :=
  decide (0 < tget s.grp.lsup p 0) || (dGrpEn (pnt s p).desc && decide (0 < (grpHdr s (dGroup (pnt s p).desc)).supc))

/-- A change of a point's suppression result is sent to the Gallery; while the engine is frozen or a standby it waits (R229, R239, R449). -/
def supRefresh (s : State) (p : Nat) : State :=
  let v := suppressed s p
  if v = tget s.grp.sent p false ∨ works s lGRP = false ∨ (hdr s lGRP).freeze ∨ standby s then s
  else { s with grp := { s.grp with sent := tset s.grp.sent p v false, supq := s.grp.supq ++ [(p, v)] } }

/-- A descriptor takes effect at its point (R208, R501). The Gallery tells Echo of a new CALL (R245). -/
def descEffect (s : State) (p : Nat) (d : List Word) : State :=
  let pt := pnt s p
  let o := pt.core
  let e := pt.desc
  let moved := decide ((dw d 0 &&& 0x1FF76#32) ≠ (dw e 0 &&& 0x1FF76#32))
  let s := bistPoint (setPnt s p { pt with desc := d, next := none }) e
  let s := if dEn e && decide (dCall d ≠ dCall e) then toEcho s (.recall p (dCall d)) else s
  if !dEn d then
    let c := { o with c := 0#8, a := 0#8, tmr := [], ref := none, st := 7#3, prio := BitVec.ofNat 2 (prioIn d (dCond d)) }
    finish (dropInputs s p) p c false 10 15 none (some (decide (o.st ≠ 0#3) && decide (o.st ≠ 7#3)))
  else if !dEn e then finish (dropInputs s p) p (startCore d o) false 10 15 none (some true)
  else if moved then
    finish (dropInputs s p) p (startCore d o) false 10 15 none
      (some (decide (o.st = 1#3) || decide (o.st = 2#3) || decide (o.st = 3#3) || decide (o.st = 5#3)))
  else
    let en := BitVec.ofNat 8 (dCond d)
    let changed := decide (dCond d ≠ dCond e) || decide (fld (dw d 9) 15 0 ≠ fld (dw e 9) 15 0)
    let tm := o.tmr.filter (fun k => cbit en k.1)
    let s := bistPoint s d
    if o.a = 0#8 then
      let prio := if changed then BitVec.ofNat 2 (prioIn d (dCond d)) else o.prio
      setPnt s p { pnt s p with core := { o with c := o.c &&& en, tmr := tm, prio := prio } }
    else
      let (c, new) := withActive d { o with c := o.c &&& en } (o.a &&& en) tm
      commit s p c new 10 15 none

/-- An accepted descriptor takes effect, and the Gallery writes it to the region (R207); not while an evaluation of the point runs, which
has its own, nor while the point waits for its verdict (R204). -/
def takeDesc (s : State) (p : Nat) : State :=
  let pt := pnt s p
  match pt.next with
  | some d => if pt.wait.isSome || pt.eval.isSome then s else supRefresh (putRegionDesc (descEffect s p d) p d) p
  | none => s

/-- GAL_DESCRIPTOR_EFFECT (R207, R208, R501). -/
def execGalDescriptorEffect (p : BitVec 11) (s : State) : Host.Outcome State Fault Refusal :=
  done (if galRuns s then takeDesc s p.toNat else s)

/-- Does an item of this source reach the point (R183)? -/
def takesItem (pt : Point) (i : Item) : Bool :=
  dEn pt.desc && decide (dSrcType pt.desc = i.srcType.toNat) && decide (dSrcIdx pt.desc = i.idx.toNat)

/-- An item enters the input slot of a point; a replaced item of another sample counts (R206). -/
def fillSlot (s : State) (p : Nat) (i : Item) : State :=
  let pt := pnt s p
  let s := match pt.slot with
    | some o => if i.seq.isSome && decide (o.seq = i.seq) then s else raise (countUp s lGAL 0x120 0 32) lGAL 3
    | none => s
  setPnt s p { pnt s p with slot := some i }

/-- A resolution reaches a point of its channel (R198, R199, R206). -/
def pointResolved (s : State) (p seq : Nat) (r : Option (F32 × BitVec 4)) : State :=
  let pt := pnt s p
  let mine (i : Item) : Bool := i.prov && decide (i.seq = some seq)
  match pt.await.find? mine with
  | some i =>
    let s := setPnt s p { pt with await := pt.await.filter (fun x => !mine x) }
    (match r with | some (v, q) => fillSlot s p { i with value := v, qual := q, prov := false } | none => s)
  | none =>
    match pt.slot, pt.eval, pt.prov with
    | some i, _, _ =>
      if mine i then
        (match r with
          | some (v, q) => setPnt s p { pt with slot := some { i with value := v, qual := q, prov := false } }
          | none => setPnt s p { pt with slot := none })
      else (match pt.eval, pt.prov with
        | some j, _ => if mine j then setPnt s p { pt with evalRes := some r } else s
        | none, some j => if mine j then setPnt s p { pt with res := some r } else s
        | none, none => s)
    | none, some j, _ => if mine j then setPnt s p { pt with evalRes := some r } else s
    | none, none, some j => if mine j then setPnt s p { pt with res := some r } else s
    | none, none, none => s

/-- An item reaches a point: a provisional item of a point with PROV_EVAL = 0 waits for its resolution (R198). -/
def pointItem (s : State) (p : Nat) (i : Item) : State :=
  let pt := pnt s p
  if i.prov && !dFlag pt.desc 3 then setPnt s p { pt with await := pt.await ++ [i] } else fillSlot s p i

/-- GAL_ITEM_ARRIVAL (R183, R184, R206): the oldest item or resolution waiting reaches every point that names its source. -/
def execGalItemArrival (s : State) : Host.Outcome State Fault Refusal :=
  done (match s.galIn with
    | [] => s
    | m :: rest =>
      let s := { s with galIn := rest }
      if !alive s lGAL then s else
      match m with
      | .item i => (s.gal.pts.filter (fun e => takesItem e.2 i)).foldl (fun t e => pointItem t e.1 i) s
      | .resolved ch seq r =>
        (s.gal.pts.filter (fun e => takesItem e.2 { srcType := 0#3, idx := BitVec.ofNat 9 ch, value := 0#32 })).foldl
          (fun t e => pointResolved t e.1 seq r) s)

/-- GAL_READY (R206): a point with an item joins the ready queue, 100 µs after its last evaluation started. -/
def execGalReady (p : BitVec 11) (s : State) : Host.Outcome State Fault Refusal :=
  let pt := pnt s p.toNat
  done (if galRuns s && pt.slot.isSome && pt.eval.isNone && !s.gal.ready.contains p.toNat then
    { s with gal := { s.gal with ready := s.gal.ready ++ [p.toNat] } } else s)

/-- GAL_EVALUATE (R188, R198, R206, R207): the evaluation of the first ready point starts; an accepted descriptor takes effect first. -/
def execGalEvaluate (s : State) : Host.Outcome State Fault Refusal :=
  done (if !galRuns s then s else
    match s.gal.ready with
    | [] => s
    | p :: rest =>
      let s := { s with gal := { s.gal with ready := rest } }
      let s := takeDesc s p
      let pt := pnt s p
      match pt.slot with
      | none => s
      | some i =>
        let s := setReg s lGAL 0x11C (reg s lGAL 0x11C + 1#32)
        evalTake (setPnt s p { pt with slot := none, eval := some i, evalRes := none }) p)

/-- The resolution of an evaluated provisional item (R199): confirmed as it was evaluated, that evaluation commits; with another VALUE or
QUAL, it is evaluated afresh; squashed, the overlay is removed. -/
def resolveProv (s : State) (p : Nat) (i : Item) (r : Option (F32 × BitVec 4)) : State :=
  let s := setPnt s p { pnt s p with prov := none, res := none, eval := none, evalRes := none }
  match r with
  | some (v, q) =>
    let again := decide (v ≠ i.value) || decide (q ≠ i.qual)
    let s := if again then evalTake (setReg s lGAL 0x11C (reg s lGAL 0x11C + 1#32)) p else s
    commitItem s p { i with value := v, qual := q, prov := false }
  | none => s

/-- GAL_EVALUATION_COMMIT (R199, R201): the point's evaluation ends: a confirmed item commits, a provisional one awaits its
resolution, which is applied now if it has come meanwhile. -/
def execGalEvaluationCommit (p : BitVec 11) (s : State) : Host.Outcome State Fault Refusal :=
  let pt := pnt s p.toNat
  done (match pt.eval with
    | some i =>
      if !works s lGAL || standby s || pt.wait.isSome then s
      else if !i.prov then commitItem (setPnt s p.toNat { pt with eval := none, evalRes := none }) p.toNat i
      else match pt.evalRes with
        | some r => resolveProv s p.toNat i r
        | none => setPnt s p.toNat { pt with eval := none, prov := some i }
    | none => s)

/-- GAL_RESOLUTION (R199). -/
def execGalResolution (p : BitVec 11) (s : State) : Host.Outcome State Fault Refusal :=
  let pt := pnt s p.toNat
  done (match pt.prov, pt.res with
    | some i, some r => if galRuns s && pt.wait.isNone then resolveProv s p.toNat i r else s
    | _, _ => s)

/-- A delay expires: its active bit is set or cleared (R191, R203). -/
def expireDelay (s : State) (p k : Nat) : State :=
  let pt := pnt s p
  match tget pt.core.tmr k none with
  | some t =>
    let (c, new) := withActive pt.desc pt.core (cput pt.core.a k t.on) (tset pt.core.tmr k none none)
    commit s p c new 1 15 (some t.stamp)
  | none => s

/-- The shelf time ends (R195, R196, R501). -/
def endShelf (s : State) (p : Nat) : State :=
  let pt := pnt s p
  let o := pt.core
  if !o.shelf then s
  else
    let o' := { o with shelf := false }
    let s := raise s lGAL 5
    if o.st = 4#3 then
      let (st, new) := exitState o'
      commit s p { o' with st := st } new 5 15 none
    else setPnt s p { pt with core := o' }

/-- An expiry acts now, or waits while the Gallery is frozen or the point waits for its verdict (R204, R211). -/
def applyDue (s : State) (p k : Nat) : State := if k = 8 then endShelf s p else expireDelay s p k
def dueOr (s : State) (p k : Nat) : State :=
  if !alive s lGAL || standby s then s
  else if (hdr s lGAL).freeze || (pnt s p).wait.isSome then
    (if s.gal.due.contains (p, k) then s else { s with gal := { s.gal with due := s.gal.due ++ [(p, k)] } })
  else applyDue s p k

/-- GAL_DELAY_EXPIRY (R191, R192). -/
def execGalDelayExpiry (p : BitVec 11) (k : BitVec 3) (s : State) : Host.Outcome State Fault Refusal :=
  done (if (tget (pnt s p.toNat).core.tmr k.toNat none).isSome then dueOr s p.toNat k.toNat else s)

/-- SHELF_EXPIRY (R195, R196). -/
def execShelfExpiry (p : BitVec 11) (s : State) : Host.Outcome State Fault Refusal :=
  done (if (pnt s p.toNat).core.shelf then dueOr s p.toNat 8 else s)

/-- RESULT and COUNT of a command of a context's block (R213); acknowledgements of the network (8) and of Echo (9) show nowhere. -/
def cmdResult (s : State) (src result count : Nat) : State :=
  if src < 8 then setReg s lGAL (0x214 + 0x40 * src) (BitVec.ofNat 32 (16 * result + 0x10000 * count)) else s

/-- Is the source's bit set in PERMIT_p.ACK_SRC, or SHELVE_SRC, for the point's PRIO (R196, R200)? -/
def mayAck (s : State) (src p : Nat) : Bool := cfgBit s lGAL (0x104 + 4 * (pnt s p).core.prio.toNat) src
def mayShelve (s : State) (src p : Nat) : Bool := cfgBit s lGAL (0x104 + 4 * (pnt s p).core.prio.toNat) (16 + src)

/-- Is the point UNACK_ACT or UNACK_RTN? -/
def unacked (o : PtCore) : Bool := o.st = 1#3 || o.st = 3#3

/-- Acknowledge a point (R194). -/
def ackPoint (s : State) (src p : Nat) : State :=
  let o := (pnt s p).core
  finish s p { o with st := if o.st = 1#3 then 2#3 else 0#3 } false 2 src none none

/-- The points an ACK_GROUP or ACK_ALL names: unacknowledged, with INST_TIME not after BEFORE (R200). -/
def ackSet (s : State) (group : Option Nat) (before : DWord) : List Nat :=
  (s.gal.pts.filter (fun e => dEn e.2.desc && unacked e.2.core && decide (e.2.core.instTime.toNat ≤ before.toNat) &&
    (match group with | some g => dGrpEn e.2.desc && decide (dGroup e.2.desc = g) | none => true))).map (·.1)

/-- Does a command name a point that waits for its verdict (R202, R204)? -/
def cmdWaits (s : State) (c : GalCmd) : Bool :=
  match c.op with
  | 2 => s.gal.pts.any (fun e => e.2.wait.isSome && dGrpEn e.2.desc && decide (dGroup e.2.desc = c.target))
  | 3 => s.gal.pts.any (fun e => e.2.wait.isSome)
  | 8 => false
  | _ => (pnt s c.target).wait.isSome

/-- One command on its point, its range already checked (R195 to R200, R213). -/
def pointCmd (s : State) (c : GalCmd) : State :=
  let p := c.target
  let o := (pnt s p).core
  let d := (pnt s p).desc
  let ok (t : State) : State := cmdResult t c.src 0 1
  match c.op with
  | 1 => if !mayAck s c.src p then cmdResult s c.src 1 0
         else if !unacked o then cmdResult s c.src 2 0
         else if o.inst ≠ BitVec.ofNat 8 c.arg.toNat then cmdResult s c.src 3 0
         else ok (ackPoint s c.src p)
  | 4 => if !mayShelve s c.src p then cmdResult s c.src 1 0
         else if !dFlag d 2 || o.st = 6#3 || o.st = 7#3 then cmdResult s c.src 5 0
         else if decide (c.arg.toNat = 0) || decide (cfg s lGAL 0x100 15 0 < c.arg.toNat) then cmdResult s c.src 4 0
         else ok (finish s p { o with st := 4#3, shelf := true, shelfAt := s.now, shelfS := c.arg.toNat } false 3 c.src none none)
  | 5 => if !mayShelve s c.src p then cmdResult s c.src 1 0
         else if o.st ≠ 4#3 then cmdResult s c.src 5 0
         else
           let o' := { o with shelf := false }
           let (st, new) := exitState o'
           ok (commit s p { o' with st := st } new 4 c.src none)
  | 6 => if c.src < 8 ∧ cfgBit s lGAL 0x114 c.src = false then cmdResult s c.src 1 0
         else if o.st = 6#3 || o.st = 7#3 then cmdResult s c.src 5 0
         else ok (finish s p { o with st := 6#3, oos := true, shelf := false } false 6 c.src none none)
  | _ => if c.src < 8 ∧ cfgBit s lGAL 0x114 c.src = false then cmdResult s c.src 1 0
         else if o.st ≠ 6#3 then cmdResult s c.src 5 0
         else
           let o' := { o with oos := false }
           let (st, new) := exitState o'
           ok (commit s p { o' with st := st } new 7 c.src none)

/-- ACK_GROUP and ACK_ALL (R200, R213): DENIED when a point was skipped for want of permission. -/
def ackMany (s : State) (c : GalCmd) : State :=
  let l := ackSet s (if c.op = 2 then some c.target else none) c.before
  let may := l.filter (fun p => mayAck s c.src p)
  cmdResult (may.foldl (fun t p => ackPoint t c.src p) s) c.src (if may.length = l.length then 0 else 1) may.length

/-- Run a command whose point does not wait. -/
def runCmd (s : State) (c : GalCmd) : State := if c.op = 2 ∨ c.op = 3 then ackMany s c else pointCmd s c

/-- Is the TARGET outside its range (R202)? -/
def cmdRange (c : GalCmd) : Bool :=
  match c.op with | 2 => decide (65535 < c.target) | 3 => false | _ => decide (2047 < c.target)

/-- A command reaches the Gallery (R202, R204, R211): STOPPED, FROZEN, RANGE, held, or run. -/
def galCommand (s : State) (c : GalCmd) : State :=
  if !alive s lGAL || standby s then cmdResult s c.src 8 0
  else if (hdr s lGAL).freeze then cmdResult s c.src 6 0
  else if cmdRange c then cmdResult s c.src 4 0
  else if cmdWaits s c then { s with gal := { s.gal with held := s.gal.held ++ [c] } }
  else runCmd s c

/-- Expiries and then commands that waited for a verdict are applied, as far as their points wait no more (R201, R204). -/
def releaseHeld (s : State) : State :=
  let s := if (hdr s lGAL).freeze then s else
    s.gal.due.foldl (fun t e =>
      if (pnt t e.1).wait.isSome then t
      else applyDue { t with gal := { t.gal with due := t.gal.due.filter (fun x => x ≠ e) } } e.1 e.2) s
  s.gal.held.foldl (fun t c =>
    if cmdWaits t c then t
    else runCmd { t with gal := { t.gal with held := t.gal.held.erase c } } c) s

/-- The verdict's commit (R204): suppressed, the result is SUPPR with SUP set; the new INST stands either way. -/
def verdictCommit (s : State) (p : Nat) (sup : Bool) : State :=
  let pt := pnt s p
  match pt.wait with
  | some w =>
    let s := setPnt s p { pt with wait := none }
    let c := if sup then { w.core with sup := true, st := 5#3 } else w.core
    releaseHeld (finish s p c true w.cause w.src w.stamp none)
  | none => s

/-- The request and the answer of a point's verdict are done with. -/
def dropVerdict (s : State) (p : Nat) : State :=
  { s with gal := { s.gal with vreq := s.gal.vreq.filter (fun x => x ≠ p), vans := s.gal.vans.filter (fun x => x.1 ≠ p) } }

/-- May a commit that waits for its verdict end: the Gallery is powered and enabled, and stops only at the end of the commit in progress
(R211, R212). -/
def galEnds (s : State) : Bool := unitOn s lGAL && (hdr s lGAL).en

/-- GAL_VERDICT (R204): the verdict for the point has come. -/
def execGalVerdict (p : BitVec 11) (s : State) : Host.Outcome State Fault Refusal :=
  done (match s.gal.vans.find? (fun x => decide (x.1 = p.toNat)) with
    | some (_, sup) => if galEnds s then verdictCommit (dropVerdict s p.toNat) p.toNat sup else s
    | none => s)

/-- GAL_VERDICT_TIMEOUT (R204): no verdict within 10 µs: UNACK_ACT commits and GRP_TMO_CNT counts. -/
def execGalVerdictTimeout (p : BitVec 11) (s : State) : Host.Outcome State Fault Refusal :=
  done (if galEnds s && (pnt s p.toNat).wait.isSome && !s.gal.vans.any (fun x => decide (x.1 = p.toNat)) then
    verdictCommit (raise (countUp (dropVerdict s p.toNat) lGAL 0x124 0 32) lGAL 6) p.toNat false
  else s)

/-- SUP is set or cleared on a point (R195). -/
def setSup (s : State) (p : Nat) (on : Bool) : State :=
  let pt := pnt s p
  let o := pt.core
  if o.sup = on then s
  else
    let c := { o with sup := on }
    let cause := if on then 8 else 9
    if on then
      (if o.st = 1#3 ∨ o.st = 2#3 then finish s p { c with st := 5#3 } false cause 10 none none else setPnt s p { pt with core := c })
    else if o.st = 5#3 then
      let (st, new) := exitState c
      commit s p { c with st := st } new cause 10 none
    else setPnt s p { pt with core := c }

/-- GAL_SUP_CHANGE (R195, R229): the oldest SUP change of the grouping engine is applied. -/
def execGalSupChange (s : State) : Host.Outcome State Fault Refusal :=
  done (match s.grp.supq with
    | (p, on) :: rest =>
      if galRuns s && (pnt s p).wait.isNone then setSup { s with grp := { s.grp with supq := rest } } p on else s
    | [] => s)

/-- Is a command of CMD_x held (CMD_STAT.BUSY)? -/
def cmdBusy (s : State) (x : Nat) : Bool := s.gal.held.any (fun c => decide (c.src = x))

/-- A write of CMD_OP in CMD_x (R202): only CTX_x, and not while BUSY. -/
def cmdWrite (s : State) (x ctx : Ctx) (k : State → State) : State :=
  let o := 0x210 + 0x40 * x.toNat
  ctxWrite s x ctx lGAL o (fun s => if cmdBusy s x.toNat then capture s lGAL ctx true 0x8 o else k s)

/-- A command with the arguments of its block. -/
def cmdOf (s : State) (x : Ctx) (op : Nat) (value : Word) : GalCmd :=
  let b := 0x200 + 0x40 * x.toNat
  { src := x.toNat, op := op, target := fld value 31 8, arg := reg s lGAL b, before := reg s lGAL (b + 12) ++ reg s lGAL (b + 8) }

/-- ACK_POINT to OOS_CLR (R195 to R202): a CMD_OP write with that OP; TARGET is value[31:8]. -/
def execAckPoint (x ctx : Ctx) (value : Word) (s : State) : Host.Outcome State Fault Refusal :=
  done (cmdWrite s x ctx (fun s => galCommand s (cmdOf s x 1 value)))
def execAckGroup (x ctx : Ctx) (value : Word) (s : State) : Host.Outcome State Fault Refusal :=
  done (cmdWrite s x ctx (fun s => galCommand s (cmdOf s x 2 value)))
def execAckAll (x ctx : Ctx) (value : Word) (s : State) : Host.Outcome State Fault Refusal :=
  done (cmdWrite s x ctx (fun s => galCommand s (cmdOf s x 3 value)))
def execShelve (x ctx : Ctx) (value : Word) (s : State) : Host.Outcome State Fault Refusal :=
  done (cmdWrite s x ctx (fun s => galCommand s (cmdOf s x 4 value)))
def execUnshelve (x ctx : Ctx) (value : Word) (s : State) : Host.Outcome State Fault Refusal :=
  done (cmdWrite s x ctx (fun s => galCommand s (cmdOf s x 5 value)))
def execOosSet (x ctx : Ctx) (value : Word) (s : State) : Host.Outcome State Fault Refusal :=
  done (cmdWrite s x ctx (fun s => galCommand s (cmdOf s x 6 value)))
def execOosClr (x ctx : Ctx) (value : Word) (s : State) : Host.Outcome State Fault Refusal :=
  done (cmdWrite s x ctx (fun s => galCommand s (cmdOf s x 7 value)))

/-- SOFT_WRITE (R184, R202): the value goes out as a confirmed item of SRC_TYPE 5 with its QUAL. -/
def softWrite (s : State) (x : Nat) (value : Word) : State :=
  let v := reg s lGAL (0x200 + 0x40 * x)
  let q := cfg s lGAL (0x204 + 0x40 * x) 3 0
  if !alive s lGAL || standby s then cmdResult s x 8 0
  else if (hdr s lGAL).freeze then cmdResult s x 6 0
  else if 255 < fld value 31 8 then cmdResult s x 4 0
  else if !cfgBit s lGAL 0x114 (8 + x) then cmdResult s x 1 0
  else if !f32Finite v || decide (0xB < q) then cmdResult s x 4 0
  else cmdResult (toGal s (.item { srcType := 5#3, idx := BitVec.ofNat 9 (fld value 31 8), value := v, qual := BitVec.ofNat 4 q,
                                   stamp := time64 s })) x 0 0

def execSoftWrite (x ctx : Ctx) (value : Word) (s : State) : Host.Outcome State Fault Refusal :=
  done (cmdWrite s x ctx (fun s => softWrite s x.toNat value))

/-- CMD_UNKNOWN (R202, R213): any other OP ends with UNKNOWN, STOPPED or FROZEN. -/
def unknownCmd (s : State) (x : Nat) : State :=
  cmdResult s x (if !alive s lGAL || standby s then 8 else if (hdr s lGAL).freeze then 6 else 7) 0
def execCmdUnknown (x ctx : Ctx) (_value : Word) (s : State) : Host.Outcome State Fault Refusal :=
  done (cmdWrite s x ctx (fun s => unknownCmd s x.toNat))

/-- Conditions with a running timer. -/
def tmrCond (o : PtCore) : Nat := o.tmr.foldl (fun n e => if e.2.isSome then n + 2 ^ e.1 else n) 0

/-- Seconds of shelf time left (R196). -/
def shelfRem (s : State) (o : PtCore) : Nat :=
  if o.shelf then o.shelfS - (s.now - o.shelfAt) / 1000000000 else 0

/-- STAT_SEL latches a snapshot of one point's committed state (R213). -/
def latchStat (s : State) (x p : Nat) : State :=
  let b := 0x200 + 0x40 * x
  let o := (pnt s p).core
  let a := BitVec.ofNat 32 (o.st.toNat + 8 * b2n o.first + 16 * b2n (decide (o.a ≠ 0#8)) + 64 * o.prio.toNat + 256 * o.a.toNat +
    0x10000 * tmrCond o + 0x1000000 * o.inst.toNat)
  let q := BitVec.ofNat 32 (o.qual.toNat + 16 * b2n o.sup + 32 * b2n o.shelf + 0x10000 * o.seq.toNat)
  let s := setReg (setReg (setReg s lGAL (b + 0x1C) a) lGAL (b + 0x20) o.value) lGAL (b + 0x24) q
  setReg64 (setReg s lGAL (b + 0x28) (BitVec.ofNat 32 (shelfRem s o))) lGAL (b + 0x30) o.instTime

/-- STAT_SEL (R213) of block CMD_x, which CTX_x alone may write (R202). -/
def execStatSel (x ctx : Ctx) (value : Word) (s : State) : Host.Outcome State Fault Refusal :=
  let o := 0x218 + 0x40 * x.toNat
  done (ctxWrite s x ctx lGAL o (fun s => latchStat (setReg s lGAL o (value &&& 0x800007FF#32)) x.toNat (fld value 10 0)))

/-- STAT_T_READ_AUTOINC (R213): a read of STAT_T [63:32] of CMD_x; with AUTOINC the next snapshot is latched. -/
def statTRead (s : State) (x : Nat) : State :=
  let b := 0x200 + 0x40 * x
  let s := answer s (reg s lGAL (b + 0x34)).toNat
  if cfgBit s lGAL (b + 0x18) 31 then
    let i := (cfg s lGAL (b + 0x18) 10 0 + 1) % 2048
    latchStat (setFld s lGAL (b + 0x18) 10 0 i) x i
  else s

/-- A read in block CMD_x: CTX_x may always read it; others need what R71 asks (R202). -/
def cmdRead (s : State) (x ctx : Ctx) (o : Nat) (k : State → State) : State :=
  if ctx = x then access { s with rdata := 0#64 } ctx lGAL o false k else readAccess s ctx lGAL o k
def execStatTReadAutoinc (x ctx : Ctx) (s : State) : Host.Outcome State Fault Refusal :=
  done (cmdRead s x ctx (0x234 + 0x40 * x.toNat) (fun s => statTRead s x.toNat))

/-- DESC_REGION_WRITE (R185, R499): a 4-byte write at word `word` of the descriptor region. -/
def descRegionWrite (s : State) (ctx : Ctx) (word : Nat) (value : Word) : State :=
  if (hdr s lGAL).frozen && decide (ctx.toNat ≤ 1) then
    { s with mem := msetLE s.mem (descBase s + 4 * word) 4 value.toNat }
  else capture s lGAL ctx true 0x8 0
def execDescRegionWrite (ctx : Ctx) (word : BitVec 15) (value : Word) (s : State) : Host.Outcome State Fault Refusal :=
  done (if pathOk s ctx && unitOn s lGAL && s.pinLocked then descRegionWrite s ctx word.toNat value else s)

/-- A dry run starts afresh (R209). -/
def dryStart (s : State) (k : Nat) : State :=
  let p := stagedAt s (rk lGAL (0x140 + 4 * k))
  match descFirst (fld p 10 0) (slotDesc s k) with
  | some (_, r) => setDry s k { err := true, reason := BitVec.ofNat 8 r }
  | none => setDry s k { on := true, point := fld p 10 0 }

/-- A write to a slot restarts the dry run's counts and state (R209). -/
def dryRestart (s : State) (k : Nat) : State := if (dryOf s k).on then dryStart s k else s

/-- What an accepted GAL set does (R207, R209): each slot with VALID gives its point a new descriptor, at once while frozen, and ends
its dry run. `old` is the state before. -/
def galApplied (s : State) : State :=
  (List.range 16).foldl (fun t k =>
    let dst := reg t lGAL (0x140 + 4 * k)
    if bit dst 15 then
      let p := fld dst 10 0
      let d := (List.range 16).map (fun i => reg t lGAL (0x400 + 64 * k + 4 * i))
      let t := setPnt t p { pnt t p with next := some d }
      let t := if (hdr t lGAL).frozen then takeDesc t p else t
      setFld (setDry t k {}) lGAL (0x140 + 4 * k) 16 16 0
    else t) s

/-- The region's descriptors are checked and taken (R185, R193); a point that waits for its verdict takes its own after it. -/
def galLoad (s : State) : State :=
  let s := descReport s
  (List.range galPoints).foldl (fun t p =>
    let d := takenDesc t p
    let pt := pnt t p
    if d = pt.desc then t
    else if pt.wait.isSome || pt.eval.isSome then setPnt t p { pt with next := some (pt.next.getD d) }
    else supRefresh (descEffect t p d) p) s

/-- FREEZE clears (R185, R211): the descriptors are taken, then the expiries that fell due are applied in order. -/
def galUnfreeze (s : State) : State := releaseHeld (galLoad s)

/-- A point as the Gallery finds it at its enabling: in the start state, or in DIS with the PRIO of its descriptor (R193, R210). -/
def enabledPoint (d : List Word) : Point :=
  if dEn d then { core := startCore d {}, desc := d } else { core := { prio := BitVec.ofNat 2 (prioIn d (dCond d)) }, desc := d }

/-- The Gallery is enabled (R210): every enabled point of the region is in the start state, and FIRST is 0. A descriptor accepted while the
page was disabled takes effect from now on (R207). -/
def galEnable (s : State) : State :=
  let s := descReport s
  let waiting := s.gal.pts.filterMap (fun e => e.2.next.map (fun d => (e.1, d)))
  let s := (List.range galPoints).foldl (fun t p => setPnt t p (enabledPoint (takenDesc t p)))
    { s with gal := { s.gal with pts := [], ready := [], vreq := [], vans := [], held := [], due := [] } }
  refreshRel (waiting.foldl (fun t e => setPnt t e.1 { pnt t e.1 with next := some e.2 }) s)

/-- A soft reset of the page (R211): every point in DIS, the Gallery in its reset state. -/
def galSoftReset (s : State) : State := { s with gal := {} }

/-- Points in a STATE, enabled points without a confirmed evaluation, and the term of a DO in alarm mode (R205, R213). -/
def ptsIn (s : State) (st : Nat) : Nat := (s.gal.pts.filter (fun e => decide (e.2.core.st.toNat = st))).length
def firstPend (s : State) : Nat := (s.gal.pts.filter (fun e => dEn e.2.desc && !e.2.core.first)).length
def doTermOf (mode : Nat) (st : BitVec 3) : Bool :=
  match mode with | 0 => st = 1#3 || st = 2#3 | 1 => st = 1#3 || st = 3#3 | _ => st = 1#3
def alarmTerm (s : State) (o : Nat) : Bool :=
  s.gal.pts.any (fun e => dEn e.2.desc && dDoEn e.2.desc && decide (dDo e.2.desc = o) && doTermOf (dDoMode e.2.desc) e.2.core.st)

end Sys2Proof.Machine
end

