-- ==== Sys2Proof/Machine/Grouping.lean ====
section
/-! DEFINITION. The grouping engine and the Lonievo alarm transport: mirror, suppression, first-out, alarm master
(R214 to R242, R497, R502). -/
namespace Sys2Proof.Machine

/-- The node's own ID, MASTER_PRIO and pair ID (R214, R219). -/
def nodeId (s : State) : Nat := cfg s lGRP 0x104 11 0
def masterPrio (s : State) : Nat := cfg s lGRP 0x104 23 16
def ownPair (s : State) : Nat := if cfgBit s lROPE 0x100 0 then cfg s lROPE 0x100 31 16 else 0
def ownMember (s : State) : Nat := if cfgBit s lROPE 0x100 0 then cfg s lROPE 0x100 1 1 else 0

/-- Does the engine ingest and decide: at work, no FREEZE written, no rebuild running (R230, R239)? -/
def grpRuns (s : State) : Bool := works s lGRP && !(hdr s lGRP).freeze && !s.grp.rebuild

/-- A peer's table entry. -/
def node (s : State) (n : Nat) : Node := tget s.grp.nodes n {}
def setNode (s : State) (n : Nat) (v : Node) : State := { s with grp := { s.grp with nodes := tset s.grp.nodes n v {} } }

/-- A mirror entry, its 8 bytes as a number (R215), and its fields. -/
def mirrorAt (s : State) (pid : Nat) : Nat := mgetLE s.mem (mirrorBase s + 8 * pid) 8
def putMirror (s : State) (pid v : Nat) : State := { s with mem := msetLE s.mem (mirrorBase s + 8 * pid) 8 v }
def meState (e : Nat) : Nat := bitsOf e 2 0
def mePrio (e : Nat) : Nat := bitsOf e 4 3
def meActive (e : Nat) : Bool := e.testBit 5
def meFo (e : Nat) : Bool := e.testBit 6
def meValid (e : Nat) : Bool := e.testBit 7
def meInst (e : Nat) : Nat := bitsOf e 15 8
def meGroup (e : Nat) : Nat := bitsOf e 31 16
def meGrpEn (e : Nat) : Bool := e.testBit 63
def mirrorEntry (st prio : Nat) (active fo grpEn : Bool) (inst group : Nat) (stamp : Nat) : Nat :=
  st + 8 * prio + 32 * b2n active + 64 * b2n fo + 128 + 256 * inst + 0x10000 * group +
  0x100000000 * (stamp / 1000000 % 0x80000000) + 0x8000000000000000 * b2n grpEn

/-- Set or clear FO in an entry (R231). -/
def setFo (s : State) (pid : Nat) (b : Bool) : State :=
  let e := mirrorAt s pid
  putMirror s pid (e - 64 * b2n (meFo e) + 64 * b2n b)

/-- A group's configuration (R224), the values in use. -/
def gCfg (s : State) (g : Nat) : Word := rget s (wk lGRP 0x164 g)
def gOut (s : State) (g : Nat) : Word := rget s (wk lGRP 0x168 g)
def gEn (s : State) (g : Nat) : Bool := bit (gCfg s g) 0
def gCall (s : State) (g : Nat) : Nat := fld (gCfg s g) 15 8

/-- The Echo term of a group (R245). -/
def gTerm (s : State) (g : Nat) : Bool := gEn s g && decide (0 < (grpHdr s g).ua + (grpHdr s g).ur)

/-- Tell Echo a change of a group's term, or an increase of N_UA (R245, R246). `old` is the state before. -/
def tellGroup (s old : State) (g : Nat) : State :=
  let rose := decide ((grpHdr old g).ua < (grpHdr s g).ua)
  if gEn s g && decide (gCall s g ≠ 0xFF) && !standby s && (rose || gTerm s g != gTerm old g)
  then toEcho s (.group g (gCall s g) (gTerm s g) rose) else s

/-- Add one to, or take one from, the count of a member's STATE (R224); counts saturate. -/
def countMember (h : GrpHdr) (st : Nat) (up : Bool) : GrpHdr :=
  let f (n : Nat) : Nat := if up then satInc 16 n else n - 1
  match st with
  | 1 => { h with ua := f h.ua } | 2 => { h with aa := f h.aa } | 3 => { h with ur := f h.ur } | 5 => { h with sup := f h.sup } | _ => h
def countEntry (s : State) (e : Nat) (up : Bool) : State :=
  if meValid e && meGrpEn e then setGrpHdr s (meGroup e) (countMember (grpHdr s (meGroup e)) (meState e) up) else s

/-- Word `w` of cause entry `i`, and the number of causes in use (R226). -/
def causeW (s : State) (i w : Nat) : Word := tget s.grp.causes (4 * i + w) 0#32
def causeCnt (s : State) : Nat := cfg s lGRP 0x118 16 0

/-- The lowest REASON that fails for a cause entry; 0 for none (R230). -/
def causeReason (s : State) (i : Nat) : Nat :=
  let w := causeW s i 0
  let prev : Bool := decide (0 < i) && decide (fld w 22 0 ≤ fld (causeW s (i - 1) 0) 22 0)
  let count := fld (causeW s i 2) 24 0
  if prev then 1 else if count = 0 then 2
  else if cfg s lGRP 0x114 24 0 < fld (causeW s i 1) 23 0 + count then 3
  else if fld w 30 23 ≠ 0 ∨ fld (causeW s i 1) 31 24 ≠ 0 ∨ fld (causeW s i 2) 31 25 ≠ 0 ∨ fld (causeW s i 3) 31 16 ≠ 0 then 4 else 0

/-- Check the cause table (R230): GRAPH_CHK holds the first failure. -/
def graphCheck (s : State) : State :=
  match (List.range (causeCnt s)).find? (fun i => decide (causeReason s i ≠ 0)) with
  | some i => setReg { s with grp := { s.grp with chkBad := true, edgeBad := false } } lGRP 0x150
      (BitVec.ofNat 32 (i + 0x10000 * causeReason s i))
  | none => setReg { s with grp := { s.grp with chkBad := false, edgeBad := false } } lGRP 0x150 0#32

/-- The cause entry of a point: enabled, in a table that passed its check (R226, R230). -/
def causeOf (s : State) (pid : Nat) : Option Nat :=
  if s.grp.chkBad then none
  else (List.range (causeCnt s)).find? (fun i => decide (fld (causeW s i 0) 22 0 = pid) && bit (causeW s i 0) 31)

/-- Does a reserved bit of an edge word stand (R227)? -/
def edgeReserved (w : Nat) : Bool := decide (bitsOf w 30 23 ≠ 0) || (w.testBit 31 && decide (bitsOf w 22 16 ≠ 0))

/-- The local points an edge's effect can change. -/
def edgePoints (s : State) (w : Nat) : List Nat :=
  if w.testBit 31 then (s.gal.pts.filter (fun e => dGrpEn e.2.desc && decide (dGroup e.2.desc = bitsOf w 15 0))).map (·.1)
  else [bitsOf w 10 0]

/-- One edge visit (R227 to R230): LSUP of a local point or SUPC of a group; a word with reserved bits is skipped and flagged. -/
def visitEdge (s : State) (i : Nat) (up : Bool) : State :=
  let w := mgetLE s.mem (graphBase s + 4 * i) 4
  let s := setReg s lGRP 0x148 (reg s lGRP 0x148 + 1#32)
  let f (n : Nat) : Nat := if up then satInc 16 n else n - 1
  if edgeReserved w then { s with grp := { s.grp with edgeBad := true } }
  else if w.testBit 31 then
    let g := bitsOf w 15 0
    setGrpHdr s g { grpHdr s g with supc := f (grpHdr s g).supc }
  else if bitsOf w 22 11 = nodeId s then
    { s with grp := { s.grp with lsup := tset s.grp.lsup (bitsOf w 10 0) (f (tget s.grp.lsup (bitsOf w 10 0) 0)) 0 } }
  else s

/-- Walk the list of a cause entry, adding or subtracting, and send the SUP changes that follow unless `quiet` (R228 to R230). -/
def walk (s : State) (i : Nat) (up quiet : Bool) : State :=
  let first := fld (causeW s i 1) 23 0
  let n := fld (causeW s i 2) 24 0
  (List.range n).foldl (fun t k =>
    let w := mgetLE t.mem (graphBase t + 4 * (first + k)) 4
    let t := visitEdge t (first + k) up
    if quiet || edgeReserved w then t else (edgePoints t w).foldl supRefresh t) s

/-- The state of a cause: 0 idle, 1 asserting, 2 hold running, 3 hold due. -/
def cstate (s : State) (pid : Nat) : BitVec 2 := tget s.grp.cstate pid 0#2
def setCstate (s : State) (pid : Nat) (v : BitVec 2) : State :=
  { s with grp := { s.grp with cstate := tset s.grp.cstate pid v 0#2 } }

/-- Does a mirror entry make its cause assert (R228)? -/
def asserts (e : Nat) : Bool := meValid e && meActive e && decide (meState e ≠ 6) && decide (meState e ≠ 7)

/-- A cause stops asserting: its hold starts; a hold of 0 ends at once (R228), or where the engine does not run falls due (R239). -/
def releaseCause (s : State) (pid i : Nat) : State :=
  if fld (causeW s i 3) 15 0 ≠ 0 then setCstate s pid 2#2
  else if grpRuns s then walk (setCstate s pid 0#2) i false false
  else setCstate { s with grp := { s.grp with due := s.grp.due ++ [(true, pid)] } } pid 3#2

/-- The cause rule at a new mirror entry (R228). -/
def causeRule (s : State) (pid e : Nat) : State :=
  match causeOf s pid with
  | none => s
  | some i =>
    if asserts e then
      (if cstate s pid = 0#2 then walk (setCstate s pid 1#2) i true false
       else setCstate { s with grp := { s.grp with due := s.grp.due.filter (fun d => d ≠ (true, pid)) } } pid 1#2)
    else if cstate s pid = 1#2 then releaseCause s pid i else s

/-- A group record (R237). -/
def groupRec (g kind pid : Nat) (stamp opened : DWord) : List Byte :=
  leBytes 2 g ++ leBytes 1 kind ++ [0#8] ++ leBytes 4 pid ++ leBytes 8 stamp.toNat ++ leBytes 8 opened.toNat

/-- A FINAL or LATE decision that the node passes to its consumers (R232). -/
def passDecision (s : State) (g kind pid : Nat) (stamp opened : DWord) : State :=
  let s := raise s lGRP (if kind = 2 then 0 else 1)
  if !gEn s g then s else
  let b := groupRec g kind pid stamp opened
  let s := if bit (gCfg s g) 2 then flowRec s lGRP 2#4 (BitVec.ofNat 8 kind) b else s
  let s := if gCall s g ≠ 0xFF ∧ !standby s then toEcho s (.firstOut g (gCall s g) (kind = 3) pid) else s
  (ctxsOf (fld (gCfg s g) 23 16)).foldl (fun t x => hostEvent t lGRP x 2 b) s

/-- The master publishes a group record (R231). -/
def sendGroup (s : State) (g kind pid : Nat) (stamp : DWord) : State :=
  if s.grp.master then transmit s lGRP 2 (groupRec g kind pid stamp (grpHdr s g).opened) else s

/-- A group's FINAL on the master: published, FO set in the mirror, passed on (R231, R232). -/
def masterFinal (s : State) (g : Nat) : State :=
  let h := grpHdr s g
  passDecision (setFo (sendGroup s g 2 h.foId h.foStamp) h.foId true) g 2 h.foId h.foStamp h.opened

/-- Is a key (STAMP, point ID) lower (R231)? -/
def keyLt (s1 : DWord) (p1 : Nat) (s2 : DWord) (p2 : Nat) : Bool :=
  decide (s1.toNat < s2.toNat) || (decide (s1 = s2) && decide (p1 < p2))

/-- The first-out rule for a candidate (R231). The engine tick is 1 µs. -/
def candidate (s : State) (g pid : Nat) (stamp : DWord) : State :=
  let h := grpHdr s g
  if !(gEn s g && bit (gCfg s g) 1) then s
  else if h.fo = 0#2 then
    sendGroup (setGrpHdr s g { h with fo := 1#2, foId := pid, foStamp := stamp, late := 0#8, opened := time64 s,
                                      closeAt := s.now / 1000 + 100 * cfg s lGRP 0x100 9 0 }) g 1 pid stamp
  else if !keyLt stamp pid h.foStamp h.foId then s
  else if h.fo = 1#2 then sendGroup (setGrpHdr s g { h with foId := pid, foStamp := stamp }) g 1 pid stamp
  else
    let s := countUp (setGrpHdr s g { h with late := BitVec.ofNat 8 (satInc 8 h.late.toNat) }) lGRP 0x144 0 32
    if s.grp.master then passDecision (sendGroup s g 3 pid stamp) g 3 pid stamp h.opened else s

/-- The episode ends when no member is left (R231). -/
def quietIf (s : State) (g : Nat) : State :=
  let h := grpHdr s g
  if h.fo ≠ 0#2 ∧ h.ua + h.aa + h.ur + h.sup = 0 then
    setGrpHdr (setFo s h.foId false) g { h with fo := 0#2, masterFinal := false } else s

/-- Write a mirror entry, in the order of R218: entry, counts, cause rule, first-out rule. `cand` is false for a snapshot (R221). -/
def ingest (s : State) (pid e : Nat) (stamp : DWord) (cand : Bool) : State :=
  let old := mirrorAt s pid
  let keep := meFo old && meValid e && decide (meGroup old = meGroup e) && meGrpEn old == meGrpEn e
  let e := if keep && !meFo e then e + 64 else e
  let gs := (if meValid old && meGrpEn old then [meGroup old] else []) ++
            (if meValid e && meGrpEn e && !(meValid old && meGrpEn old && decide (meGroup old = meGroup e)) then [meGroup e] else [])
  let s0 := s
  let s := countEntry (countEntry (putMirror s pid e) old false) e true
  let s := gs.foldl (fun t g => tellGroup t s0 g) s
  let s := causeRule s pid e
  let s := if cand && meValid e && meGrpEn e && decide (meState e = 1) && !(meValid old && decide (meInst old = meInst e))
    then candidate s (meGroup e) pid stamp else s
  gs.foldl quietIf s

/-- The header of a message (R235); a standby's carries the SEQ last learned from its duty (R223). -/
def alarmHeader (s : State) (typ len : Nat) : List Byte :=
  leBytes 1 1 ++ leBytes 1 typ ++ leBytes 2 len ++ leBytes 2 (nodeId s + 0x8000 * ownMember s) ++ leBytes 2 (ownPair s) ++
  leBytes 4 s.grp.session.toNat ++ leBytes 4 (if standby s then s.rope.evtSeq else s.grp.seq).toNat ++ leBytes 8 (time64 s).toNat

/-- Send a message: event messages to the group of MCAST, SYNC_REQ and snapshots to that address plus 1, from and to UDP_CFG.PORT (R235).
NODE_HB, CLAIM and YIELD go to the group of MCAST (DEDUCED, log entry 76). -/
def sendAlarm (s : State) (typ : Nat) (body : List Byte) : State :=
  if !domOn s dNET then dropAbsent s lGRP
  else
    let group := reg s lGRP 0x110 + (if 4 ≤ typ ∧ typ ≤ 6 then 1#32 else 0#32)
    { s with out := s.out ++ [.alarm group (BitVec.ofNat 16 (cfg s lGRP 0x10C 15 0)) (alarmHeader s typ (24 + body.length) ++ body)] }

/-- SYNC_REQ for a node, or for all with 0xFFFF (R221, R236). -/
def sendSyncReq (s : State) (n : Nat) : State := sendAlarm s 4 (leBytes 2 n ++ [0#8, 0#8])

/-- Ask a peer for a snapshot. -/
def askNode (s : State) (n : Nat) : State :=
  sendSyncReq (setNode s n { node s n with resync := true, asked := true, mark := none }) n

/-- Mark a peer for resynchronisation, on account of a message with this SEQ (R221, R502). -/
def markNode (s : State) (n : Nat) (seq : Word) : State :=
  let v := node s n
  if v.asked then
    setNode s n { v with mark := (match v.mark with | some m => some (if 0 < sInt32 (seq - m) then seq else m) | none => some seq) }
  else askNode s n

/-- The member whose heartbeat speaks for a node (R223). -/
def mergedMember (s : State) (v : Node) : Member :=
  let tmo := 1000000 * cfg s lGRP 0x108 15 0
  let inTime (m : Member) : Bool := match m.at0 with | some t => decide (s.now - t ≤ tmo) | none => false
  if inTime v.m0 && cbit v.m0.flags 0 then v.m0 else if inTime v.m1 && cbit v.m1.flags 0 then v.m1
  else if inTime v.m0 && cbit v.m0.flags 3 then v.m0 else if inTime v.m1 && cbit v.m1.flags 3 then v.m1
  else if v.last1 then v.m1 else v.m0

/-- Is this node eligible for the master role (R233)? -/
def eligible (s : State) : Bool :=
  alive s lGRP && decide (0 < masterPrio s) && grpSynced s && !s.pwr.degraded && !s.grp.yielded && s.pwr.released &&
  (s.rope.role = 0#3 || s.rope.role = 5#3)

/-- Is a peer a live eligible node? -/
def peerEligible (s : State) (v : Node) : Bool :=
  let m := mergedMember s v
  nodeLive v && cbit m.flags 3 && !cbit m.flags 1

/-- Rank: higher MASTER_PRIO first, then lower node ID (R233). -/
def ranksAbove (p1 n1 p2 n2 : Nat) : Bool := decide (p2 < p1) || (decide (p1 = p2) && decide (n1 < n2))

/-- The rank of a node known by ID. -/
def prioOfNode (s : State) (n : Nat) : Nat := if n = nodeId s then masterPrio s else (mergedMember s (node s n)).prio.toNat

/-- Does this node rank first among the live eligible nodes (R233)? -/
def ranksFirst (s : State) : Bool :=
  s.grp.nodes.all (fun e => !peerEligible s e.2 || ranksAbove (masterPrio s) (nodeId s) (mergedMember s e.2).prio.toNat e.1)

/-- NODE_HB (R222, R236). -/
def sendHb (s : State) : State :=
  sendAlarm s 0x10 (leBytes 1 (masterPrio s) ++
    leBytes 1 (b2n s.grp.master + 2 * b2n s.pwr.degraded + 4 * b2n (grpSynced s) + 8 * b2n (eligible s)) ++
    leBytes 2 (s.grp.masterNode.getD 0xFFFF) ++ [0#8, 0#8, 0#8, 0#8])

/-- MASTER_NODE changes; a master that accepts another gives up the role (R233). -/
def setMaster (s : State) (n : Option Nat) : State :=
  if s.grp.masterNode = n then s
  else raise { s with grp := { s.grp with masterNode := n, master := s.grp.master && decide (n = some (nodeId s)) } } lGRP 2

/-- The role changes that follow from what the node knows (R233 steps 1 and 5). -/
def election (s : State) : State :=
  let s := if s.grp.master && !eligible s then
      sendHb (setMaster { s with grp := { s.grp with master := false } } none) else s
  { s with grp := { s.grp with claimWait := s.grp.masterNode.isNone && eligible s && ranksFirst s } }

/-- FINAL for every group that the shadow holds CLOSED (R234); an engine that does not run decides nothing, and does so when it runs again
(R239). -/
def roleFinals (s : State) : State :=
  if !grpRuns s then { s with grp := { s.grp with finalsDue := true } }
  else (s.grp.grps.filter (fun e => decide (e.2.fo = 2#2))).foldl (fun t e => masterFinal t e.1)
    { s with grp := { s.grp with finalsDue := false } }

/-- The node sends CLAIM and takes the role (R233, R234). -/
def takeRole (s : State) : State :=
  let s := sendAlarm s 0x11 (leBytes 1 (masterPrio s) ++ [0#8, 0#8, 0#8])
  let s := setMaster { s with grp := { s.grp with claimWait := false, master := true } } (some (nodeId s))
  roleFinals { s with grp := { s.grp with master := true } }

/-- A node offers itself as master by CLAIM or by a heartbeat with MASTER = 1 (R233 step 2). -/
def offerMaster (s : State) (n prio : Nat) : State :=
  match s.grp.masterNode with
  | none => setMaster s (some n)
  | some m => if ranksAbove prio n (prioOfNode s m) m then setMaster s (some n) else s

/-- An acknowledgement record is applied to the node's own points, as source 8 (R200, R238). -/
def applyAck (s : State) (b : List Byte) : State :=
  let target := leNat ((b.drop 4).take 4)
  let arg := BitVec.ofNat 64 (leNat ((b.drop 8).take 8))
  match (b.headD 0#8).toNat with
  | 1 => if bitsOf target 22 11 = nodeId s then
      galCommand s { src := 8, op := 1, target := bitsOf target 10 0, arg := BitVec.ofNat 32 (arg.toNat % 256) } else s
  | 2 => galCommand s { src := 8, op := 2, target := bitsOf target 15 0, before := arg }
  | _ => s

/-- A group record from MASTER_NODE (R231, R232). -/
def applyGroup (s : State) (n : Nat) (b : List Byte) : State :=
  if s.grp.masterNode ≠ some n then s else
  let g := leNat (b.take 2)
  let kind := leNat ((b.drop 2).take 1)
  let pid := bitsOf (leNat ((b.drop 4).take 4)) 22 0
  let stamp := BitVec.ofNat 64 (leNat ((b.drop 8).take 8))
  let opened := BitVec.ofNat 64 (leNat ((b.drop 16).take 8))
  let h := grpHdr s g
  if kind = 2 ∧ h.fo ≠ 0#2 then
    let s := setFo s h.foId false
    let s := setGrpHdr s g { h with foId := pid, foStamp := stamp, fo := 2#2, masterFinal := true }
    passDecision (setFo s pid true) g 2 pid stamp opened
  else if kind = 3 then passDecision s g 3 pid stamp opened
  else s

/-- SYNC_END: NORM for every published index that the snapshot did not name, nothing known of the others (R221). The snapshot is the last
`count` snapshot records before it, so one that broke off before names nothing. -/
def applySyncEnd (s : State) (n count : Nat) (bitmap : List Byte) : State :=
  let named := (node s n).named.take count
  let s := (List.range galPoints).foldl (fun t i =>
    let pid := 2048 * n + i
    let e := mirrorAt t pid
    if cbit (bitmap.getD (i / 8) 0#8) (i % 8) then
      (if named.contains i then t
       else
         let e' := mirrorEntry 0 (mePrio e) false (meFo e) (meGrpEn e) (meInst e) (meGroup e) (1000000 * bitsOf e 62 32)
         if e' = e then t else ingest t pid e' 0#64 false)
    else if meValid e then ingest t pid 0 0#64 false else t) s
  election (setNode s n { node s n with syncDone := true, named := [] })

/-- The entry a point record spells (R215, R237). -/
def entryOfRec (b : List Byte) : Nat :=
  let sp := leNat ((b.drop 2).take 1)
  mirrorEntry (bitsOf sp 2 0) (bitsOf sp 4 3) (sp.testBit 5) false (sp.testBit 6) (leNat ((b.drop 3).take 1))
    (leNat ((b.drop 4).take 2)) (leNat ((b.drop 8).take 8))

/-- GRP_INGEST_RECORD (R218): the oldest local change item, else the oldest record of the queue. -/
def execGrpIngestRecord (s : State) : Host.Outcome State Fault Refusal :=
  done (if !grpRuns s then s else
    let s1 := setReg s lGRP 0x138 (reg s lGRP 0x138 + 1#32)
    match s.grp.locals, s.grp.inq with
    | c :: rest, _ =>
      ingest { s1 with grp := { s1.grp with locals := rest } } (2048 * nodeId s + c.index)
        (mirrorEntry c.st.toNat c.prio.toNat (c.act ≠ 0#8) false c.grpEn c.inst.toNat c.group.toNat c.stamp.toNat) c.stamp true
    | [], m :: rest =>
      let s1 := { s1 with grp := { s1.grp with inq := rest } }
      (match m with
        | .point n snap b =>
          let i := bitsOf (leNat (b.take 2)) 10 0
          let s1 := if snap then setNode s1 n { node s1 n with named := i :: (node s1 n).named } else s1
          ingest s1 (2048 * n + i) (entryOfRec b) (BitVec.ofNat 64 (leNat ((b.drop 8).take 8))) (!snap)
        | .group n b => applyGroup s1 n b
        | .ack b => applyAck s1 b
        | .syncEnd n k bm => applySyncEnd s1 n k bm)
    | [], [] => s)

/-- A hold ends: the list is walked again to subtract (R228). -/
def endHold (s : State) (pid : Nat) : State :=
  match causeOf s pid with
  | some i => walk (setCstate s pid 0#2) i false false
  | none => setCstate s pid 0#2

/-- CAUSE_HOLD_EXPIRY (R228, R239). -/
def execCauseHoldExpiry (cause : BitVec 23) (s : State) : Host.Outcome State Fault Refusal :=
  let p := cause.toNat
  done (if cstate s p ≠ 2#2 ∨ alive s lGRP = false then s
    else if grpRuns s then endHold s p
    else setCstate { s with grp := { s.grp with due := s.grp.due ++ [(true, p)] } } p 3#2)

/-- A window closes (R231). -/
def closeWindow (s : State) (g : Nat) : State :=
  let h := grpHdr s g
  if h.fo = 1#2 then
    let s := setGrpHdr s g { h with fo := 2#2 }
    if s.grp.master then masterFinal s g else s
  else s

/-- FO_WINDOW_CLOSE (R231, R239). -/
def execFoWindowClose (group : BitVec 16) (s : State) : Host.Outcome State Fault Refusal :=
  let g := group.toNat
  done (if (grpHdr s g).fo ≠ 1#2 ∨ alive s lGRP = false then s
    else if grpRuns s then closeWindow s g
    else if s.grp.due.contains (false, g) then s
    else { s with grp := { s.grp with due := s.grp.due ++ [(false, g)] } })

/-- GRP_VERDICT_REQUEST (R204, R229): the oldest request is answered from the counts as they stand. -/
def execGrpVerdictRequest (s : State) : Host.Outcome State Fault Refusal :=
  done (match s.gal.vreq with
    | p :: rest =>
      if works s lGRP && !(hdr s lGRP).freeze then
        let v := suppressed s p
        { s with
          gal := { s.gal with vreq := rest, vans := s.gal.vans ++ [(p, v)] }
          grp := { s.grp with sent := if v then tset s.grp.sent p true false else s.grp.sent } }
      else s
    | [] => s)

/-- How many bytes a body of a TYPE may have (R236). -/
def bodyOk (typ n : Nat) : Bool :=
  match typ with
  | 1 | 3 | 5 => decide (n % 16 = 0) && decide (16 ≤ n) && decide (n ≤ 1440)
  | 2 => decide (n % 24 = 0) && decide (24 ≤ n) && decide (n ≤ 1440)
  | 4 | 0x11 | 0x12 => decide (n = 4)
  | 6 => decide (n = 260)
  | 0x10 => decide (n = 8)
  | _ => false

/-- Cut a list into pieces of `n` bytes. -/
def pieces (n : Nat) : Nat → List Byte → List (List Byte)
  | 0, _ => []
  | f + 1, l => if l.isEmpty then [] else l.take n :: pieces n f (l.drop n)

/-- The records of an event message, for the queue. -/
def recordsOf (n typ : Nat) (body : List Byte) : List NetIn :=
  match typ with
  | 1 => (pieces 16 90 body).map (.point n false)
  | 5 => (pieces 16 90 body).map (.point n true)
  | 2 => (pieces 24 60 body).map (.group n)
  | 3 => (pieces 16 90 body).map .ack
  | _ => [.syncEnd n (leNat (body.take 2)) (body.drop 4)]

/-- Has the ingest queue room for the records of a message (R218, R220)? -/
def inqRoom (s : State) (l : List NetIn) : Bool := decide (s.grp.inq.length + l.length ≤ 16384)

/-- The records of a message join the ingest queue; where one finds it full, all of the message are dropped and counted (R220). -/
def enqueueNet (s : State) (n : Nat) (seq : Word) (l : List NetIn) : State :=
  if inqRoom s l then
    let q := s.grp.inq ++ l
    { s with grp := { s.grp with inq := q, peak := max s.grp.peak q.length } }
  else
    let s := l.foldl (fun t _ => countUp t lGRP 0x13C 0 32) s
    markNode (raise s lGRP 6) n seq

/-- A SYNC_END with this SEQ answers the request to a peer (R502): a mark that a later message made stands, and asks again at once. -/
def syncAnswered (s : State) (n : Nat) (seq : Word) : State :=
  let v := node s n
  match v.mark with
  | some m => if 0 < sInt32 (m - seq) then sendSyncReq (setNode s n { v with mark := none }) n
      else setNode s n { v with asked := false, mark := none, resync := false }
  | none => setNode s n { v with asked := false, resync := false }

/-- An event message of a peer, checked by SESSION and SEQ (R219). A SYNC_END that is taken answers the request that was outstanding as it
came (R502); one that the full queue drops answers none (R220). -/
def rxEvent (s : State) (n typ : Nat) (session seq : Word) (body : List Byte) : State :=
  let v := node s n
  let d := sInt32 (seq - v.seq)
  if v.known && decide (v.session = session) && decide (d ≤ 0) then s
  else
    let isNew := !v.known || decide (v.session ≠ session)
    let gap := !isNew && decide (1 < d)
    let l := recordsOf n typ body
    let ends := decide (typ = 6) && inqRoom s l
    let s := setNode s n { v with known := true, session := session, seq := seq }
    let s := if gap then raise (countUp s lGRP 0x140 0 32) lGRP 5 else s
    let s := if isNew || gap then markNode s n seq else s
    let s := enqueueNet s n seq l
    let s := if ends then { s with grp := { s.grp with allAsked := false } } else s
    if ends && v.asked then syncAnswered s n seq else s

/-- A heartbeat (R222, R223, R233). -/
def rxHb (s : State) (n member : Nat) (session seq : Word) (body : List Byte) : State :=
  let v := node s n
  let m : Member := { at0 := some s.now, prio := body.getD 0 0#8, flags := body.getD 1 0#8,
                      master := BitVec.ofNat 16 (leNat ((body.drop 2).take 2)) }
  let back := v.lost
  let v := { v with lost := false, last1 := decide (member = 1),
                    m0 := if member = 0 then m else v.m0, m1 := if member = 1 then m else v.m1 }
  let s := setNode s n v
  let speaks := decide (mergedMember s v = m)
  let behind := (v.known && decide (v.session ≠ session)) || decide (0 < sInt32 (seq - v.seq))
  let s := if back then raise s lGRP 4 else s
  let s := if back || (speaks && behind) then markNode s n seq else s
  let mm := mergedMember s (node s n)
  let ok := cbit mm.flags 3 && !cbit mm.flags 1
  let s := if s.grp.masterNode = some n ∧ !ok then setMaster s none
    else if cbit mm.flags 0 && ok then offerMaster s n mm.prio.toNat else s
  election s

/-- A peer is heard for the first time while the request to all nodes is outstanding: it counts as asked (R502). -/
def nodeSeen (s : State) (n : Nat) (pair : BitVec 16) : State :=
  let v := node s n
  let fresh := !v.seen && s.grp.allAsked
  setNode s n { v with seen := true, pairId := pair, resync := v.resync || fresh, asked := v.asked || fresh }

/-- A member that yields offers the node no longer, until its next heartbeat (R234). -/
def yieldBy (v : Node) (member : Nat) : Node :=
  let off (m : Member) : Member := { m with flags := cput (cput m.flags 0 false) 3 false }
  if member = 1 then { v with m1 := off v.m1 } else { v with m0 := off v.m0 }

/-- A message of the alarm transport (R235): bad ones are counted; one with the receiver's own node ID is discarded (R219). A node that is
no longer SYNCED because of it gives up the role at once (R233 step 5). -/
def rxAlarm (s : State) (b : List Byte) : State :=
  if !(domOn s dNET && alive s lGRP) then s else
  let typ := leNat ((b.drop 1).take 1)
  let body := b.drop 24
  if b.length < 24 ∨ leNat (b.take 1) ≠ 1 ∨ leNat ((b.drop 2).take 2) ≠ b.length ∨ !bodyOk typ body.length then
    countUp s lGRP 0x14C 0 32
  else
    let nw := leNat ((b.drop 4).take 2)
    let n := bitsOf nw 11 0
    let pair := leNat ((b.drop 6).take 2)
    let session := BitVec.ofNat 32 (leNat ((b.drop 8).take 4))
    let seq := BitVec.ofNat 32 (leNat ((b.drop 12).take 4))
    if n = nodeId s then raiseIf (decide (pair = 0) || decide (pair ≠ ownPair s)) s lGRP 7
    else
      let s := nodeSeen s n (BitVec.ofNat 16 pair)
      election (
      match typ with
      | 4 => let r := leNat (body.take 2)
             if (r = 0xFFFF ∨ r = nodeId s) ∧ !standby s then { s with grp := { s.grp with snapDue := true } } else s
      | 0x10 => rxHb s n (bitsOf nw 15 15) session seq body
      | 0x11 => offerMaster s n (leNat (body.take 1))
      | 0x12 =>
        let s := setNode s n (yieldBy (node s n) (bitsOf nw 15 15))
        let s := if s.grp.masterNode = some n then setMaster s none else s
        if leNat (body.take 2) = nodeId s ∧ eligible s then takeRole s else s
      | _ => rxEvent s n typ session seq body)

/-- The receipt of each message type (R219 to R223, R231 to R238). -/
def execPointChgRx (msg : NetMsg) (s : State) : Host.Outcome State Fault Refusal := done (rxAlarm s msg)
def execGroupFoRx (msg : NetMsg) (s : State) : Host.Outcome State Fault Refusal := done (rxAlarm s msg)
def execNetAckRx (msg : NetMsg) (s : State) : Host.Outcome State Fault Refusal := done (rxAlarm s msg)
def execSyncReqRx (msg : NetMsg) (s : State) : Host.Outcome State Fault Refusal := done (rxAlarm s msg)
def execSyncDataRx (msg : NetMsg) (s : State) : Host.Outcome State Fault Refusal := done (rxAlarm s msg)
def execSyncEndRx (msg : NetMsg) (s : State) : Host.Outcome State Fault Refusal := done (rxAlarm s msg)
def execNodeHbRx (msg : NetMsg) (s : State) : Host.Outcome State Fault Refusal := done (rxAlarm s msg)
def execClaimRx (msg : NetMsg) (s : State) : Host.Outcome State Fault Refusal := done (rxAlarm s msg)
def execYieldRx (msg : NetMsg) (s : State) : Host.Outcome State Fault Refusal := done (rxAlarm s msg)

/-- Records of one TYPE from the front of the transmit queue, as many as one message holds (R236). -/
def txTake (l : List TxRec) : List TxRec :=
  match l with
  | [] => []
  | r :: _ => (l.takeWhile (fun x => decide (x.typ = r.typ))).take (if r.typ = 2 then 60 else if r.typ = 6 then 1 else 90)

/-- LONIEVO_SEND (R235, R236, R238): the transmitter is free and sends one event message; its own acknowledgement records are applied
to its own points. -/
def execLonievoSend (s : State) : Host.Outcome State Fault Refusal :=
  done (if !(publishes s && alive s lGRP && domOn s dNET) then s else
    match s.grp.txq with
    | [] => s
    | r :: _ =>
      let l := txTake s.grp.txq
      let s := { s with grp := { s.grp with txq := s.grp.txq.drop l.length, seq := s.grp.seq + 1#32 } }
      let s := sendAlarm s r.typ (l.flatMap (·.body))
      if r.typ = 3 then l.foldl (fun t x => applyAck t x.body) s else s)

/-- NODE_HB_SEND (R222, R240): every 100 ms, in degraded mode too. -/
def execNodeHbSend (s : State) : Host.Outcome State Fault Refusal :=
  done (if (hdr s lGRP).en && unitOn s lGRP && domOn s dNET && decide (s.pwr.phase ≠ .powerFail) then sendHb (election s) else s)

/-- SYNC_REQ_RETRY (R502): 200 ms without a SYNC_END, every outstanding request is sent again until its peer is lost; the one to all nodes
as long as no node has been heard. -/
def execSyncReqRetry (s : State) : Host.Outcome State Fault Refusal :=
  done (if alive s lGRP then
    let t := if s.grp.allAsked && s.grp.nodes.all (fun e => !e.2.seen) then sendSyncReq s 0xFFFF else s
    (s.grp.nodes.filter (fun e => e.2.asked && !e.2.lost)).foldl (fun t e => sendSyncReq t e.1) t
  else s)

/-- The point record of a snapshot (R221, R237). -/
def snapRec (p : Nat) (pt : Point) : List Byte :=
  let o := pt.core
  leBytes 2 p ++ leBytes 1 (o.st.toNat + 8 * o.prio.toNat + 32 * b2n (o.a ≠ 0#8) + 64 * b2n (dGrpEn pt.desc)) ++ [o.inst] ++
  leBytes 2 (dGroup pt.desc) ++ [o.a] ++ leBytes 1 pt.itCause ++ leBytes 8 pt.itStamp.toNat

/-- SYNC_SNAPSHOT_SEND (R221, R240): SYNC_DATA for each published point not in NORM, then SYNC_END with the bitmap. -/
def execSyncSnapshotSend (s : State) : Host.Outcome State Fault Refusal :=
  done (if s.grp.snapDue && publishes s && alive s lGRP then
    let pub := s.gal.pts.filter (fun e => dEn e.2.desc && dFlag e.2.desc 0)
    let recs := (pub.filter (fun e => decide (e.2.core.st ≠ 0#3))).map (fun e => TxRec.mk 5 (snapRec e.1 e.2))
    let bm := (List.range 256).map (fun i =>
      (List.range 8).foldl (fun b k => if pub.any (fun e => decide (e.1 = 8 * i + k)) then cput b k true else b) 0#8)
    { s with grp := { s.grp with snapDue := false,
                                 txq := s.grp.txq ++ recs ++ [TxRec.mk 6 (leBytes 2 recs.length ++ [0#8, 0#8] ++ bm)] } }
  else s)

/-- NODE_LOST (R222, R228, R233): no heartbeat for NODE_TMO; with LOST_REL its causes stop asserting. -/
def execNodeLost (node : BitVec 12) (s : State) : Host.Outcome State Fault Refusal :=
  let n := node.toNat
  let v := tget s.grp.nodes n {}
  done (if !alive s lGRP || !v.seen || v.lost then s else
    let s := raise (setNode s n { v with lost := true, asked := false, mark := none, m0 := { v.m0 with at0 := none }, m1 := { v.m1 with at0 := none } }) lGRP 3
    let s := if cfgBit s lGRP 0x100 16 then
        (s.grp.cstate.filter (fun e => decide (e.2 = 1#2) && decide (e.1 / 2048 = n))).foldl (fun t e =>
          match causeOf t e.1 with | some i => releaseCause t e.1 i | none => t) s
      else s
    let s := if s.grp.masterNode = some n then setMaster s none else s
    election s)

/-- SYNC_TMO_EXPIRY (R222). -/
def execSyncTmoExpiry (s : State) : Host.Outcome State Fault Refusal :=
  done (if alive s lGRP && s.grp.started then election { s with grp := { s.grp with syncTmo := true } } else s)

/-- MASTER_CLAIM_WAIT_EXPIRY (R233 step 1, R234). -/
def execMasterClaimWaitExpiry (s : State) : Host.Outcome State Fault Refusal :=
  done (if s.grp.claimWait && s.grp.masterNode.isNone && eligible s && ranksFirst s then takeRole s else s)

/-- The live eligible peer that ranks first. -/
def nextMaster (s : State) : Option Nat :=
  (s.grp.nodes.filter (fun e => peerEligible s e.2)).foldl (fun b e => match b with
    | some n => if ranksAbove (mergedMember s e.2).prio.toNat e.1 (prioOfNode s n) n then some e.1 else b
    | none => some e.1) none

/-- MASTER_YIELD (R234): a write of MASTER_CMD. -/
def masterYield (s : State) : State :=
  if !alive s lGRP then s else
  let next := nextMaster s
  let s := match next, s.grp.master with
    | some n, true => sendAlarm s 0x12 (leBytes 2 n ++ [0#8, 0#8])
    | _, _ => s
  election { s with grp := { s.grp with yielded := true } }
def execMasterYield (ctx : Ctx) (s : State) : Host.Outcome State Fault Refusal :=
  done (ownerWrite s ctx lGRP 0x12C masterYield)

/-- MASTER_REJOIN (R234). -/
def masterRejoin (s : State) : State :=
  if s.grp.yielded then election { s with grp := { s.grp with yielded := false } } else s
def execMasterRejoin (ctx : Ctx) (s : State) : Host.Outcome State Fault Refusal :=
  done (ownerWrite s ctx lGRP 0x12C masterRejoin)

/-- MASTER_RESYNC (R241): every peer is asked for a snapshot. -/
def masterResync (s : State) : State :=
  if !alive s lGRP then s else
  let s := (s.grp.nodes.filter (fun e => e.2.seen && !e.2.lost)).foldl (fun t e =>
    setNode t e.1 { node t e.1 with resync := true, asked := true, mark := none }) s
  sendSyncReq s 0xFFFF
def execMasterResync (ctx : Ctx) (s : State) : Host.Outcome State Fault Refusal :=
  done (ownerWrite s ctx lGRP 0x12C masterResync)

/-- Does an acknowledgement of a context wait to be sent (NACK_STAT.BUSY)? -/
def nackBusy (s : State) (x : Nat) : Bool :=
  s.grp.txq.any (fun r => decide (r.typ = 3) && decide (leNat ((r.body.drop 1).take 1) = x))

/-- NACK_OP queues an acknowledgement record (R238, R240); only CTX_x may write NACK_x. -/
def nackWrite (s : State) (x ctx : Ctx) (form : Nat) (value : Word) : State :=
  let b := 0x200 + 0x20 * x.toNat
  ctxWrite s x ctx lGRP b (fun s =>
    if nackBusy s x.toNat then capture s lGRP ctx true 0x8 b
    else if !alive s lGRP then s
    else { s with grp := { s.grp with txq := s.grp.txq ++ [⟨3, leBytes 1 form ++ leBytes 1 x.toNat ++ [0#8, 0#8] ++
      leBytes 4 (fld value 31 8) ++ leBytes 4 (reg s lGRP (b + 8)).toNat ++ leBytes 4 (reg s lGRP (b + 12)).toNat⟩] } })
def execNackAckPoint (x ctx : Ctx) (value : Word) (s : State) : Host.Outcome State Fault Refusal := done (nackWrite s x ctx 1 value)
def execNackAckGroup (x ctx : Ctx) (value : Word) (s : State) : Host.Outcome State Fault Refusal := done (nackWrite s x ctx 2 value)

/-- CAUSE_ADDR increments under AUTOINC: WORD, then ENTRY (R241). -/
def causeNext (s : State) : State :=
  if cfgBit s lGRP 0x124 31 then
    let n := (4 * cfg s lGRP 0x124 15 0 + cfg s lGRP 0x124 17 16 + 1) % 262144
    setReg s lGRP 0x124 (BitVec.ofNat 32 (0x80000000 + n / 4 + 0x10000 * (n % 4))) else s
def causeKey (s : State) : Nat := 4 * cfg s lGRP 0x124 15 0 + cfg s lGRP 0x124 17 16
def causeWrite (s : State) (ctx : Ctx) (value : Word) : State :=
  if (hdr s lGRP).frozen then
    causeNext { s with grp := { s.grp with causes := tset s.grp.causes (causeKey s) value 0#32 } }
  else capture s lGRP ctx true 0x8 0x128
def causeReadWord (s : State) : Word := tget s.grp.causes (causeKey s) 0#32
def causeRead (s : State) : State := causeNext (answer s (causeReadWord s).toNat)

/-- CAUSE_DATA_ACCESS (R226, R230, R241): a write changes the table only while frozen. -/
def execCauseDataAccess (ctx : Ctx) (write : Bool) (value : Word) (s : State) : Host.Outcome State Fault Refusal :=
  done (if write then ownerWrite s ctx lGRP 0x128 (fun s => causeWrite s ctx value) else readAccess s ctx lGRP 0x128 causeRead)

/-- GRAPH_REGION_WRITE (R227, R230, R499): a write of an edge word, taken only while frozen, from CTX_0 or CTX_1. While PD_DRAM is
off it is a bus error that changes nothing (R495). -/
def graphRegionWrite (s : State) (ctx : Ctx) (edge : Nat) (value : Word) : State :=
  if (hdr s lGRP).frozen && decide (ctx.toNat ≤ 1) then { s with mem := msetLE s.mem (graphBase s + 4 * edge) 4 value.toNat }
  else capture s lGRP ctx true 0x8 0
def execGraphRegionWrite (ctx : Ctx) (edge : BitVec 24) (value : Word) (s : State) : Host.Outcome State Fault Refusal :=
  done (if pathOk s ctx && unitOn s lGRP && domOn s dDRAM && s.pinLocked && decide (4 * edge.toNat + 4 ≤ graphSize s) then graphRegionWrite s ctx edge.toNat value else s)

/-- MIRROR_WRITE_ATTEMPT (R216, R499): discarded and captured. While PD_DRAM is off it is a bus error that changes nothing (R495). -/
def execMirrorWriteAttempt (ctx : Ctx) (_word : BitVec 24) (_value : Word) (s : State) : Host.Outcome State Fault Refusal :=
  done (if pathOk s ctx && unitOn s lGRP && domOn s dDRAM && s.pinLocked then capture s lGRP ctx true 0x8 0 else s)

/-- Rebuild the suppression counts (R230), at enable and when FREEZE clears: check, clear, and walk every cause that asserts or whose
hold runs. -/
def rebuildStart (s : State) : State :=
  let s := graphCheck s
  let g := (s.grp.grps.map (fun e => (e.1, { e.2 with supc := 0 }))).filter (fun e => decide (e.2 ≠ ({} : GrpHdr)))
  let s := { s with grp := { s.grp with rebuild := true, lsup := [], grps := g } }
  let old := s.grp.cstate
  let s := { s with grp := { s.grp with cstate := [] } }
  (List.range (causeCnt s)).foldl (fun t i =>
    let pid := fld (causeW t i 0) 22 0
    let lost := cfgBit t lGRP 0x100 16 && (node t (pid / 2048)).lost
    if (causeOf t pid) ≠ some i then t
    else if asserts (mirrorAt t pid) && !lost then walk (setCstate t pid 1#2) i true true
    else if tget old pid 0#2 = 0#2 then t
    else walk (setCstate t pid (if tget old pid 0#2 = 1#2 then 2#2 else tget old pid 0#2)) i true true) s

/-- GRP_REBUILD_DONE (R230, R239): holds and windows that fell due are applied in order, then the SUP changes are sent. -/
def execGrpRebuildDone (s : State) : Host.Outcome State Fault Refusal :=
  done (if s.grp.rebuild && works s lGRP then
    let due := s.grp.due
    let s := { s with grp := { s.grp with rebuild := false, due := [] } }
    let s := due.foldl (fun t d => if d.1 then (if cstate t d.2 = 3#2 then endHold t d.2 else t) else closeWindow t d.2) s
    let s := if s.grp.finalsDue && s.grp.master then roleFinals s else { s with grp := { s.grp with finalsDue := false } }
    (s.gal.pts.map (·.1)).foldl supRefresh s
  else s)

/-- A node joins the ring: SYNC_REQ for all nodes, and SYNC_TMO counts (R221, R222, R240). -/
def grpJoined (s : State) : State :=
  if alive s lGRP && !s.grp.started then sendSyncReq { s with grp := { s.grp with started := true, allAsked := true } } 0xFFFF else s

/-- The counts are wiped: Echo is told of each group whose term falls (R245). -/
def termsOff (s : State) : State :=
  s.grp.grps.foldl (fun t e =>
    if gTerm s e.1 && decide (gCall s e.1 ≠ 0xFF) && !standby s then toEcho t (.group e.1 (gCall s e.1) false false) else t) s

/-- The engine is enabled (R230, R240): a new SESSION, an empty mirror, no count, no master. -/
def grpEnable (s : State) (ringUp : Bool) : State :=
  let (w, s) := draw (termsOff s)
  let s := { s with
    mem := mwipe s.mem (mirrorBase s) (mirrorBase s + (if s.pinLocked then 0x4000000 else 0))
    grp := { ({} : Grp) with causes := s.grp.causes, session := w, sent := s.grp.sent, supq := s.grp.supq } }
  let s := rebuildStart s
  if ringUp then grpJoined s else s

/-- A soft reset (R497): the cause table and the group configurations stay; the engine starts as at enable, with a new SESSION. -/
def grpSoftReset (s : State) : State :=
  let (w, s) := draw (termsOff s)
  { s with
    mem := mwipe s.mem (mirrorBase s) (mirrorBase s + (if s.pinLocked then 0x4000000 else 0))
    grp := { ({} : Grp) with causes := s.grp.causes, session := w, sent := s.grp.sent, supq := s.grp.supq } }

/-- GRP_SEL latches a group's status registers from one instant (R241). -/
def latchGroup (s : State) (g : Nat) : State :=
  let h := grpHdr s g
  let s := setReg s lGRP 0x16C (BitVec.ofNat 32 (h.fo.toNat + 4 * b2n h.masterFinal + 256 * h.late.toNat))
  let s := setReg s lGRP 0x170 (BitVec.ofNat 32 (h.ua + 0x10000 * h.aa))
  let s := setReg s lGRP 0x174 (BitVec.ofNat 32 (h.ur + 0x10000 * h.sup))
  let s := setReg (setReg s lGRP 0x178 (BitVec.ofNat 32 h.foId)) lGRP 0x17C (BitVec.ofNat 32 h.supc)
  setReg64 s lGRP 0x180 h.foStamp
def execGrpSel (ctx : Ctx) (value : Word) (s : State) : Host.Outcome State Fault Refusal :=
  done (ownerWrite s ctx lGRP 0x160 (fun s => latchGroup (setReg s lGRP 0x160 (value &&& 0xFFFF#32)) (fld value 15 0)))

/-- NODE_SEL latches a node's status registers (R241). -/
def latchNode (s : State) (n : Nat) : State :=
  let v := node s n
  let m := mergedMember s v
  let w := b2n v.seen + 2 * b2n v.lost + 4 * b2n v.resync + 8 * b2n v.syncDone + 16 * b2n (cbit m.flags 1) + 32 * b2n (cbit m.flags 0) +
    256 * m.prio.toNat + 0x10000 * v.pairId.toNat
  setReg (setReg (setReg s lGRP 0x18C (BitVec.ofNat 32 w)) lGRP 0x190 v.seq) lGRP 0x194 v.session
def execNodeSel (ctx : Ctx) (value : Word) (s : State) : Host.Outcome State Fault Refusal :=
  done (ownerWrite s ctx lGRP 0x188 (fun s => latchNode (setReg s lGRP 0x188 (value &&& 0xFFF#32)) (fld value 11 0)))

/-- LSUP_SEL latches a local point's suppression state (R241). -/
def latchLsup (s : State) (p : Nat) : State :=
  let sent := tget s.grp.sent p false
  setReg s lGRP 0x19C (BitVec.ofNat 32 (tget s.grp.lsup p 0 + 0x10000 * b2n sent + 0x20000 * b2n (suppressed s p != sent)))
def execLsupSel (ctx : Ctx) (value : Word) (s : State) : Host.Outcome State Fault Refusal :=
  done (ownerWrite s ctx lGRP 0x198 (fun s => latchLsup (setReg s lGRP 0x198 (value &&& 0x7FF#32)) (fld value 10 0)))

/-- The groups with a staged or committed configuration in use. -/
def cfgGroups (s : State) : List Nat :=
  (s.act.filter (fun e => decide (e.1 % 0x100000000 = rk lGRP 0x164) && decide (0x100000000 ≤ e.1))).map (fun e => e.1 / 0x100000000 - 1)
def outGroups (s : State) : List Nat :=
  (s.act.filter (fun e => decide (e.1 % 0x100000000 = rk lGRP 0x168) && decide (0x100000000 ≤ e.1))).map (fun e => e.1 / 0x100000000 - 1)

/-- The term of a DO in group-output mode (R225). -/
def groupTermOf (h : GrpHdr) (mode : Nat) : Bool :=
  match mode with | 0 => decide (0 < h.ua + h.aa) | 1 => decide (0 < h.ua + h.ur) | 2 => decide (0 < h.ua) | _ => false
def groupTerm (s : State) (o : Nat) : Bool :=
  (outGroups s).any (fun g => gEn s g && bit (gOut s g) 31 && decide (fld (gOut s g) 20 16 = o) && groupTermOf (grpHdr s g) (fld (gOut s g) 25 24))

/-- The share of a group in an Echo call class: the class, while its term stands and names one (R245). -/
def gShare (s : State) (g : Nat) : Option Nat := if gTerm s g && decide (gCall s g ≠ 0xFF) then some (gCall s g) else none

/-- A set moves a group's share from one call class to another, and Echo is told (R245). -/
def moveShare (s old : State) (g : Nat) : State :=
  if gShare s g = gShare old g then s
  else
    let s := match gShare old g with | some c => toEcho s (.group g c false false) | none => s
    match gShare s g with | some c => toEcho s (.group g c true false) | none => s

/-- An accepted GRP set (R224, R233, R245): a group whose EN falls clears its FO bit and is QUIET; a MASTER_PRIO of 0 ends the role. -/
def grpApplied (s old : State) (keys : List Nat) : State :=
  let groups := (keys.filter (fun k => decide (k % 0x100000000 = rk lGRP 0x164) && decide (0x100000000 ≤ k))).map (fun k => k / 0x100000000 - 1)
  let s := groups.foldl (fun t g =>
    let h := grpHdr t g
    let t := if gEn old g && !gEn t g && decide (h.fo ≠ 0#2) then
        setGrpHdr (setFo t h.foId false) g { h with fo := 0#2, masterFinal := false } else t
    moveShare t old g) s
  if alive s lGRP then election s else s

end Sys2Proof.Machine
end

