-- ==== Sys2Proof/Machine/Lantern.lean ====
section
/-! DEFINITION. Lantern: frame store, blink generators, attribute table and frame boundaries (R326 to R334, R348, R485). -/
namespace Sys2Proof.Machine

/-- A word of an attribute-table entry in effect: 0 and 1 are the RW words (R330). -/
def atWord (s : State) (e w : Nat) : Word := tget s.lant.at0 (2 * e + w) 0#32
def atEn (s : State) (e : Nat) : Bool := bit (atWord s e 1) 0

/-- The enabled entries (R330). -/
def atEntries (s : State) : List Nat := (List.range 1024).filter (fun e => atEn s e)

/-- The committed points that an entry is bound to, and the groups (R330). -/
def atPoints (s : State) (e : Nat) : List Point :=
  (s.gal.pts.map (·.2)).filter (fun p => dEn p.desc && decide (dLant p.desc = e))
def atGroups (s : State) (e : Nat) : List Nat := (outGroups s).filter (fun g => gEn s g && decide (fld (gOut s g) 15 0 = e))

/-- The counts N_UA, N_UR and N_AA of an entry (R330). -/
def atCount (s : State) (e : Nat) (st : BitVec 3) (term : GrpHdr → Nat) : Nat :=
  ((atPoints s e).filter (fun p => decide (p.core.st = st))).length +
  ((atGroups s e).filter (fun g => decide (0 < term (grpHdr s g)))).length
def atUa (s : State) (e : Nat) : Nat := atCount s e 1#3 (·.ua)
def atUr (s : State) (e : Nat) : Nat := atCount s e 3#3 (·.ur)
def atAa (s : State) (e : Nat) : Nat := atCount s e 2#3 (·.aa)

/-- The class of a state under R330: 1 UNACK_ACT, 2 ACK_ACT, 3 UNACK_RTN, else none. -/
def atClass (st : BitVec 3) : Nat := if st = 1#3 ∨ st = 2#3 ∨ st = 3#3 then st.toNat else 0

/-- Bound points whose PROV overlay changes their class (R332). -/
def atNp (s : State) (e : Nat) : Nat :=
  ((atPoints s e).filter (fun p => provOverlay s p && decide (atClass (pstate s p) ≠ atClass p.core.st))).length

/-- Attribute codes (R327). -/
def aOFF : BitVec 3 := 0#3
def aSTEADY : BitVec 3 := 1#3
def aBLINKA : BitVec 3 := 2#3
def aBLINKB : BitVec 3 := 3#3
def aPROV : BitVec 3 := 4#3

/-- The attribute of an enabled entry (R332). -/
def atAttr (s : State) (e : Nat) : BitVec 3 :=
  let w := atWord s e 1
  if bit w 15 then BitVec.ofNat 3 (fld w 10 8)
  else
    let a := if 0 < atUa s e then aBLINKA else if 0 < atUr s e then aBLINKB else if 0 < atAa s e then aSTEADY else aOFF
    if bit w 1 && decide (0 < atNp s e) && decide (a ≠ aBLINKA) then aPROV else a

/-- Is a pixel inside the rectangle of an entry (R330)? -/
def atCovers (s : State) (e x y : Nat) : Bool :=
  let w := atWord s e 0
  decide (fld w 7 0 ≤ x) && decide (x ≤ fld w 15 8) && decide (fld w 21 16 ≤ y) && decide (y ≤ fld w 29 24)

/-- Is blink generator `o` on at a time (R329)? -/
def blinkOn (s : State) (o : Nat) (t : DWord) : Bool :=
  decide (t.toNat % (cfg s lLANT o 12 0 * 1000000) < cfg s lLANT o 12 0 * 10000 * cfg s lLANT o 22 16)

/-- Does Lantern scan its panel (R326, R334)? -/
def lantScans (s : State) : Bool := alive s lLANT && decide (s.pwr.phase ≠ .powerFail)

/-- A rectangle is copied from back to front in one step (R328). -/
def copyRect (s : State) (e : Nat) : State :=
  let l := s.lant
  let inside (k : Nat) : Bool := atCovers s e (k % 256) (k / 256)
  let kept := l.front.filter (fun c => !inside c.1)
  let front := (l.back.filter (fun c => inside c.1)).foldl (fun m c => mset m c.1 c.2) kept
  { s with lant := { l with front := front } }

/-- One update request: an entry, or every enabled entry (R328, R348). -/
def applyUpdate (s : State) (u : Option Nat) : State :=
  match u with
  | some e => copyRect s e
  | none => (atEntries s).foldl copyRect s

/-- LANT_FRAME_BOUNDARY (R326 to R334): the blink generators sample TIME64; unless frozen, entry commits, then copies, then the
region attributes take effect. -/
def execLantFrameBoundary (s : State) : Host.Outcome State Fault Refusal :=
  done (if lantScans s then
    let s := (takeEffect s lLANT).1
    let t := time64 s
    let s := { s with lant := { s.lant with
      frames := s.lant.frames + 1#32, blinkA := blinkOn s 0x104 t, blinkB := blinkOn s 0x108 t } }
    if works s lLANT then
      let at0 := s.lant.commits.foldl (fun m c => tset (tset m (2 * c.1) c.2.1 0#32) (2 * c.1 + 1) c.2.2 0#32) s.lant.at0
      let ups := s.lant.updates
      let s := { s with lant := { s.lant with at0 := at0, commits := [], updates := [] } }
      let s := raiseIf (!ups.isEmpty) (ups.foldl applyUpdate s) lLANT 0
      { s with lant := { s.lant with attr := (atEntries s).foldl (fun m e => tset m e (atAttr s e) aOFF) [] } }
    else s
  else s)

/-- A write of LANT_CMD (R328, R348). -/
def lantCmd (s : State) (value : Word) : State :=
  if bit value 31 then
    { s with lant := { s.lant with updates := s.lant.updates ++ [if bit value 15 then none else some (fld value 9 0)] } }
  else s

/-- LANT_UPDATE and LANT_UPDATE_ALL (R328). -/
def execLantUpdate (ctx : Ctx) (value : Word) (s : State) : Host.Outcome State Fault Refusal :=
  done (ownerWrite s ctx lLANT 0x10C (fun s => lantCmd s value))
def execLantUpdateAll (ctx : Ctx) (value : Word) (s : State) : Host.Outcome State Fault Refusal :=
  done (ownerWrite s ctx lLANT 0x10C (fun s => lantCmd s value))

/-- AT_ADDR after an access: WORD, then ENTRY, increments under AUTOINC (R348). -/
def atNext (s : State) : State :=
  let a := reg s lLANT 0x118
  if bit a 31 then
    let n := (4 * fld a 9 0 + fld a 17 16 + 1) % 4096
    setReg s lLANT 0x118 (BitVec.ofNat 32 (0x80000000 + n / 4 + 0x10000 * (n % 4))) else s

/-- The entry and word that AT_ADDR names. -/
def atEntry (s : State) : Nat := cfg s lLANT 0x118 9 0
def atSel (s : State) : Nat := cfg s lLANT 0x118 17 16

/-- A staged word of an entry: what was written last, else the word in effect (R331). -/
def atStaged (s : State) (e w : Nat) : Word := (tget s.lant.staged (2 * e + w) none).getD (atWord s e w)

/-- May a commit be made: X1 and Y1 not below X0 and Y0, no reserved bit or code (R330, R331)? -/
def atOk (w0 w1 : Word) : Bool :=
  decide (fld w0 7 0 ≤ fld w0 15 8) && decide (fld w0 21 16 ≤ fld w0 29 24) &&
  decide (w0 &&& 0xC0C00000#32 = 0#32) && decide (w1 &&& 0xFFFF78FC#32 = 0#32) && decide (fld w1 10 8 ≤ 4)

/-- The bits of an entry's words 0 and 1 that are not reserved (R330). -/
def atMask (w : Nat) : Word := if w = 0 then 0x3F3FFFFF#32 else 0x8703#32

/-- A write of AT_DATA (R331): words 0 and 1 are staged, word 1 commits both at the next boundary; a commit that is not made is captured
and changes nothing (R74). Word 0 keeps its reserved bits for the check of the commit. -/
def atWrite (s : State) (ctx : Ctx) (value : Word) : State :=
  let e := atEntry s
  let w := atSel s
  let t := { s with lant := { s.lant with staged := tset s.lant.staged (2 * e + w) (some value) none } }
  if 2 ≤ w then atNext s
  else if w = 0 then atNext t
  else if atOk (atStaged s e 0) value then
    atNext { t with lant := { t.lant with commits := t.lant.commits ++ [(e, atStaged s e 0, value)] } }
  else capture s lLANT ctx true 0x8 0x11C

/-- The four words of an entry as AT_DATA reads them, reserved bits as 0 (R9, R330). -/
def atReadWord (s : State) (e w : Nat) : Word :=
  if w ≤ 1 then atStaged s e w &&& atMask w
  else if w = 2 then
    BitVec.ofNat 32 ((tget s.lant.attr e aOFF).toNat + 256 * min (atNp s e) 255 + 0x10000 * min (atUa s e) 0xFFFF)
  else BitVec.ofNat 32 (min (atUr s e) 0xFFFF + 0x10000 * min (atAa s e) 0xFFFF)

/-- A read of AT_DATA. -/
def atRead (s : State) : State := atNext (answer s (atReadWord s (atEntry s) (atSel s)).toNat)

/-- AT_DATA_WRITE (R331). -/
def execAtDataWrite (ctx : Ctx) (value : Word) (s : State) : Host.Outcome State Fault Refusal :=
  done (ownerWrite s ctx lLANT 0x11C (fun s => atWrite s ctx value))

/-- FS_ADDR after an access, wrapping at 4,095 (R348). -/
def fsNext (s : State) : State :=
  let a := reg s lLANT 0x120
  if bit a 31 then setReg s lLANT 0x120 (maskMerge 0xFFF#32 a (a + 1#32)) else s

/-- A write of FS_DATA: four pixels of the back half, little-endian; bit 7 of a pixel is reserved (R327, R328). -/
def fsWrite (s : State) (value : Word) : State :=
  let a := 4 * cfg s lLANT 0x120 11 0
  fsNext { s with lant := { s.lant with back := msetLE s.lant.back a 4 (value &&& 0x7F7F7F7F#32).toNat } }

/-- A read of FS_DATA: the back half. -/
def fsReadWord (s : State) : Nat := mgetLE s.lant.back (4 * cfg s lLANT 0x120 11 0) 4
def fsRead (s : State) : State := fsNext (answer s (fsReadWord s))

/-- FS_DATA_WRITE (R328). -/
def execFsDataWrite (ctx : Ctx) (value : Word) (s : State) : Host.Outcome State Fault Refusal :=
  done (ownerWrite s ctx lLANT 0x124 (fun s => fsWrite s value))

/-- VCOL_FAULT (R348, R485): LANT_VCOL leaves its range or returns to it. -/
def execVcolFault (ok : Bool) (s : State) : Host.Outcome State Fault Refusal :=
  done (if present s lLANT then { s with lant := { s.lant with vcolOk := ok, vcolFault := !ok } } else s)

/-- What a pixel of the panel shows in this frame, as GREY (R326, R327, R332, R459 row LAMP). -/
def pixelShows (s : State) (x y : Nat) : Nat :=
  if !lantScans s then 0
  else if (hdr s lLANT).tRun then 15
  else
    let p := (mget s.lant.front (y * 256 + x)).toNat
    let grey := bitsOf p 3 0
    let a : BitVec 3 := if bitsOf p 6 4 = 7 then
        (match (atEntries s).find? (fun e => atCovers s e x y) with | some e => tget s.lant.attr e aOFF | none => aOFF)
      else BitVec.ofNat 3 (bitsOf p 6 4)
    if a = aSTEADY then grey
    else if a = aBLINKA then (if s.lant.blinkA then grey else 0)
    else if a = aBLINKB then (if s.lant.blinkB then grey else 0)
    else if a = aPROV then cfg s lLANT 0x100 19 16
    else 0

/-- LANT_STAT (R348). -/
def lantStat (s : State) : Word := bitw (lantScans s) 0 ||| bitw (!s.lant.updates.isEmpty) 1 ||| bitw s.lant.vcolOk 2

/-- LANT is enabled: the frame count starts (R348). -/
def lantEnable (s : State) : State := { s with lant := { s.lant with frames := 0#32 } }

/-- A soft reset of the page (R69); VCOL_OK and VCOL_FAULT follow the land. -/
def lantSoftReset (s : State) : State :=
  { s with lant := { ({} : Lant) with vcolOk := s.lant.vcolOk, vcolFault := s.lant.vcolFault } }

end Sys2Proof.Machine
end

