-- ==== Sys2Proof/Machine/Echo.lean ====
section
/-! DEFINITION. Echo: duty calls, escalation, call loops and the dead-man timer (R243 to R268). -/
namespace Sys2Proof.Machine

/-- A call, and its class: call 16 takes that of DM_SRC.DM_CLS (R255). -/
def call (s : State) (k : Nat) : Call := tget s.echo.calls k {}
def setCall (s : State) (k : Nat) (c : Call) : State := { s with echo := { s.echo with calls := tset s.echo.calls k c {} } }
def callClass (s : State) (k : Nat) : Nat := if k < 16 then k else cfg s lECHO 0x10C 19 16
def clsCfg (s : State) (c : Nat) : Word := reg s lECHO (0x280 + 4 * c)

/-- The two loops. -/
def callLine (s : State) (x : Nat) : CallLine := if x = 0 then s.echo.a else s.echo.b
def setCallLine (s : State) (x : Nat) (l : CallLine) : State :=
  if x = 0 then { s with echo := { s.echo with a := l } } else { s with echo := { s.echo with b := l } }
/-- Does Echo handle calls: at work, after module-wide output release, and no standby (R263, R264, R266)? -/
def callsRun (s : State) : Bool := alive s lECHO && s.pwr.released && !standby s

/-- May Echo hear of the dead-man counter: where calls run, and of what the counter did in Sleep as soon as the page works again (R264)? -/
def dmHeard (s : State) : Bool := callsRun s || (s.echo.dm.slept && alive s lECHO && !standby s)

/-- Do frames run on the loops: not before the end of the dual-active window of a pair (R263, R266, R452)? -/
def framesRun (s : State) : Bool := callsRun s && decide (s.rope.role = 0#3 ∨ s.rope.role = 5#3)

/-- Is a unit enabled, and reachable (R243)? -/
def cuEnabled (s : State) (u : Nat) : Bool := cfgBit s lECHO (0x400 + 4 * u) 0 && cfgBit s lECHO 0x100 (u / 32)
def cuReachable (s : State) (u : Nat) : Bool :=
  let l := callLine s (u / 32)
  cuEnabled s u && !l.lost.getLsbD (u % 32) && !lineFault l

/-- A set of units. -/
def unitSet (p : Nat → Bool) : BitVec 64 := (List.range 64).foldl (fun m u => if p u then m ||| BitVec.ofNat 64 (2 ^ u) else m) 0#64

/-- Is `u` one of the enabled units of engineer `n` (R243)? -/
def engHas (s : State) (n u : Nat) : Bool :=
  let w := reg s lECHO (0x300 + 4 * n)
  decide (1 ≤ n) && decide (n ≤ 32) && bit w 31 && cuEnabled s u &&
  ((bit w 7 && decide (fld w 5 0 = u)) || (bit w 15 && decide (fld w 13 8 = u)))

/-- DUTY and BACKUP of the current slot (R244). -/
def slotDuty (s : State) : Nat := wcfg s lECHO 0x504 s.echo.cur 5 0
def slotBackup (s : State) : Nat := wcfg s lECHO 0x504 s.echo.cur 13 8

/-- The slot that the calendar names (R244). -/
def calendarSlot (s : State) : Nat := s.grot.wday * 96 + s.grot.hour * 4 + s.grot.min / 15
def slotChange (s : State) : State := { s with echo := { s.echo with cur := calendarSlot s } }

/-- The targets of a stage (R248). -/
def stageTargets (s : State) (stage : Nat) : BitVec 64 :=
  let d := slotDuty s
  if 4 ≤ stage then unitSet (cuEnabled s)
  else unitSet (fun u =>
    (if d = 0 then (List.range 33).any (fun n => engHas s n u) else engHas s d u) ||
    (decide (2 ≤ stage) && engHas s (slotBackup s) u) || (decide (3 ≤ stage) && engHas s (cfg s lECHO 0x100 21 16) u))

/-- A notification (R256): to the queues of BR_HOSTQ and to Flowstone, and its interrupt source (R268). Field STG shows the call. -/
def notifyIrq (kind : Nat) : Option Nat :=
  match kind with
  | 1 => some 0 | 2 => some 1 | 3 => some 2 | 4 => some 3 | 8 => some 4 | 9 => some 5 | 10 => some 6 | 12 => some 7 | _ => none
def notifyBytes (s : State) (kind k : Nat) (arg : Word) : List Byte :=
  let c := call s k
  let on := decide (k ≤ 16) && decide (c.st = 1#2)
  leBytes 1 kind ++ leBytes 1 k ++
  leBytes 1 ((if on then c.stage.toNat else 0) + 64 * b2n (decide (k ≤ 16) && c.emrg) + 128 * b2n (on && c.bridge)) ++
  leBytes 1 (slotDuty s) ++ leBytes 4 arg.toNat ++ leBytes 8 (time64 s).toNat
def notify (s : State) (kind k : Nat) (arg : Word) : State :=
  let b := notifyBytes s kind k arg
  let s := match notifyIrq kind with | some i => raise s lECHO i | none => s
  let s := if cfgBit s lECHO 0x100 2 then flowRec s lECHO 3#4 (BitVec.ofNat 8 kind) b else s
  (ctxsOf (cfg s lECHO 0x100 15 8)).foldl (fun t x => hostEvent t lECHO x 3 (b ++ List.replicate 8 0#8)) s

/-- A notification whose ARG the spec does not state (kinds 4, 8 and 9, and a CALL_OPEN of call 16; log entry 1). -/
def notifyFree (s : State) (kind k : Nat) : State :=
  let (w, s) := draw s
  notify s kind k w

/-- MEMBERS of a class (R245). -/
def members (s : State) (c : Nat) : Nat :=
  (s.echo.pts.filter (fun e => match e.2 with | some p => decide (p.call = c) && decide (p.st = 1#3 ∨ p.st = 3#3) | none => false)).length +
  (s.echo.grps.filter (fun e => decide (e.2 = some c))).length

/-- Call `k` enters stage `st` (R248); a set's new times act from here (R249). -/
def enterStage (s : State) (k stage : Nat) : State :=
  let cls := callClass s k
  let c := call s k
  let t := stageTargets s stage
  let secs := if stage = 1 then cfg s lECHO (0x2C0 + 4 * cls) 15 0 else if stage = 2 then cfg s lECHO (0x2C0 + 4 * cls) 31 16
    else fld (clsCfg s cls) 31 16
  let reach := (List.range 64).any (fun u => t.getLsbD u && cuReachable s u)
  setCall s k { c with
    st := 1#2
    stage := BitVec.ofNat 3 stage
    target := t
    bridge := decide (fld (clsCfg s cls) 3 2 + 1 ≤ stage)
    emrg := c.emrg || bit (clsCfg s cls) 4
    endAt := if reach then s.now + secs * 1000000000 else s.now }

/-- A call opens (R246, R247, R255): stage 1, or DM_STAGE for call 16; `arg` names its trigger. -/
def openCall (s : State) (k : Nat) (emrg : Bool) (arg : Option Word) : State :=
  let c := call s k
  let s := setCall s k { c with emrg := c.emrg || emrg, accSrc := 0xFF#8 }
  let s := enterStage s k (if k < 16 then 1 else cfg s lECHO 0x10C 22 20)
  match arg with | some w => notify s 1 k w | none => notifyFree s 1 k

/-- A call goes to IDLE (R246, R247). -/
def clearCall (s : State) (k : Nat) : State :=
  let c := call s k
  if c.st = 0#2 then s else notifyFree (setCall s k { accSrc := c.accSrc }) 4 k

/-- CALL_CLEARED (R247): MEMBERS of a class reached 0. -/
def checkMembers (s : State) (c : Nat) : State := if c < 16 ∧ members s c = 0 then clearCall s c else s

/-- A trigger of class `c` (R246, R247). -/
def trigger (s : State) (c : Nat) (emrg : Bool) (arg : Word) : State :=
  if !callsRun s || decide (16 ≤ c) then s
  else
    let k := call s c
    if k.st = 1#2 then setCall s c { k with emrg := k.emrg || emrg }
    else if k.st = 2#2 || bit (clsCfg s c) 0 then openCall s c emrg (some arg) else s

/-- The ID of a local point (R214): node and index. -/
def localId (s : State) (p : Nat) : Nat := 2048 * nodeId s + p

/-- A point's change item at Echo (R245, R246). -/
def echoPoint (s : State) (i : ChgItem) (c : Nat) : State :=
  let old := tget s.echo.pts i.index none
  let fresh := match old with | some o => decide (o.inst ≠ i.inst) | none => true
  let s := { s with echo := { s.echo with pts := tset s.echo.pts i.index (some ⟨i.st, i.inst, c⟩) none } }
  let s := if decide (i.st = 1#3) && fresh then trigger s c (decide (i.prio = 0#2)) (BitVec.ofNat 32 (localId s i.index)) else s
  checkMembers s c

/-- A set gives a point another CALL (R245): its membership moves, and no call opens. -/
def echoRecall (s : State) (p c : Nat) : State :=
  let old := tget s.echo.pts p none
  let o := (pnt s p).core
  let new : Option EchoPt := if c = 0xFF then none else match old with | some e => some { e with call := c } | none => some ⟨o.st, o.inst, c⟩
  let s := { s with echo := { s.echo with pts := tset s.echo.pts p new none } }
  match old with | some e => checkMembers s e.call | none => s

/-- A group's term, or an increase of its N_UA, at Echo (R245, R246). -/
def echoGroup (s : State) (g c : Nat) (term rose : Bool) : State :=
  let old := tget s.echo.grps g none
  let s := { s with echo := { s.echo with grps := tset s.echo.grps g (if term && decide (c < 16) then some c else none) none } }
  let s := if rose then trigger s c false (BitVec.ofNat 32 (0x80000000 + g)) else s
  let s := checkMembers s c
  match old with | some c0 => if c0 = c then s else checkMembers s c0 | none => s

/-- One input of Echo. -/
def echoInput (s : State) (i : EchoIn) : State :=
  match i with
  | .point c k => echoPoint s c k
  | .recall p k => echoRecall s p k
  | .group g k term rose => echoGroup s g k term rose
  | .firstOut _ k late p => if callsRun s then notify s (if late then 15 else 14) k (BitVec.ofNat 32 p) else s

/-- Does Echo handle inputs (R264, R265)? -/
def echoRuns (s : State) : Bool := works s lECHO && !standby s

/-- ECHO_ITEM (R245, R246): the input in front is a change item or a change of CALL. -/
def execEchoItem (s : State) : Host.Outcome State Fault Refusal :=
  done (match s.echo.inq with
    | .group _ _ _ _ :: _ => s
    | .firstOut _ _ _ _ :: _ => s
    | i :: rest => if echoRuns s then echoInput { s with echo := { s.echo with inq := rest } } i else s
    | [] => s)

/-- ECHO_GROUP_TERM (R245 to R247): the input in front is a group's term, a rise of its N_UA, or a first-out decision. -/
def execEchoGroupTerm (s : State) : Host.Outcome State Fault Refusal :=
  done (match s.echo.inq with
    | .point _ _ :: _ => s
    | .recall _ _ :: _ => s
    | i :: rest => if echoRuns s then echoInput { s with echo := { s.echo with inq := rest } } i else s
    | [] => s)

/-- A stage ends (R247, R248). -/
def stageEnd (s : State) (k : Nat) : State :=
  let c := call s k
  if c.st = 1#2 ∧ c.stage.toNat < 4 then
    notify (enterStage s k (c.stage.toNat + 1)) 2 k (BitVec.ofNat 32 (if k < 16 then members s k else 0))
  else s

/-- ECHO_STAGE_END (R248, R265): while Echo is frozen, the stage end waits. -/
def execEchoStageEnd (call : Fin 17) (s : State) : Host.Outcome State Fault Refusal :=
  done (if !alive s lECHO || standby s then s
  else if (hdr s lECHO).frozen then
    (if s.echo.due.contains call.val then s else { s with echo := { s.echo with due := s.echo.due ++ [call.val] } })
  else stageEnd s call.val)

/-- A call is accepted (R250): source as in R256; ACK_FWD acknowledges the local points of the class. -/
def acceptCall (s : State) (k src : Nat) : State :=
  let c := call s k
  let s := notify (setCall s k { c with st := 2#2, accSrc := BitVec.ofNat 8 src }) 3 k (BitVec.ofNat 32 src)
  if k < 16 && bit (clsCfg s k) 1 then
    (s.gal.pts.filter (fun e => dEn e.2.desc && decide (dCall e.2.desc = k) && unacked e.2.core)).foldl
      (fun t e => galCommand t { src := 9, op := 1, target := e.1, arg := BitVec.ofNat 32 e.2.core.inst.toNat }) s
  else s

/-- The ring picture, the dead-man indication, and the emergency tone of a loop (R251, R255, R258). -/
def ringSet (s : State) : BitVec 64 := s.echo.calls.foldl (fun m e => if e.2.st = 1#2 then m ||| e.2.target else m) 0#64
def dmsSet (s : State) : BitVec 64 :=
  if 2 ≤ s.echo.dm.st.toNat then unitSet (fun u => cuEnabled s u && cfgBit s lECHO (0x400 + 4 * u) 1) else 0#64
def half (m : BitVec 64) (x : Nat) : BitVec 32 := BitVec.ofNat 32 (m.toNat / 2 ^ (32 * x))
def emrgOn (s : State) (x : Nat) : Bool := s.echo.calls.any (fun e => decide (e.2.st = 1#2) && e.2.emrg && decide (half e.2.target x ≠ 0#32))

/-- CRC-8 of `n` bits, the first one highest: x^8 + x^2 + x + 1, initial value 0 (R258). -/
def crc8 : Nat → Nat → Nat
  | 0, _ => 0
  | n + 1, v =>
    let c := crc8 n (v / 2)
    let f := (c / 128 + v) % 2
    ((2 * c) % 256).xor (7 * f)

/-- The unit polled next on a loop: ascending loop address, wrapping around (R259). -/
def nextPoll (s : State) (x : Nat) : Option Nat :=
  let en := (List.range 32).filter (fun a => cuEnabled s (32 * x + a))
  match (callLine s x).last with
  | some l => (en.find? (fun a => decide (l < a))).or en.head?
  | none => en.head?

/-- One downlink frame of a loop (R258, R259, R265). -/
def frameBits (fnum : BitVec 2) (ring dms : BitVec 32) (emrg dmx : Bool) (poll : Nat) (ackd : Bool) : BitVec 88 :=
  let body := ((((((fnum.toNat * 2 ^ 32 + ring.toNat) * 2 ^ 32 + dms.toNat) * 2 + b2n emrg) * 2 + b2n dmx) * 32 + poll % 32) * 2 + b2n ackd) * 4
  BitVec.ofNat 88 ((0xB * 2 ^ 76 + body) * 256 + crc8 76 body)
def lineFrame (s : State) (x : Nat) : State :=
  let l := callLine s x
  if !cfgBit s lECHO 0x100 x || l.off then setCallLine s x { l with poll := none }
  else
    let frozen := (hdr s lECHO).frozen
    let ring := half (if frozen then s.echo.heldRing else ringSet s) x ||| l.test
    let dms := half (if frozen then s.echo.heldDms else dmsSet s) x
    let emrg := if frozen then s.echo.heldEmrg.getLsbD x else emrgOn s x
    let poll := if lineFault l then none else nextPoll s x
    let ackd := match poll with | some a => l.taken.getLsbD a | none => false
    let (w, s) := match poll with | some a => (BitVec.ofNat 32 a, s) | none => draw s
    let l' := { l with
      poll := poll
      last := poll.or l.last
      taken := match poll with | some a => l.taken &&& ~~~BitVec.ofNat 32 (2 ^ a) | none => l.taken
      ring := ring }
    let s := setCallLine s x l'
    { s with out := s.out ++ [.callFrame x (frameBits s.echo.fnum ring dms emrg (decide (s.echo.dm.st = 3#2)) (w.toNat % 32) ackd)] }

/-- CALL_FRAME_START (R258, R259): both loops share the grid. -/
def execCallFrameStart (s : State) : Host.Outcome State Fault Refusal :=
  done (if framesRun s then
    let s := lineFrame (lineFrame s 0) 1
    { s with echo := { s.echo with fnum := s.echo.fnum + 1 } }
  else s)

/-- The dead-man counter reloads (R252, R254). -/
def dmReload (s : State) : State :=
  let d := s.echo.dm
  { s with echo := { s.echo with dm := { d with
    st := 1#2, at0 := s.now, per := d.cPer.toNat, owedPrew := false, owedExp := false, slept := false } } }

/-- Arm, reset and disarm (R252); the source as in R256. -/
def dmArm (s : State) (src : Nat) : State :=
  if s.echo.dm.st ≠ 0#2 then s else notify (dmReload s) 5 0xFF (BitVec.ofNat 32 src)
def dmReset (s : State) (src : Nat) : State :=
  if s.echo.dm.st = 0#2 then s else clearCall (notify (dmReload s) 7 0xFF (BitVec.ofNat 32 src)) 16
def dmDisarm (s : State) (src : Nat) : State :=
  if s.echo.dm.st = 0#2 then s
  else
    let d := s.echo.dm
    let s := { s with echo := { s.echo with dm := { d with st := 0#2, owedPrew := false, owedExp := false, slept := false } } }
    clearCall (notify s 6 0xFF (BitVec.ofNat 32 src)) 16

/-- Echo learns of a pre-warning or an expiry that it has not handled (R252, R255, R264). -/
def dmDeliver (s : State) : State :=
  if !dmHeard s then s
  else
    let d := s.echo.dm
    let s := { s with echo := { s.echo with dm := { d with owedPrew := false, owedExp := false, slept := false } } }
    let s := if d.owedPrew then notifyFree s 8 0xFF else s
    if d.owedExp then
      let s := notifyFree s 9 0xFF
      if (call s 16).st = 0#2 then openCall s 16 false none else s
    else s

/-- The keys of a cabin unit (R250, R253): accept takes every call that rings it. -/
def takeKeys (s : State) (u : Nat) (acc dm : Bool) : State :=
  let s := if acc then
      ((List.range 17).filter (fun k => decide ((call s k).st = 1#2) && (call s k).target.getLsbD u)).foldl (fun t k => acceptCall t k u) s
    else s
  if dm && cfgBit s lECHO (0x400 + 4 * u) 1 then dmReset s u else s

/-- A missed poll, and the third in a row (R261). -/
def pollMissed (s : State) (x a : Nat) : State :=
  let l := callLine s x
  let n := tget l.missed a 0 + 1
  let s := countUp s lECHO (0x1E0 + 4 * x) 0 16
  let s := setCallLine s x { l with missed := tset l.missed a (min n 3) 0 }
  if decide (3 ≤ n) && !l.lost.getLsbD a then
    let l := callLine s x
    notify (setCallLine s x { l with lost := l.lost ||| BitVec.ofNat 32 (2 ^ a) }) 10 0xFF (BitVec.ofNat 32 (32 * x + a))
  else s

/-- A valid reply (R259, R261): its key bits are taken unless they were taken and ACKD has not been sent since, or Echo is frozen. -/
def pollAnswered (s : State) (x a : Nat) (stat : Byte) : State :=
  let l := callLine s x
  let m := BitVec.ofNat 32 (2 ^ a)
  let s := setCallLine s x { l with missed := tset l.missed a 0 0, lost := l.lost &&& ~~~m }
  let s := if l.lost.getLsbD a then notify s 11 0xFF (BitVec.ofNat 32 (32 * x + a)) else s
  let acc := stat.getLsbD 0
  let dm := stat.getLsbD 1
  if (acc || dm) && !l.taken.getLsbD a && !(hdr s lECHO).frozen then
    let l := callLine s x
    takeKeys (setCallLine s x { l with taken := l.taken ||| m }) (32 * x + a) acc dm
  else s

/-- CALL_REPLY (R259, R261): the uplink of the polled unit; a reply with a bad CRC, or none, is a missed poll. -/
def execCallReply (loop : BitVec 1) (reply : Option CuReply) (s : State) : Host.Outcome State Fault Refusal :=
  let x := loop.toNat
  let l := callLine s x
  done (match l.poll with
    | none => s
    | some a =>
      let s := setCallLine s x { l with poll := none }
      if !framesRun s || lineFault l then s
      else match reply with
        | some r => if crc8 13 (256 * a + r.stat.toNat) = r.crc.toNat then pollAnswered s x a r.stat else pollMissed s x a
        | none => pollMissed s x a)

/-- A line fault is declared (R262). -/
def lineFaultOn (s : State) (x : Nat) (short : Bool) : State :=
  let l := callLine s x
  let l' := { l with opened := l.opened || !short, short := l.short || short, off := l.off || short, poll := none }
  let s := setCallLine s x l'
  if (if short then l.short else l.opened) then s else notify s 12 0xFF (BitVec.ofNat 32 (x + 256 * b2n short))

/-- CALL_LINE_OPEN (R262): with an enabled unit only. -/
def execCallLineOpen (loop : BitVec 1) (s : State) : Host.Outcome State Fault Refusal :=
  let x := loop.toNat
  done (if alive s lECHO && (List.range 32).any (fun a => cuEnabled s (32 * x + a)) then lineFaultOn s x false else s)

/-- CALL_LINE_SHORT (R262): the driver switches the loop off. -/
def execCallLineShort (loop : BitVec 1) (s : State) : Host.Outcome State Fault Refusal :=
  done (if alive s lECHO then lineFaultOn s loop.toNat true else s)

/-- CALL_LINE_RETRY (R262): in SHORT the driver switches the loop on again. -/
def execCallLineRetry (loop : BitVec 1) (s : State) : Host.Outcome State Fault Refusal :=
  let l := callLine s loop.toNat
  done (if alive s lECHO && l.short then setCallLine s loop.toNat { l with off := false } else s)

/-- CALL_LINE_OK (R262): the fault ends, and polling starts again. -/
def execCallLineOk (loop : BitVec 1) (s : State) : Host.Outcome State Fault Refusal :=
  let l := callLine s loop.toNat
  done (if alive s lECHO && lineFault l && !l.off then
    notify (setCallLine s loop.toNat { l with opened := false, short := false, missed := [] }) 13 0xFF
      (BitVec.ofNat 32 (loop.toNat + 256 * b2n l.short))
  else s)

/-- The dead-man counter reaches DM_PREW or 0 (R252, R264): Echo hears of it at once, or after a wake. -/
def dmEvent (s : State) (st : BitVec 2) : State :=
  let d := s.echo.dm
  let asleep := !domOn s dGAL
  let s := { s with echo := { s.echo with dm := { d with
    st := st, owedPrew := d.owedPrew || decide (st = 2#2), owedExp := d.owedExp || decide (st = 3#2), slept := d.slept || asleep } } }
  if asleep then wake s 5#4 else dmDeliver s

/-- DM_PREWARN (R252). On a standby the counter is the duty's (R266). -/
def execDmPrewarn (s : State) : Host.Outcome State Fault Refusal :=
  done (if domOn s dAON && decide (s.echo.dm.st = 1#2) && !standby s then dmEvent s 2#2 else s)

/-- DM_EXPIRY (R252, R255). -/
def execDmExpiry (s : State) : Host.Outcome State Fault Refusal :=
  done (if domOn s dAON && decide (s.echo.dm.st = 2#2) && !standby s then dmEvent s 3#2 else s)

/-- The result of a command of ECMD_x (R267). -/
def ecmdResult (s : State) (x result : Nat) : State := setReg s lECHO (0x204 + 0x10 * x) (BitVec.ofNat 32 (16 * result))

/-- A write of ECMD_OP in ECMD_x (R202, R265, R267). The result while Echo does not work at all is not stated: a free value. -/
def ecmdWrite (s : State) (x ctx : Ctx) (k : State → State) : State :=
  ctxWrite s x ctx lECHO (0x200 + 0x10 * x.toNat) (fun s =>
    if (hdr s lECHO).freeze then ecmdResult s x.toNat 4
    else if !alive s lECHO || standby s then
      let (w, s) := draw s
      ecmdResult s x.toNat (w.toNat % 16)
    else k s)

/-- ACCEPT (R250, R267). -/
def cmdAccept (s : State) (x : Nat) (value : Word) : State :=
  let k := fld value 15 8
  if !cfgBit s lECHO 0x110 x then ecmdResult s x 1
  else if 16 < k then ecmdResult s x 3
  else if (call s k).st ≠ 1#2 then ecmdResult s x 2
  else ecmdResult (acceptCall s k (64 + x)) x 0
def execEchoAccept (x ctx : Ctx) (value : Word) (s : State) : Host.Outcome State Fault Refusal :=
  done (ecmdWrite s x ctx (fun s => cmdAccept s x.toNat value))

/-- A dead-man command (R253): DENIED without DM_CTX; ARM and DISARM end with STATE while an arm DI is set. -/
def cmdDm (s : State) (x : Nat) (arming : Bool) (k : State → State) : State :=
  if !cfgBit s lECHO 0x110 (8 + x) then ecmdResult s x 1
  else if arming && decide (cfg s lECHO 0x10C 6 0 < 64) then ecmdResult s x 2
  else ecmdResult (k s) x 0
def execDmResetCmd (x ctx : Ctx) (_value : Word) (s : State) : Host.Outcome State Fault Refusal :=
  done (ecmdWrite s x ctx (fun s => cmdDm s x.toNat false (fun t => dmReset t (64 + x.toNat))))
def execDmArmCmd (x ctx : Ctx) (_value : Word) (s : State) : Host.Outcome State Fault Refusal :=
  done (ecmdWrite s x ctx (fun s => cmdDm s x.toNat true (fun t => dmArm t (64 + x.toNat))))
def execDmDisarmCmd (x ctx : Ctx) (_value : Word) (s : State) : Host.Outcome State Fault Refusal :=
  done (ecmdWrite s x ctx (fun s => cmdDm s x.toNat true (fun t => dmDisarm t (64 + x.toNat))))

/-- A unit's test ring begins or ends (R251, R267). -/
def testRing (s : State) (u : Nat) (on : Bool) : State :=
  let l := callLine s (u / 32)
  let m := BitVec.ofNat 32 (2 ^ (u % 32))
  setCallLine s (u / 32) { l with test := if on then l.test ||| m else l.test &&& ~~~m }
def cmdTestCu (s : State) (x : Nat) (value : Word) : State :=
  let u := fld value 15 8
  if !cfgBit s lECHO 0x110 (16 + x) then ecmdResult s x 1
  else if 63 < u then ecmdResult s x 3
  else ecmdResult (testRing s u true) x 0
def execTestCu (x ctx : Ctx) (value : Word) (s : State) : Host.Outcome State Fault Refusal :=
  done (ecmdWrite s x ctx (fun s => cmdTestCu s x.toNat value))
def execTestCuEnd (unit : BitVec 6) (s : State) : Host.Outcome State Fault Refusal :=
  done (if alive s lECHO then testRing s unit.toNat false else s)

/-- ECMD_UNKNOWN (R267). -/
def execEcmdUnknown (x ctx : Ctx) (_value : Word) (s : State) : Host.Outcome State Fault Refusal :=
  done (ecmdWrite s x ctx (fun s => ecmdResult s x.toNat 5))

/-- The filtered state of a DI reaches Echo (R253): rises and falls act from output release on (R263); an item of a wire break changes
nothing. -/
def echoDi (s : State) (n : Nat) (level wb : Bool) : State :=
  let m := BitVec.ofNat 64 (2 ^ n)
  let e := s.echo
  if wb then s
  else
    let was := e.di.getLsbD n
    let s := { s with echo := { e with di := if level then e.di ||| m else e.di &&& ~~~m } }
    if was = level || !callsRun s then s
    else if cfg s lECHO 0x10C 6 0 = n then (if level then dmArm s 128 else dmDisarm s 128)
    else if cfg s lECHO 0x10C 14 8 = n && level then dmReset s 128
    else s

/-- Member counts from the Gallery's committed states and the group terms (R263). -/
def recount (s : State) : State :=
  let ps := (s.gal.pts.filter (fun e => dEn e.2.desc && decide (dCall e.2.desc ≠ 0xFF))).map
    (fun e => (e.1, some (⟨e.2.core.st, e.2.core.inst, dCall e.2.desc⟩ : EchoPt)))
  let gs := (s.grp.grps.filter (fun e => gTerm s e.1 && decide (gCall s e.1 ≠ 0xFF))).map (fun e => (e.1, some (gCall s e.1)))
  { s with echo := { s.echo with pts := ps, grps := gs } }

/-- The first member of a class that opens a call: a point in UNACK_ACT, or a group with N_UA > 0 (R263). -/
def hotMember (s : State) (c : Nat) : Option Word :=
  match s.echo.pts.find? (fun e => match e.2 with | some p => decide (p.call = c) && decide (p.st = 1#3) | none => false) with
  | some (p, _) => some (BitVec.ofNat 32 (localId s p))
  | none =>
    match s.echo.grps.find? (fun e => decide (e.2 = some c) && decide (0 < (grpHdr s e.1).ua)) with
    | some (g, _) => some (BitVec.ofNat 32 (0x80000000 + g))
    | none => none

/-- Rebuild (R263): member counts, and a call for each enabled class with such a member; open calls stay. -/
def echoRebuild (s : State) : State :=
  let s := recount s
  if !callsRun s then s
  else (List.range 16).foldl (fun t c =>
    if bit (clsCfg t c) 0 && decide ((call t c).st = 0#2) then
      match hotMember t c with | some w => openCall t c false (some w) | none => t
    else t) s

/-- The calls of the classes end, before a rebuild that opens them anew (R263). -/
def callsAnew (s : State) : State := (List.range 16).foldl clearCall s

/-- Echo starts: at enable, after a soft reset, at output release, and in a cold takeover (R263, R264, R452). -/
def echoStart (s : State) : State := dmDeliver (echoRebuild (slotChange s))

/-- At output release the counter arms if the arm DI is at 1 (R263). -/
def echoRelease (s : State) : State :=
  if !alive s lECHO then s
  else
    let s := echoStart s
    let n := cfg s lECHO 0x10C 6 0
    if n < 64 && s.echo.di.getLsbD n && !armDiFault s && callsRun s then dmArm s 128 else s

/-- FROZEN comes on: the picture is held (R265). -/
def echoFreeze (s : State) : State :=
  { s with echo := { s.echo with heldRing := ringSet s, heldDms := dmsSet s, heldEmrg := BitVec.ofNat 2 (b2n (emrgOn s 0) + 2 * b2n (emrgOn s 1)) } }

/-- FREEZE clears (R265): waiting inputs, then the stage ends that fell due, then a rebuild if any input was dropped. -/
def echoUnfreeze (s : State) : State :=
  let q := s.echo.inq
  let due := s.echo.due
  let dropped := s.echo.dropped
  let s := { s with echo := { s.echo with inq := [], due := [], dropped := false } }
  let s := due.foldl stageEnd (q.foldl echoInput s)
  if dropped then echoRebuild s else s

/-- A soft reset (R69, R263): the counter in PD_AON goes on. -/
def echoSoftReset (s : State) : State := { s with echo := { dm := s.echo.dm, di := s.echo.di } }

/-- An accepted ECHO set (R246, R247, R254): the counter's copy, classes disabled, EMRG of classes. -/
def echoApplied (s : State) : State :=
  let s := { s with echo := { s.echo with dm := { s.echo.dm with
    cPer := BitVec.ofNat 16 (cfg s lECHO 0x108 15 0), cPrew := BitVec.ofNat 16 (cfg s lECHO 0x108 31 16) } } }
  (List.range 17).foldl (fun t k =>
    let c := call t k
    if c.st = 0#2 then t
    else if k < 16 && !bit (clsCfg t k) 0 then clearCall t k
    else if bit (clsCfg t (callClass t k)) 4 then setCall t k { c with emrg := true } else t) s

/-- Views of the page (R267). -/
def echoStat (s : State) : Word :=
  BitVec.ofNat 32 (s.echo.cur % 96 + 256 * (s.echo.cur / 96) + 0x10000 * slotDuty s + 0x1000000 * slotBackup s)
def dmRemain (s : State) : Nat :=
  let d := s.echo.dm
  if d.st = 0#2 then 0 else d.per - (s.now - d.at0) / 1000000000
def dmStat (s : State) : Word := BitVec.ofNat 32 (s.echo.dm.st.toNat + 0x10000 * dmRemain s)
def loopStat (s : State) : Word :=
  bitw s.echo.a.opened 0 ||| bitw s.echo.a.short 1 ||| bitw s.echo.b.opened 8 ||| bitw s.echo.b.short 9
def callSt (s : State) (k : Nat) : Word :=
  let c := call s k
  BitVec.ofNat 32 (c.st.toNat + 4 * c.stage.toNat + 32 * b2n c.bridge + 64 * b2n c.emrg + 256 * c.accSrc.toNat +
    0x10000 * (if k < 16 then min (members s k) 65535 else 0))
def callTm (s : State) (k : Nat) : Nat :=
  let c := call s k
  if c.st = 1#2 ∧ c.stage.toNat < 4 then (c.endAt - s.now + 999999999) / 1000000000 else 0

/-- Is a call or a pre-warning in progress (R46, R264)? -/
def echoBusy (s : State) : Bool := s.echo.calls.any (fun e => decide (e.2.st ≠ 0#2)) || decide (2 ≤ s.echo.dm.st.toNat)

end Sys2Proof.Machine
end

