-- ==== Sys2Proof/Machine/Fio.lean ====
section
/-! DEFINITION. Field I/O: digital inputs, push-pull outputs, analog outputs, faults and forces (R300 to R325). -/
namespace Sys2Proof.Machine

/-- Registers of a channel, the values in use. -/
def diCfg (s : State) (n : Nat) : Word := reg s lFIO (0x200 + 4 * n)
def doCfg (s : State) (n : Nat) : Word := reg s lFIO (0x300 + 16 * n)
def doSel (s : State) (n : Nat) : Nat := fld (doCfg s n) 2 0
def aoCfg (s : State) (n : Nat) : Word := reg s lFIO (0x500 + 16 * n)

/-- Is an input enabled: its channel and its bank, and no standby (R34, R448)? -/
def diOn (s : State) (n : Nat) : Bool := bit (diCfg s n) 0 && cfgBit s lFIO 0x100 (n / 8) && !standby s

/-- Are the outputs of the module held off (R44, R59, R319, R448)? -/
def outputsOff (s : State) : Bool := !alive s lFIO || s.pwr.degraded || decide (s.pwr.phase ≠ .run ∧ s.pwr.phase ≠ .boot) || standby s

/-- Is the bank of a DO, or the group of an AO, enabled (R307, R315)? -/
def doBank (s : State) (n : Nat) : Bool := cfgBit s lFIO 0x100 (8 + n / 8)
def aoGroup (s : State) (n : Nat) : Bool := cfgBit s lFIO 0x100 (12 + n / 8)

/-- Steady or PWM "on" in modes 1 to 4 (R307, R309). -/
def doOnOff (s : State) (n : Nat) (on : Bool) : DoCmd :=
  if !on then .low
  else if bit (doCfg s n) 3 then .pwm (cfg s lFIO (0x304 + 16 * n) 23 0) (cfg s lFIO (0x308 + 16 * n) 23 0) else .high

/-- What the binder of a DO asks for (R307, R317). -/
def doBinder (s : State) (n : Nat) : DoCmd :=
  match doSel s n with
  | 1 => if s.pwr.released then doOnOff s n (cfgBit s lFIO 0x120 n) else .off
  | 2 => if s.fio.rel.getLsbD n then doOnOff s n (alarmTerm s n) else .off
  | 3 => if s.pwr.released then doOnOff s n (groupTerm s n) else .off
  | 4 => if s.pwr.released then doOnOff s n (bridgeOn s && cfgBit s lECHO 0x104 15 && decide (cfg s lECHO 0x104 4 0 = n)) else .off
  | 5 => match (doCh s n).eff with | some d => .pwm (cfg s lFIO (0x304 + 16 * n) 23 0) d | none => .off
  | _ => .off

/-- Is an output released (R317)? A force overrides SEL and no release; with SEL OFF, which names no release, it acts from the module-wide
one on (DEDUCED, log entry 79). -/
def doReleased (s : State) (n : Nat) : Bool :=
  match doSel s n with | 2 => s.fio.rel.getLsbD n | 5 => (doCh s n).latched.isSome | _ => s.pwr.released
def aoReleased (s : State) (n : Nat) : Bool :=
  if fld (aoCfg s n) 1 0 = 2 then (aoCh s n).latched.isSome else s.pwr.released

/-- The command of a DO when nothing holds it: the mirrored command in the dual-active window, a force, or its binder (R321, R322,
R452). -/
def doWanted (s : State) (n : Nat) : DoCmd :=
  if s.rope.role = 4#3 && bit (doCfg s n) 5 then tget s.fio.mirDo n .off
  else if doForced s n && doReleased s n then (if cfgBit s lFIO (0x600 + 4 * n) 0 then .high else .low)
  else doBinder s n

/-- The command of a DO (R306, R307, R311, R318, R319). -/
def doCmd (s : State) (n : Nat) : DoCmd :=
  if outputsOff s || !doBank s n || (doCh s n).tripped then .off
  else if (hdr s lFIO).frozen then tget s.fio.heldDo n .off else doWanted s n

/-- The level a command drives at this instant; none while the output is off. -/
def cmdLevel (s : State) (n : Nat) (c : DoCmd) : Option Bool :=
  match c with
  | .off => none
  | .low => some false
  | .high => some true
  | .pwm per duty => some (decide ((s.now - (doCh s n).perAt) / 10 % (max per 1) < duty))
def doLevel (s : State) (n : Nat) : Option Bool := cmdLevel s n (doCmd s n)

/-- The code an AO is told when nothing holds it; none is zero (R314, R321, R323). -/
def aoWanted (s : State) (n : Nat) : Option Nat :=
  if s.rope.role = 4#3 && bit (aoCfg s n) 4 then none
  else if aoForced s n && aoReleased s n then some (cfg s lFIO (0x680 + 4 * n) 15 0)
  else match fld (aoCfg s n) 1 0 with
    | 1 => if s.pwr.released then some (cfg s lFIO (0x504 + 16 * n) 15 0) else none
    | 2 => (aoCh s n).latched
    | _ => none

/-- The code of an AO (R313, R315, R318, R319); none is zero. -/
def aoCode (s : State) (n : Nat) : Option Nat :=
  if outputsOff s || !aoGroup s n then none
  else if (hdr s lFIO).frozen then tget s.fio.heldAo n none else aoWanted s n

/-- An item of field I/O (R303, R304, R316). -/
def fioItem (s : State) (t idx : Nat) (value : F32) (qual : BitVec 4) (stamp : DWord) : State :=
  send s lFIO lGAL (.item { srcType := BitVec.ofNat 3 t, idx := BitVec.ofNat 9 idx, value := value, qual := qual, stamp := stamp })

/-- A change `k`, and an item of SRC_TYPE 6 for each fault index that it changes (R316). -/
def withFaults (s : State) (k : State → State) : State :=
  let t := k s
  (List.range 119).foldl (fun u i =>
    if fioFault t i = fioFault s i then u else fioItem u 6 i (f32Bool (fioFault t i)) 0#4 (time64 u)) t

/-- The item of a DI's filtered state (R303). -/
def diItem (s : State) (n : Nat) (stamp : DWord) : State :=
  let c := diCh s n
  fioItem (setDi s n { c with first := true, last := c.filt }) 1 n (f32Bool c.filt) (if c.wb then 10#4 else 0#4) stamp

/-- The raw state of a DI at a pin voltage (R300): it rises at 12.5 V and falls at 10 V with TYPE 0, at 9 V and 7 V with TYPE 1, and keeps
its level between. -/
def rawState (type1 was : Bool) (mv : Nat) : Bool :=
  if (if type1 then 9000 else 12500) ≤ mv then true else if mv ≤ (if type1 then 7000 else 10000) then false else was

/-- DI_FILTERED_CHANGE (R300, R301, R303, R318): the input has stood at a voltage for its filter time (one below 0 V counts as 0 V); the first
report of an enabled channel is its first item. While frozen the new level waits. -/
def execDiFilteredChange (di : BitVec 6) (mv : BitVec 16) (stamp : DWord) (s : State) : Host.Outcome State Fault Refusal :=
  let n := di.toNat
  let c := diCh s n
  let level := rawState (bit (diCfg s n) 1) c.raw mv.toNat
  done (if !alive s lFIO || !diOn s n || c.wb then s
    else if (hdr s lFIO).frozen then setDi s n { c with raw := level, edge := stamp }
    else if c.filt = level && c.first then setDi s n { c with raw := level }
    else
      let s := raiseIf (decide (c.filt ≠ level)) s lFIO 0
      diItem (setDi s n { c with filt := level, raw := level }) n stamp)

/-- DI_WIRE_BREAK (R302, R303, R316). -/
def execDiWireBreak (di : BitVec 6) (stamp : DWord) (s : State) : Host.Outcome State Fault Refusal :=
  let n := di.toNat
  let c := diCh s n
  done (if !works s lFIO || !diOn s n || !bit (diCfg s n) 2 || c.wb then s
    else diItem (withFaults (raise s lFIO 1) (fun s => setDi s n { c with wb := true })) n stamp)

/-- A wire break ends: one item with QUAL GOOD and the current filtered state (R303). -/
def breakEnds (s : State) (n : Nat) (stamp : DWord) : State :=
  diItem (withFaults s (fun s => setDi s n { diCh s n with wb := false })) n stamp

/-- DI_WIRE_BREAK_CLEAR (R302, R303). -/
def execDiWireBreakClear (di : BitVec 6) (stamp : DWord) (s : State) : Host.Outcome State Fault Refusal :=
  let n := di.toNat
  done (if !works s lFIO || !diOn s n || !(diCh s n).wb then s else breakEnds s n stamp)

/-- Does CNT_CFG.EDGE select this edge (R304)? -/
def edgeCounts (s : State) (rising : Bool) : Bool :=
  match cfg s lFIO 0x134 17 16 with | 0 => rising | 1 => !rising | _ => true

/-- DI_COUNTER_EDGE (R304): CNT_n counts also while frozen (R318). -/
def execDiCounterEdge (di : BitVec 3) (rising : Bool) (stamp : DWord) (s : State) : Host.Outcome State Fault Refusal :=
  let n := di.toNat
  let c := diCh s n
  done (if !alive s lFIO || !diOn s n then s
    else if !edgeCounts s rising then setDi s n { c with raw := rising }
    else
      let s := setReg s lFIO (0x150 + 4 * n) (reg s lFIO (0x150 + 4 * n) + 1#32)
      setDi s n { c with
        raw := rising
        gateN := c.gateN + 1
        gateFirst := if c.gateN = 0 then stamp else c.gateFirst
        gateLast := stamp })

/-- The frequency of a gate (R304); for edges that share a stamp the spec states none: a free value. -/
def gateFreq (s : State) (c : DiCh) : F32 × State :=
  if c.gateN < 2 then (f32Zero, s)
  else if c.gateLast.toNat ≤ c.gateFirst.toNat then draw s
  else (f32RoundRat (((c.gateN - 1) * 1000000000 : Nat) : Int) (c.gateLast.toNat - c.gateFirst.toNat) 0 64 false, s)

/-- DI_GATE_END (R304, R318): while frozen the gate ends, and its frequency is neither written nor issued. -/
def execDiGateEnd (di : BitVec 3) (s : State) : Host.Outcome State Fault Refusal :=
  let n := di.toNat
  let c := diCh s n
  done (if !alive s lFIO || !diOn s n then s
    else if (hdr s lFIO).frozen then setDi s n { c with gateN := 0 }
    else
      let (f, s) := gateFreq s c
      let s := setDi s n { c with gateN := 0 }
      fioItem (setReg s lFIO (0x170 + 4 * n) f) 2 n f 0#4 (time64 s))

/-- The value of a DI frequency for a loop slot, in 1/256 Hz, and its validity (R275, R304). -/
def diFreqFx (s : State) (n : Nat) : Int × Bool := (f32ToFx (reg s lFIO (0x170 + 4 * n)) 8, !(diCh s n).wb)

/-- DI_WAKE (R305): in Sleep, for an input that WAKE_EN selected at Sleep entry. -/
def execDiWake (di : BitVec 3) (s : State) : Host.Outcome State Fault Refusal :=
  done (if s.fio.wakeEn.getLsbD di.toNat then wake s 2#4 else s)

/-- The effective duty of a loop-mode output (R309): ⌊D × PER / 65,535⌋. -/
def loopDuty (s : State) (n : Nat) : Option Nat := (doCh s n).latched.map (fun d => d * cfg s lFIO (0x304 + 16 * n) 23 0 / 65535)

/-- The registers of a DO channel. -/
def doKey (n k : Nat) : Bool := decide (rk lFIO (0x300 + 16 * n) ≤ k) && decide (k < rk lFIO (0x30C + 16 * n))

/-- Does a PWM period of the output run? -/
def pwmRuns (s : State) (n : Nat) : Bool := match doCmd s n with | .pwm _ _ => true | _ => false

/-- A PWM period begins: the latched duty acts (R309). -/
def periodStart (s : State) (n : Nat) : State :=
  setDo s n { doCh s n with perAt := s.now, eff := if doSel s n = 5 then loopDuty s n else none }

/-- DO_PWM_PERIOD_END (R81, R309): a pending set of the channel takes effect, and the next period begins. -/
def execDoPwmPeriodEnd (o : BitVec 5) (s : State) : Host.Outcome State Fault Refusal :=
  let n := o.toNat
  done (if !alive s lFIO then s
    else if (hdr s lFIO).frozen then setDo s n { doCh s n with perAt := s.now }
    else periodStart (takePart s lFIO (doKey n)).1 n)

/-- DO_LEVEL_WRITE (R307, R317). -/
def execDoLevelWrite (ctx : Ctx) (value : Word) (s : State) : Host.Outcome State Fault Refusal :=
  done (ownerWrite s ctx lFIO 0x120 (fun s => setReg s lFIO 0x120 value))

/-- AO_SET_WRITE (R313, R317). -/
def execAoSetWrite (ctx : Ctx) (ao : BitVec 4) (value : Word) (s : State) : Host.Outcome State Fault Refusal :=
  let o := 0x504 + 16 * ao.toNat
  done (ownerWrite s ctx lFIO o (fun s => setReg s lFIO o (value &&& 0xFFFF#32)))

/-- Is the readback of a DO compared (R310, R312, R322): driven, or the paired output of a standby, and its supply good? -/
def readsBack (s : State) (n : Nat) : Bool :=
  works s lFIO && doBank s n && !s.fio.sup.getLsbD (n / 8) &&
  (decide (doCmd s n ≠ .off) || (standby s && bit (doCfg s n) 5 && decide (tget s.fio.mirDo n .off ≠ .off)))

/-- DO_READBACK_ERROR and DO_READBACK_OK (R310). -/
def execDoReadbackError (o : BitVec 5) (s : State) : Host.Outcome State Fault Refusal :=
  let n := o.toNat
  done (if readsBack s n && !(doCh s n).rbErr then withFaults (raise s lFIO 2) (fun s => setDo s n { doCh s n with rbErr := true }) else s)
def execDoReadbackOk (o : BitVec 5) (s : State) : Host.Outcome State Fault Refusal :=
  let n := o.toNat
  done (if readsBack s n && (doCh s n).rbErr then withFaults s (fun s => setDo s n { doCh s n with rbErr := false }) else s)

/-- DO_PROTECT_TRIP (R311): the output goes off; protection acts while frozen too (R318). -/
def execDoProtectTrip (o : BitVec 5) (therm : Bool) (s : State) : Host.Outcome State Fault Refusal :=
  let n := o.toNat
  done (if decide (doCmd s n ≠ .off) then
    withFaults (raise s lFIO 2) (fun s => setDo s n { doCh s n with
      tripped := true, sc := (doCh s n).sc || !therm, therm := (doCh s n).therm || therm })
  else s)

/-- A W1C write of DO_STAT (R311): a bit that is set clears, and the output is tried again. -/
def doStatClear (s : State) (n : Nat) (value : Word) : State :=
  let c := doCh s n
  let sc := c.sc && !bit value 0
  let therm := c.therm && !bit value 3
  withFaults s (fun s => setDo s n { c with sc := sc, therm := therm, tripped := c.tripped && !(bit value 0 && c.sc) && !(bit value 3 && c.therm) })
def execDoFaultClear (ctx : Ctx) (o : BitVec 5) (value : Word) (s : State) : Host.Outcome State Fault Refusal :=
  done (ownerWrite s ctx lFIO (0x30C + 16 * o.toNat) (fun s => doStatClear s o.toNat value))

/-- DO_AUTORETRY (R311): the output is tried again; the bits stay until a W1C write. -/
def execDoAutoretry (o : BitVec 5) (s : State) : Host.Outcome State Fault Refusal :=
  let n := o.toNat
  done (if alive s lFIO && bit (doCfg s n) 7 && (doCh s n).tripped then setDo s n { doCh s n with tripped := false } else s)

/-- Is a DO steady high: on, or with a duty of its whole period (R309)? -/
def steadyHigh (c : DoCmd) : Bool := match c with | .high => true | .pwm per duty => decide (0 < per) && decide (per ≤ duty) | _ => false

/-- DO_OPEN_LOAD and DO_OPEN_LOAD_CLEAR (R311, R312). -/
def execDoOpenLoad (o : BitVec 5) (s : State) : Host.Outcome State Fault Refusal :=
  let n := o.toNat
  done (if works s lFIO && bit (doCfg s n) 6 && steadyHigh (doCmd s n) && !s.fio.sup.getLsbD (n / 8) && !(doCh s n).openLoad then
    withFaults (raise s lFIO 2) (fun s => setDo s n { doCh s n with openLoad := true }) else s)
def execDoOpenLoadClear (o : BitVec 5) (s : State) : Host.Outcome State Fault Refusal :=
  let n := o.toNat
  done (if works s lFIO && !s.fio.sup.getLsbD (n / 8) && (doCh s n).openLoad then
    withFaults s (fun s => setDo s n { doCh s n with openLoad := false }) else s)

/-- A field supply of an enabled bank or group (R312): DOV_0 to DOV_3, AOV_0, AOV_1. -/
def supplyWatched (s : State) (b : Nat) : Bool := alive s lFIO && cfgBit s lFIO 0x100 (8 + b)

/-- FIO_SUPPLY_FAULT and FIO_SUPPLY_FAULT_CLEAR (R312, R316). -/
def execFioSupplyFault (bank : Fin 6) (s : State) : Host.Outcome State Fault Refusal :=
  done (if supplyWatched s bank.val && !s.fio.sup.getLsbD bank.val then
    withFaults (raise s lFIO 4) (fun s => { s with fio := { s.fio with sup := s.fio.sup ||| BitVec.ofNat 6 (2 ^ bank.val) } }) else s)
def execFioSupplyFaultClear (bank : Fin 6) (s : State) : Host.Outcome State Fault Refusal :=
  done (if alive s lFIO && s.fio.sup.getLsbD bank.val then
    withFaults s (fun s => { s with fio := { s.fio with sup := s.fio.sup &&& ~~~BitVec.ofNat 6 (2 ^ bank.val) } }) else s)

/-- AO_FAULT (R315): LOOP_BREAK in current mode with LB_EN, SHORT in voltage mode; neither while the output is at zero. -/
def execAoFault (ao : BitVec 4) (short : Bool) (s : State) : Host.Outcome State Fault Refusal :=
  let n := ao.toNat
  let volts := bit (aoCfg s n) 2
  let c := aoCh s n
  done (if (aoCode s n).isNone || decide (volts ≠ short) then s
    else if short then
      (if c.short then s else withFaults (raise s lFIO 3) (fun s => setAo s n { c with short := true }))
    else if works s lFIO && bit (aoCfg s n) 3 && !c.loopBreak then
      withFaults (raise s lFIO 3) (fun s => setAo s n { c with loopBreak := true })
    else s)

/-- AO_FAULT_CLEAR (R315): LOOP_BREAK keeps its value while the output is at zero. -/
def execAoFaultClear (ao : BitVec 4) (s : State) : Host.Outcome State Fault Refusal :=
  let n := ao.toNat
  done (if alive s lFIO then
    withFaults s (fun s => setAo s n { aoCh s n with short := false, loopBreak := (aoCh s n).loopBreak && (aoCode s n).isNone }) else s)

/-- Every force clears, with FORCE_END (R320). -/
def forcesEnd (s : State) : State :=
  withFaults (raise s lFIO 5) (fun s =>
    let s := { s with fio := { s.fio with lock := none } }
    let s := (List.range 32).foldl (fun t n => setReg t lFIO (0x600 + 4 * n) 0#32) s
    (List.range 16).foldl (fun t n => setReg t lFIO (0x680 + 4 * n) 0#32) s)

/-- A write of FORCE_LOCK (R320): any context of FORCE_CTX may take or renew it, its holder may release it. -/
def forceLock (s : State) (ctx : Ctx) (value : Word) : State :=
  let secs := fld value 27 16
  if !cfgBit s lFIO 0x100 (24 + ctx.toNat) then capture s lFIO ctx true 0x8 0x12C
  else if bit value 31 then
    if (s.fio.lock.isSome && decide (s.fio.lock ≠ some ctx)) || decide (secs = 0) || decide (3600 < secs) then
      capture s lFIO ctx true 0x8 0x12C
    else { s with fio := { s.fio with lock := some ctx, lockUntil := s.now + 1000000000 * secs } }
  else if bit value 30 && decide (s.fio.lock = some ctx) then forcesEnd s
  else s
def execForceLockTake (ctx : Ctx) (value : Word) (s : State) : Host.Outcome State Fault Refusal :=
  done (access s ctx lFIO 0x12C true (fun s => forceLock s ctx (value ||| 0x80000000#32)))
def execForceLockRelease (ctx : Ctx) (value : Word) (s : State) : Host.Outcome State Fault Refusal :=
  done (access s ctx lFIO 0x12C true (fun s => forceLock s ctx ((value &&& 0x7FFFFFFF#32) ||| 0x40000000#32)))

/-- FORCE_LOCK_EXPIRY (R320): it runs while field I/O is frozen too. -/
def execForceLockExpiry (s : State) : Host.Outcome State Fault Refusal :=
  done (if alive s lFIO && s.fio.lock.isSome then forcesEnd s else s)

/-- A write of a force register (R321): only from the lock holder, whoever owns the page. -/
def forceWrite (s : State) (ctx : Ctx) (o : Nat) (mask value : Word) : State :=
  access s ctx lFIO o true (fun s =>
    if s.fio.lock = some ctx then withFaults s (fun s => setReg s lFIO o (value &&& mask)) else capture s lFIO ctx true 0x1 o)
def execDoForceWrite (ctx : Ctx) (o : BitVec 5) (value : Word) (s : State) : Host.Outcome State Fault Refusal :=
  done (forceWrite s ctx (0x600 + 4 * o.toNat) 0x3#32 value)
def execAoForceWrite (ctx : Ctx) (ao : BitVec 4) (value : Word) (s : State) : Host.Outcome State Fault Refusal :=
  done (forceWrite s ctx (0x680 + 4 * ao.toNat) 0x1FFFF#32 value)

/-- An accepted FIO set, or a change of the page's EN (R302, R303, R309, R312, R317): `old` is the state before. -/
def fioApplied (s old : State) : State :=
  let s := (List.range 64).foldl (fun t n =>
    let on := alive t lFIO && diOn t n
    let was := alive old lFIO && diOn old n
    if !on then (if was then withFaults t (fun t => setDi t n {}) else t)
    else if (diCh t n).wb && !bit (diCfg t n) 2 then breakEnds t n (time64 t)
    else t) s
  let s := (List.range 32).foldl (fun t n =>
    let c := doCh t n
    let t := if doSel t n ≠ 5 then setDo t n { c with latched := none, eff := none } else t
    if doCfg t n ≠ doCfg old n || reg t lFIO (0x304 + 16 * n) ≠ reg old lFIO (0x304 + 16 * n) || reg t lFIO (0x308 + 16 * n) ≠ reg old lFIO (0x308 + 16 * n)
    then periodStart t n else t) s
  let s := (List.range 16).foldl (fun t n => if fld (aoCfg t n) 1 0 ≠ 2 then setAo t n { aoCh t n with latched := none } else t) s
  refreshRel (withFaults s (fun s => { s with fio := { s.fio with
    sup := (List.range 6).foldl (fun m b => if supplyWatched s b then m else m &&& ~~~BitVec.ofNat 6 (2 ^ b)) s.fio.sup } }))

/-- FROZEN comes on: every output keeps its level or its running PWM (R318). -/
def fioFreeze (s : State) : State :=
  { s with fio := { s.fio with
      heldDo := (List.range 32).foldl (fun t n => tset t n (doWanted s n) .off) []
      heldAo := (List.range 16).foldl (fun t n => tset t n (aoWanted s n) none) [] } }

/-- FREEZE clears: each DI whose state differs from its last item issues one (R318). -/
def fioUnfreeze (s : State) : State :=
  let s := { s with fio := { s.fio with heldDo := [], heldAo := [] } }
  (List.range 64).foldl (fun t n =>
    let c := diCh t n
    if diOn t n && c.first && !c.wb && decide (c.raw ≠ c.last) then
      diItem (setDi (raise t lFIO 0) n { c with filt := c.raw }) n c.edge
    else t) s

/-- A soft reset (R69, R318): outputs at their reset states, forces gone; a fault that ends with it is reported as ended (R316). -/
def fioSoftReset (s : State) : State := withFaults s (fun s => { s with fio := { wakeEn := s.fio.wakeEn } })

/-- Views of the page (R324). -/
def fioStat (s : State) : Word :=
  let ok (b : Nat) : Bool := supplyWatched s b && !s.fio.sup.getLsbD b
  (List.range 6).foldl (fun w b => w ||| bitw (ok b) b) (bitw (fioFault s 118) 8)
def diWord (s : State) (f : DiCh → Bool) (hi : Bool) : Word :=
  (List.range 32).foldl (fun w i => w ||| bitw (f (diCh s (i + if hi then 32 else 0))) i) 0#32
def doOut (s : State) : Word := (List.range 32).foldl (fun w n => w ||| bitw (doLevel s n = some true) n) 0#32

/-- DO_PIN (R310): the commanded level of a driven output without RB_ERR; the spec states no level for another pin, whose bit is free. -/
def doPinFree (s : State) : Word :=
  (List.range 32).foldl (fun v n => v ||| bitw ((doLevel s n).isNone || (doCh s n).rbErr) n) 0#32
def doStat (s : State) (n : Nat) : Word :=
  let c := doCh s n
  bitw c.sc 0 ||| bitw c.rbErr 1 ||| bitw c.openLoad 2 ||| bitw c.therm 3
def aoStat (s : State) (n : Nat) : Word := bitw (aoCh s n).loopBreak 0 ||| bitw (aoCh s n).short 1
def forceLockWord (s : State) : Word :=
  match s.fio.lock with | some c => BitVec.ofNat 32 (c.toNat + 8) | none => 0#32
def forceRemain (s : State) : Nat := if s.fio.lock.isSome then (s.fio.lockUntil - s.now + 999999999) / 1000000000 else 0
def faultMap (s : State) (w : Nat) : Word := (List.range 32).foldl (fun v i => v ||| bitw (fioFault s (32 * w + i)) i) 0#32

end Sys2Proof.Machine
end

