-- ==== Sys2Proof/Machine/Loop.lean ====
section
/-! DEFINITION. The loop engine: frames, slots, the slot computation, modes, trips, provisional feedback (R269 to R299). -/
namespace Sys2Proof.Machine

def setSlot (s : State) (n : Nat) (v : Slot) : State := { s with loop := { s.loop with slots := tset s.loop.slots n v {} } }
def sval (s : State) (n o : Nat) : Int := sInt32 (sreg s n o)
def suns (s : State) (n o : Nat) : Int := ((sreg s n o).toNat : Int)
def sSpec (s : State) (n : Nat) : Bool := bit (sreg s n 0x10) 1
def sFbKind (s : State) (n : Nat) : Nat := fld (sreg s n 0x10) 5 4
def sSpKind (s : State) (n : Nat) : Nat := fld (sreg s n 0x10) 7 6
def sOutKind (s : State) (n : Nat) : Nat := fld (sreg s n 0x10) 9 8
def sFbIdx (s : State) (n : Nat) : Nat := fld (sreg s n 0x14) 8 0
def sSpIdx (s : State) (n : Nat) : Nat := fld (sreg s n 0x14) 19 12
def sOutIdx (s : State) (n : Nat) : Nat := fld (sreg s n 0x14) 31 24
def sTrk (s : State) (n : Nat) : Nat := fld (sreg s n 0x10) 30 24
def sDiv (s : State) (n : Nat) : Nat := fld (sreg s n 0x1C) 15 0

/-- A register as the run of this frame uses it: a set that took effect since the run began is the next run's (R270). -/
def runReg (s : State) (n o : Nat) : Word :=
  match (slot s n).old.find? (fun e => decide (e.1 = rk (uSLOT n) o)) with
  | some e => e.2
  | none => sreg s n o
def runFbKind (s : State) (n : Nat) : Nat := fld (runReg s n 0x10) 5 4
def runSpec (s : State) (n : Nat) : Bool := bit (runReg s n 0x10) 1

/-- What a step of the running run does, with the registers as that run uses them (R270). -/
def inRun (s : State) (n : Nat) (f : State → State) : State :=
  let old := (slot s n).old
  if old.isEmpty then f s
  else
    let now := old.map (fun e => (e.1, rget s e.1))
    now.foldl (fun t e => rset t e.1 e.2) (f (old.foldl (fun t e => rset t e.1 e.2) s))

/-- A sample of a slot's feedback by its channel and SEQ. -/
def smpId (ch seq : Nat) : Nat := 0x10000 * ch + seq

/-- Is a slot released: out of OFF (R286, R293)? -/
def slotRel (s : State) (n : Nat) : Bool := decide ((slot s n).mode ≠ 0#3)

/-- Does the engine run (R269, R295, R296)? The frame in which FREEZE is set is finished. -/
def loopRuns (s : State) : Bool := works s lLOOP

/-- A network value (R378), and its value and validity for a slot (R275). -/
def nvEnt (s : State) (v : Nat) : NvEnt := tget s.net.nv v {}
def setNv (s : State) (v : Nat) (e : NvEnt) : State := { s with net := { s.net with nv := tset s.net.nv v e {} } }
def nvDir (s : State) (v : Nat) : Nat := wcfg s lNET 0x174 v 1 0
def nvIn (s : State) (v : Nat) : Int × Bool :=
  (sInt32 (nvEnt s v).value, decide (nvDir s v = 1) && !(nvEnt s v).stale && unitOn s lNET)

/-- The output of a slot as another slot reads it: OUT_VAL as latched last; 0 and not valid while OFF (R275). -/
def slotOut (s : State) (n : Nat) : Int × Bool := if slotRel s n then ((slot s n).lat, true) else (0, false)

/-- x >>a n, rounding toward minus infinity (R278). -/
def sar (x : Int) (n : Nat) : Int := x / (2 ^ n : Nat)

/-- The integer square root, truncated, of a number below 2^(2 n) (R284). -/
def isqrtGo (x : Nat) : Nat → Nat → Nat
  | 0, r => r
  | n + 1, r => isqrtGo x n (if (r + 2 ^ n) * (r + 2 ^ n) ≤ x then r + 2 ^ n else r)
def isqrt (x : Nat) : Nat := isqrtGo x 48 0

/-- Clamp into [lo, hi]. -/
def clampI (x lo hi : Int) : Int := min (max x lo) hi
def signI (x : Int) : Int := if x < 0 then -1 else if 0 < x then 1 else 0

/-- The profile generator (R284): the new PP, V and A, and p. -/
def profile (s : State) (n : Nat) (c : SlotCore) (tgt : Int) : SlotCore × Int :=
  if !bit (sreg s n 0x10) 3 then (c, tgt)
  else
    let pv := suns s n 0x40
    let pa := suns s n 0x44
    let pj := suns s n 0x48
    let d := tgt * 65536 - c.pp
    let sg := signI d
    let vb : Int := (isqrt (2 * pa.natAbs * d.natAbs) : Nat)
    let vd := sg * min pv vb
    let ad := clampI (vd - c.v) (-pa) pa
    let a := c.a + clampI (ad - c.a) (-pj) pj
    let v := clampI (c.v + a) (-pv) pv
    if sg ≠ 0 ∧ signI v = sg ∧ d.natAbs ≤ v.natAbs then
      ({ c with pp := tgt * 65536, v := 0, a := 0 }, sat32 (sar (tgt * 65536) 16))
    else ({ c with pp := c.pp + v, v := v, a := a }, sat32 (sar (c.pp + v) 16))

/-- Breakpoint `k` of the slot's selected gain-table bank in the pinned loop region (R282). -/
def gtPoint (s : State) (n k : Nat) : Nat × Nat :=
  let a := loopBase s + 0x400 * n + 0x200 * fld (sreg s n 0x10) 19 19 + 8 * k
  (mgetLE s.mem a 4, mgetLE s.mem (a + 4) 4)

/-- gain(a) (R281). -/
def gainOf (s : State) (n a : Nat) : Int :=
  let size := fld (sreg s n 0x4C) 6 0
  if size = 0 then 65536
  else
    let first := gtPoint s n 0
    let last := gtPoint s n (size - 1)
    if a ≤ first.1 then (first.2 : Nat)
    else if last.1 ≤ a then (last.2 : Nat)
    else
      match (List.range (size - 1)).find? (fun k => decide (a < (gtPoint s n (k + 1)).1)) with
      | some k =>
        let lo := gtPoint s n k
        let hi := gtPoint s n (k + 1)
        (lo.2 : Int) + Int.tdiv (((hi.2 : Int) - (lo.2 : Int)) * ((a : Int) - (lo.1 : Int))) ((hi.1 : Int) - (lo.1 : Int))
      | none => (last.2 : Nat)

/-- One notch (R283): coefficients from register `o`, shifts from `sh`. -/
def notch (s : State) (n o sh : Nat) (h : Notch) (x : Int) : Int × Notch :=
  let b (i : Nat) (v : Int) : Int := sar (sval s n (o + 4 * i) * v) (fld (sreg s n sh) (5 * i + 4) (5 * i))
  let y := sat32 (b 0 x + b 1 h.x1 + b 2 h.x2 - b 3 h.y1 - b 4 h.y2)
  (y, ⟨x, h.x1, y, h.y1⟩)

/-- How many notches run, and both of them; one that N_NOTCH does not enable keeps zero histories (R279, R283). -/
def nNotch (s : State) (n : Nat) : Nat := fld (sreg s n 0x10) 11 10
def notches (s : State) (n : Nat) (c : SlotCore) (v : Int) : Int × SlotCore :=
  if nNotch s n = 0 then (v, { c with n0 := {}, n1 := {} })
  else
    let (y0, h0) := notch s n 0x50 0x78 c.n0 v
    if nNotch s n = 1 then (y0, { c with n0 := h0, n1 := {} })
    else
      let (y1, h1) := notch s n 0x64 0x7C c.n1 y0
      (y1, { c with n0 := h0, n1 := h1 })

/-- Every enabled notch's histories at one value, the others' at zero (R283, R287, R294). -/
def notchSet (s : State) (n : Nat) (c : SlotCore) (x : Int) : SlotCore :=
  let h : Notch := ⟨x, x, x, x⟩
  { c with n0 := if 1 ≤ nNotch s n then h else {}, n1 := if 2 ≤ nNotch s n then h else {} }

/-- The output limits of a slot. -/
def outClamp (s : State) (n : Nat) (x : Int) : Int := min (max x (sval s n 0x38)) (sval s n 0x3C)

/-- A coefficient term (R279): register, shift field, operand. -/
def term (s : State) (n o sh : Nat) (x : Int) : Int := sar (sval s n o * x) (fld (sreg s n 0x34) (sh + 4) sh)

/-- What an execution gives: the state, out, SAT, p and e. -/
structure ExecRes where
  core : SlotCore
  out : Int
  sat : Bool
  p : Int
  e : Int
deriving DecidableEq, Repr

/-- The slot computation in AUTO (R279 to R281). `start`: the first execution after release, whose notch histories are v (R294). -/
def autoExec (s : State) (n : Nat) (c : SlotCore) (tgt fb : Int) (trkSat start : Bool) : ExecRes :=
  let (c, p) := profile s n c tgt
  let e := sat32 (p - fb)
  let g := gainOf s n e.natAbs
  let pt := term s n 0x24 0 e
  let dt := term s n 0x2C 16 (sat32 (c.fbPrev - fb))
  let ft := term s n 0x30 24 p
  let pd := sar (g * sat32 (pt + dt)) 16
  let v := sat32 (pd + c.i + ft)
  let c := if start then notchSet s n c v else c
  let (y, c) := notches s n c v
  let sat := decide (y < sval s n 0x38) || decide (sval s n 0x3C < y) || trkSat
  let c := if sat then c else { c with i := sat32 (c.i + term s n 0x28 8 e) }
  ⟨{ c with fbPrev := fb }, outClamp s n y, sat, p, e⟩

/-- Tracking (R287): the state that lets AUTO begin without a bump. -/
def track (s : State) (n : Nat) (c : SlotCore) (out fb : Int) : ExecRes :=
  let c := notchSet s n { c with pp := fb * 65536, v := 0, a := 0, fbPrev := fb, i := sat32 (out - term s n 0x30 24 fb) } out
  ⟨c, out, false, fb, 0⟩

/-- What a slot reads as its setpoint: the value, its PROV mark, and its validity (R275, R277). -/
def setpoint (s : State) (n : Nat) : Int × Bool × Bool :=
  match sSpKind s n with
  | 1 => let r := nvIn s (sSpIdx s n); (r.1, false, r.2)
  | 2 => let t := sSpIdx s n % 64; let r := slotOut s t; (r.1, (slot s t).latProv, r.2)
  | _ => (sval s n 0x20, false, true)

/-- The last valid setpoint of the source that the slot names, with its mark: the value a network entry received last, the output of a slot
as it stood when it was released last (R275). None where the source has never been valid. -/
def setpointKept (s : State) (n : Nat) : Option (Int × Bool) :=
  match sSpKind s n with
  | 1 => (nvEnt s (sSpIdx s n)).good.map (fun w => (sInt32 w, false))
  | 2 => let t := slot s (sSpIdx s n % 64); if t.wasRel then some (t.lat, t.latProv) else none
  | _ => none

/-- A value kind of feedback at an execution (R288): usable with its PROV mark, not valid, or no usable sample. -/
inductive Fb where
  | usable (v : Int) (prov : Bool)
  | bad
  | none
deriving DecidableEq, Repr

/-- The feedback of a slot at its ready tick (R272, R275, R288, R292). A status item makes the value not valid. -/
def feedback (s : State) (n : Nat) : Fb :=
  let l := slot s n
  match sFbKind s n with
  | 0 =>
    if l.status then .bad
    else match l.arr with
      | some (.value _ fx q) =>
        if sSpec s n then (if l.shadow.isSome then .none else if q.toNat ≤ 1 then .usable fx true else .bad)
        else match l.res with
          | some (some q) => if q.toNat ≤ 1 then .usable fx false else .bad
          | _ => .none
      | _ => .none
  | 1 => let r := diFreqFx s (sFbIdx s n % 8); if r.2 then .usable r.1 false else .bad
  | 2 => let r := nvIn s (sFbIdx s n % 256); if r.2 then .usable r.1 false else .bad
  | _ => let t := sFbIdx s n % 64; let r := slotOut s t; if r.2 then .usable r.1 (slot s t).latProv else .bad

/-- SLOT_EVT of a slot (R291, R297). -/
def slotEvt (s : State) (n : Nat) : State :=
  let o := if n < 32 then 0x128 else 0x12C
  setReg s lLOOP o (reg s lLOOP o ||| BitVec.ofNat 32 (2 ^ (n % 32)))

/-- A slot's mode changes (R286, R297). -/
def setMode (s : State) (n : Nat) (m : BitVec 3) : State :=
  if (slot s n).mode = m then s
  else slotEvt (raise (setSlot s n { slot s n with mode := m, frz := none }) lLOOP 1) n

/-- The trip bits change; a change of "any trip bit set" issues the item (R291). -/
def setTrips (s : State) (n : Nat) (t : BitVec 3) : State :=
  let l := slot s n
  let s := setSlot s n { l with trips := t }
  if decide (l.trips = 0#3) = decide (t = 0#3) then (if l.trips = t then s else slotEvt s n)
  else
    let s := slotEvt (raise s lLOOP 0) n
    send s lLOOP lGAL (.item { srcType := 3#3, idx := BitVec.ofNat 9 n, value := f32Bool (decide (t ≠ 0#3)), stamp := time64 s })

/-- MANUAL by command or trip: MAN_OUT becomes the last out (R286). -/
def toManual (s : State) (n : Nat) : State := setMode (setReg s (uSLOT n) 0xA0 (BitVec.ofInt 32 (slot s n).out)) n 2#3

/-- A trip bit is set (R286): 0 FB_LOSS, 1 FREEZE, 2 FOLLOW. SAFE outranks HOLD; MANUAL and SAFE stay. -/
def tripAct (s : State) (n k : Nat) : Nat := fld (sreg s n 0x10) (13 + 2 * k) (12 + 2 * k)
def trip (s : State) (n k : Nat) : State :=
  let l := slot s n
  if l.trips.getLsbD k then s
  else
    let s := setTrips s n (l.trips ||| BitVec.ofNat 3 (2 ^ k))
    match l.mode.toNat, tripAct s n k with
    | 1, 0 => setMode s n 3#3
    | 1, 1 => setMode s n 4#3
    | 1, 2 => toManual s n
    | 3, 1 => setMode s n 4#3
    | _, _ => s

/-- A missing sample (R288): MISS, and FB_LOSS when it reaches FB_LOSS_CNT. -/
def missOne (s : State) (n : Nat) : State :=
  let l := slot s n
  let m := min (l.core.miss + 1) 255
  let s := setSlot s n { l with core := { l.core with miss := m } }
  if fld (sreg s n 0x98) 7 0 ≤ m then trip s n 0 else s

/-- A waiting command (R286, R287, R291): 1 AUTO, 2 MANUAL, 3 TRIP_CLR. CMD_RES 0 OK, 1 STATE. -/
def slotCmd (s : State) (n : Nat) (op : BitVec 2) : State :=
  let l := slot s n
  let res (t : State) (r : BitVec 4) : State := setSlot t n { slot t n with cmdRes := r }
  match op.toNat with
  | 1 => if l.mode = 1#3 then res s 0#4 else if l.trips = 0#3 then res (setMode s n 1#3) 0#4 else res s 1#4
  | 2 => res (if l.mode = 2#3 then s else toManual s n) 0#4
  | 3 => let s := setTrips s n (if l.fbOk then 0#3 else l.trips &&& 1#3)
         res (setSlot s n { slot s n with frz := none, tFe := 0 }) 0#4
  | _ => s

/-- The freeze window (R289): FREEZE, and the window after this execution. -/
def freezeStep (s : State) (n : Nat) (w : Option FrzWin) (fb out : Int) : Bool × Option FrzWin :=
  let tb := if bit (sreg s n 0x10) 18 then 100000000 else 1000000
  let time := fld (sreg s n 0x84) 31 16
  if time = 0 then (false, none)
  else match w with
    | some w =>
      if suns s n 0x88 < ((fb - w.fbRef).natAbs : Int) then (false, some ⟨fb, out, 0, 0⟩)
      else
        let t := w.t + sDiv s n * 20000
        let x := max w.x ((out - w.outRef).natAbs : Int)
        if time * tb ≤ t then (decide (suns s n 0x8C < x), none) else (false, some { w with t := t, x := x })
    | none => (false, some ⟨fb, out, 0, 0⟩)

/-- The following error (R290): FOLLOW, and t_fe in ns. -/
def followStep (s : State) (n : Nat) (tFe : Nat) (p fb : Int) : Bool × Nat :=
  let tb := if bit (sreg s n 0x10) 18 then 100000000 else 1000000
  let lim := suns s n 0x80
  if lim = 0 then (false, 0)
  else if lim < ((p - fb).natAbs : Int) then
    let t := tFe + sDiv s n * 20000
    (decide (fld (sreg s n 0x84) 15 0 * tb ≤ t), t)
  else (false, 0)

/-- The outputs of MANUAL, HOLD and SAFE (R287). -/
def heldOut (s : State) (n : Nat) : Int :=
  let l := slot s n
  match l.mode.toNat with
  | 2 => outClamp s n (sval s n 0xA0)
  | 4 =>
    let target := sval s n 0x90
    let rate := suns s n 0x94
    l.out + clampI (target - l.out) (-rate) rate
  | _ => l.out

/-- The cascade (R285): is the watched slot saturated, and its feedback while it is released and not in AUTO. -/
def trkSat (s : State) (n : Nat) : Bool :=
  let t := sTrk s n
  decide (t < 64) && decide ((slot s t).mode = 1#3) && (slot s t).sat
def cascHold (s : State) (n : Nat) : Option Int :=
  let t := sTrk s n
  if t < 64 ∧ slotRel s t = true ∧ (slot s t).mode ≠ 1#3 then some (slot s t).fb else none

/-- An execution ends (R273, R277, R298): out and the values shown, with the mark of its feedback and of its output, which waits for
OUT_PHASE. -/
def execEnd (s : State) (n : Nat) (r : ExecRes) (fb : Int) (ok fbProv prov casc : Bool) : State :=
  let l := slot s n
  let s := setSlot s n { l with
    core := r.core, out := r.out, sat := r.sat, sp := r.p, err := r.e, fb := fb, fbOk := ok, fbProv := fbProv, prov := prov, casc := casc,
    due := true, resumed := false }
  setReg s (uSLOT n) 0xC4 (reg s (uSLOT n) 0xC4 + 1#32)

/-- An execution in a mode other than OFF, its feedback and setpoint known (R279 to R290): `fp` marks the feedback as provisional, `mark`
is the setpoint's mark. An output that follows a watched slot's feedback takes that one's mark too (R277, R285). -/
def runMode (s : State) (n : Nat) (tgt fb : Int) (ok fp mark start : Bool) : State :=
  let l := slot s n
  let c := if l.resumed then { l.core with fbPrev := fb } else l.core
  if l.mode ≠ 1#3 then execEnd s n (track s n c (heldOut s n) fb) fb ok fp (fp || mark) false
  else
    let hold := cascHold s n
    let r := match hold with
      | some f => track s n c (outClamp s n f) fb
      | none => autoExec s n c tgt fb (trkSat s n) start
    let (fr, w) := if ok then freezeStep s n (if l.resumed then none else l.frz) fb r.out else (false, none)
    let (fo, t) := if ok then followStep s n (if l.resumed then 0 else l.tFe) r.p fb else (false, l.tFe)
    let s := setSlot s n { l with frz := w, tFe := t }
    let s := if fo then trip s n 2 else s
    let s := if fr then trip s n 1 else s
    if (slot s n).mode = 1#3 then execEnd s n r fb ok fp (fp || mark || (hold.isSome && (slot s (sTrk s n)).fbProv)) hold.isSome
    else execEnd s n (track s n c (heldOut s n) fb) fb ok fp (fp || mark) false

/-- The setpoint of an execution; a source that was never valid has no value that the spec states: a free value. -/
def takeSetpoint (s : State) (n : Nat) : Int × Bool × State :=
  let (v, mark, ok) := setpoint s n
  if ok then (v, mark, s)
  else match setpointKept s n with
    | some (v, mark) => (v, mark, s)
    | none =>
      let (w, s) := draw s
      (sInt32 w, false, s)

/-- The execution of a released slot (R272, R285 to R292). -/
def slotRun (s : State) (n : Nat) : State :=
  let s := (slot s n).cmds.foldl (fun t op => slotCmd t n op) s
  let s := setSlot s n { slot s n with cmds := [] }
  let f := feedback s n
  let l := slot s n
  -- an earlier sample is still unresolved: the state goes back to its shadow (R292)
  let s := match l.shadow with
    | some (_, _, c) => setSlot s n { l with core := { c with held := l.core.held }, shadow := none }
    | none => s
  let s := setSlot s n { slot s n with status := false }
  let l := slot s n
  let seq := match l.arr with | some (.value q fx _) => some (q, fx) | _ => none
  match f with
  | .usable v prov =>
    let sh := if sFbKind s n = 0 && prov then seq.map (fun e => (e.1, e.2, l.core)) else none
    let s := setSlot s n { l with shadow := sh, core := { l.core with miss := 0, held := if prov then l.core.held else some v } }
    let (tgt, mark, s) := takeSetpoint s n
    runMode s n tgt v true prov mark false
  | .bad =>
    let s := trip s n 0
    let (tgt, mark, s) := takeSetpoint s n
    runMode s n tgt ((slot s n).core.held.getD 0) false false mark false
  | .none =>
    let s := missOne (countUp s (uSLOT n) 0xC0 0 16) n
    let (tgt, mark, s) := takeSetpoint s n
    runMode s n tgt ((slot s n).core.held.getD 0) false false mark false

/-- The value that can release a slot, with its mark (R277, R293): usable, and from a Chamber a confirmed one. -/
def releaseValue (s : State) (n : Nat) : Option (Int × Bool) :=
  if sFbKind s n = 0 && sSpec s n then (slot s n).core.held.map (fun v => (v, false))
  else match feedback s n with | .usable v p => some (v, p) | _ => none

/-- May the slot be released (R293, R449)? -/
def mayRelease (s : State) (n : Nat) : Bool :=
  (decide (sFbKind s n ≠ 3) || slotRel s (sFbIdx s n % 64)) && (decide (sSpKind s n ≠ 2) || slotRel s (sSpIdx s n % 64)) &&
  ((decide (sFbKind s n ≠ 1) && decide (sFbKind s n ≠ 2) && decide (sSpKind s n ≠ 1)) || s.pwr.released) && !standby s

/-- Release (R286, R293, R294), or a warm takeover into the mirrored mode (R452). -/
def slotRelease (s : State) (n : Nat) (fb : Int) (fp : Bool) : State :=
  let l := { slot s n with wasRel := true }
  match l.mirror with
  | some m =>
    let r := track s n { l.core with held := some fb, miss := 0 } m.out fb
    let s := setSlot s n { l with core := r.core, out := m.out, mirror := none, trips := m.trips, frz := none, tFe := 0, status := false }
    let s := setMode s n m.mode
    let (tgt, mark, s) := takeSetpoint s n
    runMode s n tgt fb true fp mark false
  | none =>
    let c : SlotCore := { pp := fb * 65536, i := sval s n 0x9C, fbPrev := fb, held := some fb }
    let s := setSlot s n { l with core := c, frz := none, tFe := 0, status := false }
    let s := setMode s n (if bit (sreg s n 0x10) 2 then 2#3 else 1#3)
    let s := (slot s n).cmds.foldl (fun t op => slotCmd t n op) s
    let s := setSlot s n { slot s n with cmds := [] }
    let (tgt, mark, s) := takeSetpoint s n
    runMode s n tgt fb true fp mark true

/-- The resolution of a used provisional sample (R292). -/
def shadowResolved (s : State) (n : Nat) (fx : Int) (c : SlotCore) (r : Option (BitVec 4)) : State :=
  let l := slot s n
  match r with
  | some q =>
    if q.toNat ≤ 1 then setSlot s n { l with shadow := none, core := { l.core with held := some fx } }
    else trip (setSlot s n { l with shadow := none, core := c }) n 0
  | none =>
    let s := setSlot s n { l with shadow := none, core := c }
    raise (countUp (missOne s n) (uSLOT n) 0xC0 16 16) lLOOP 3

/-- One resolution of an evaluated sample of the slot (R272, R288, R292, R293). -/
def resolved (s : State) (n id : Nat) (r : Option (BitVec 4)) : State :=
  let l := slot s n
  match l.waits.find? (fun e => decide (e.1 = id)) with
  | none => s
  | some (_, fx) =>
    let s := setSlot s n { l with waits := l.waits.filter (fun e => e.1 ≠ id) }
    let l := slot s n
    let held := if (match r with | some q => decide (q.toNat ≤ 1) | none => false) then setSlot s n { l with core := { l.core with held := some fx } } else s
    match l.shadow with
    | some (q, fx, c) => if q = id then shadowResolved s n fx c r else held
    | none =>
      if runSpec s n then held
      else match l.arr with
        | some (.value q _ _) => if q = id ∧ l.execd = false then setSlot s n { l with res := some r, readyAt := s.now } else s
        | _ => s

/-- Must a resolution of sample `id` wait: the sample is in the evaluator, or an execution is still to use it as provisional (R272, R292)? -/
def tooEarly (s : State) (n id : Nat) : Bool :=
  let l := slot s n
  l.evalIn.any (fun x => decide (smpId x.ch x.seq.toNat = id)) ||
  (runSpec s n && l.runs && !l.execd && (match l.arr with | some (.value q _ _) => decide (q = id) | _ => false))

/-- The resolutions that came too early act as soon as they may. -/
def takeEarly (s : State) (n : Nat) : State :=
  let l := slot s n
  let p (e : Nat × Option (BitVec 4)) : Bool := !tooEarly s n e.1
  if l.early.isEmpty then s
  else
    (l.early.filter p).foldl (fun t e => resolved t n e.1 e.2) (setSlot s n { l with early := l.early.filter (fun e => !p e) })

/-- An execution at the slot's ready tick: a released slot computes, another is released where it may be (R293). A status item has its say
in one execution. -/
def slotExec (s : State) (n : Nat) : State :=
  let s := setSlot s n { slot s n with execd := true }
  if slotRel s n then takeEarly (slotRun s n) n
  else
    let s := takeEarly s n
    let s := if mayRelease s n then (match releaseValue s n with | some v => slotRelease s n v.1 v.2 | none => s) else s
    setSlot s n { slot s n with status := false }

/-- Has the slot reached its ready tick, as far as its inputs say (R272)? -/
def slotReady (s : State) (n : Nat) : Bool :=
  let l := slot s n
  if runFbKind s n ≠ 0 then true
  else l.late || (match l.arr with
    | some .noSample => runSpec s n
    | some (.value _ _ _) => runSpec s n || l.res.isSome
    | none => false)

/-- Does the slot run in this frame and wait for its execution? -/
def slotWaits (s : State) (n : Nat) : Bool := loopRuns s && sEn s n && (slot s n).runs && !(slot s n).execd

/-- The class of a slot, and its ready tick as far as it orders slots of one class (R271): the uptime of its input, or FB_PHASE. -/
def slotClass (s : State) (n : Nat) : Nat := if runFbKind s n ≠ 0 then 3 else if runSpec s n then 1 else 2
def slotTick (s : State) (n : Nat) : Nat := if runFbKind s n ≠ 0 then fld (runReg s n 0x18) 12 0 else (slot s n).readyAt

/-- Does slot `m` enter the pipeline before slot `n` (R271)? -/
def slotBefore (s : State) (m n : Nat) : Bool :=
  decide (slotClass s m < slotClass s n) ||
  (decide (slotClass s m = slotClass s n) && (decide (slotTick s m < slotTick s n) || (decide (slotTick s m = slotTick s n) && decide (m < n))))

/-- May the slot enter the pipeline: it runs in this frame, it is ready, and no ready slot goes before it (R271, R272)? -/
def slotEnters (s : State) (n : Nat) : Bool :=
  slotWaits s n && slotReady s n && !(List.range 64).any (fun m => slotWaits s m && slotReady s m && slotBefore s m n)

/-- The strobes of the next frame, for each Chamber (R123, R270); a Chamber whose domain is off gives no sample (R14). -/
def orderStrobes (s : State) : State :=
  (List.range 64).foldl (fun t n =>
    if (slot t n).next && decide (sFbKind t n = 0) then
      let c := sFbIdx t n % 256 / 32
      if unitOn t (lCHMB c) then
        setChm t c { chm t c with fbSent := (chm t c).fbSent ++ [⟨n, sFbIdx t n % 32, fld (sreg t n 0x18) 12 0, t.loopFrameTime + 20000⟩] }
      else dropAbsent t lLOOP
    else t) s

/-- A slot goes to OFF (R286, R294): it keeps what its last execution left, the output latched last and its trip bits (R291), and waits for a
confirmed value before it is released again. -/
def slotOff (s : State) (n : Nat) : State :=
  let s := setMode s n 0#3
  let l := slot s n
  setSlot s n { l with
    core := { l.core with held := none }, shadow := none, tFe := 0, runs := false, due := false, old := [], late := false, arr := none,
    res := none, status := false, resumed := false, mirror := none }

/-- A slot's set takes effect (R270, R294): the run in progress keeps the old values of what changed; EN = 0 takes the slot to OFF. -/
def slotTake (s : State) (n : Nat) : State :=
  let r := takeEffect s (uSLOT n)
  let l := slot r.1 n
  let kept := r.2.filter (fun k => !l.old.any (fun e => decide (e.1 = k)))
  let t := if l.runs then setSlot r.1 n { l with old := l.old ++ kept.map (fun k => (k, rget s k)) } else r.1
  if sEn t n then t else slotOff t n

/-- Does the slot run in the frame after frame `cnt` (R270)? -/
def slotNext (s : State) (n cnt : Nat) : Bool :=
  sEn s n && decide ((cnt + 1) % 0x100000000 % max (sDiv s n) 1 = fld (sreg s n 0x1C) 31 16)

/-- A frame begins for a slot (R81, R270): its run of this frame, and where a run in the next one follows, the boundary of its set. -/
def slotFrame (cnt : Nat) (s : State) (n : Nat) : State :=
  let l := slot s n
  let off := decide (sFbKind s n = 0) && !unitOn s (lCHMB (sFbIdx s n % 256 / 32))
  let s := setSlot s n { l with
    runs := l.next, execd := false, due := false, old := [], late := false, res := none, readyAt := s.now
    arr := if l.next && off then some .noSample else none }
  let s := if (hdr s (uSLOT n)).pend.isSome && (slotNext s n cnt || !sEn s n) then slotTake s n else s
  setSlot s n { slot s n with next := slotNext s n cnt }

/-- A frame begins (R269, R270): the slots that run in it, and the ones that run in the next. -/
def frameBegin (s : State) (cnt : Nat) : State :=
  let s := setReg s lLOOP 0x104 (BitVec.ofNat 32 cnt)
  let s := setReg64 { s with loopFrameTime := (time64 s).toNat } lLOOP 0x108 (time64 s)
  orderStrobes ((List.range 64).foldl (slotFrame cnt) s)

/-- No frame follows: what was still to come of the last one does not (R295, R296). -/
def frameStop (s : State) : State :=
  let l := (s.loop.slots.map (fun e => (e.1, { e.2 with runs := false, due := false }))).filter (fun e => decide (e.2 ≠ ({} : Slot)))
  { s with loop := { s.loop with slots := l } }

/-- LOOP_FRAME_START (R269, R295): with FREEZE set, the engine stops here. -/
def execLoopFrameStart (s : State) : Host.Outcome State Fault Refusal :=
  done (if !loopRuns s then s else if (hdr s lLOOP).freeze then frameStop s
    else frameBegin (takeEffect s lLOOP).1 ((reg s lLOOP 0x104).toNat + 1))

/-- The loop-side evaluator (R177): the FX of a sample and its quality; a result that is not finite keeps the last valid FX. -/
def loopEval (s : State) (n : Nat) (x : Sample) : Int × Nat :=
  let link := chReg s 0x18C x.ch
  let x2 := stage2 s x.ch (f32OfInt (sInt32 x.value)) (lsbTrim s (x.ch / 32) (trimIndex x))
  let x3 := if fld link 24 16 ≠ 511 then f32Div x2 (ratioRef s (fld link 24 16)) else x2
  let (y, linr) := linearise s x.ch x3 (compValue s (fld link 8 0))
  let q := stage4Qual s x.ch x x3 y linr
  (if !mathFails x3 y then f32ToFx y (fld (chReg s 0x1A0 x.ch) 4 0) else (slot s n).lastFx, q)

/-- LOOP_FB_ARRIVAL (R177): the evaluator's result for the slot's strobe. -/
def execLoopFbArrival (slot : BitVec 6) (s : State) : Host.Outcome State Fault Refusal :=
  let n := slot.toNat
  let l := Machine.slot s n
  done (match l.evalIn with
    | some x =>
      if !alive s lLOOP then s
      else
        let (fx, q) := loopEval s n x
        let id := smpId x.ch x.seq.toNat
        takeEarly (setSlot s n { l with
          evalIn := none, arr := some (.value id fx (BitVec.ofNat 4 q)), waits := l.waits ++ [(id, fx)], status := false,
          readyAt := s.now, lastFx := if q ≤ 1 then fx else l.lastFx }) n
    | none => s)

/-- LOOP_FB_RESOLUTION (R272, R292). -/
def execLoopFbResolution (slot : BitVec 6) (s : State) : Host.Outcome State Fault Refusal :=
  let n := slot.toNat
  let l := Machine.slot s n
  done (match l.resIn with
    | (id, r) :: rest =>
      if !alive s lLOOP then s
      else if tooEarly s n id then setSlot s n { l with resIn := rest, early := l.early ++ [(id, r)] }
      else resolved (setSlot s n { l with resIn := rest }) n id r
    | [] => s)

/-- A value latched into an output (R273, R276, R277): an AO or DO that field I/O holds for the loop, or a network value. -/
def putOut (s : State) (n : Nat) (v : Int) (prov : Bool) : State :=
  let i := sOutIdx s n
  match sOutKind s n with
  | 0 => if !unitOn s lFIO then dropAbsent s lLOOP
         else if alive s lFIO && decide (fld (aoCfg s (i % 16)) 1 0 = 2) then setAo s (i % 16) { aoCh s (i % 16) with latched := some v.toNat } else s
  | 1 => if !unitOn s lFIO then dropAbsent s lLOOP
         else if alive s lFIO && decide (doSel s (i % 32) = 5) then setDo s (i % 32) { doCh s (i % 32) with latched := some v.toNat } else s
  | 2 => if prov then raise (countUp s lLOOP 0x134 0 16) lLOOP 2
         else if !unitOn s lNET then dropAbsent s lLOOP
         else
           let s := setNv s i { nvEnt s i with value := BitVec.ofInt 32 v }
           { s with net := { s.net with nvDue := s.net.nvDue ++ [(i, BitVec.ofInt 32 v)] } }
  | _ => s

/-- LOOP_OUTPUT_LATCH (R273, R275, R277). -/
def execLoopOutputLatch (slot : BitVec 6) (s : State) : Host.Outcome State Fault Refusal :=
  let n := slot.toNat
  let l := Machine.slot s n
  done (if loopRuns s && l.due && decide (l.mode ≠ 0#3) then
    inRun (setSlot s n { l with due := false, lat := l.out, latProv := l.prov }) n (fun s => putOut s n l.out l.prov)
  else s)

/-- S_CMD (R286, R298): the command waits for the slot's next execution. -/
def slotCmdWrite (s : State) (ctx : Ctx) (n : Nat) (op : BitVec 2) : State :=
  ownerWrite s ctx (uSLOT n) 0xA4 (fun s => if op = 0#2 then s else setSlot s n { slot s n with cmds := (slot s n).cmds ++ [op] })
def execLoopCmdAuto (ctx : Ctx) (slot : BitVec 6) (s : State) : Host.Outcome State Fault Refusal :=
  done (slotCmdWrite s ctx slot.toNat 1#2)
def execLoopCmdManual (ctx : Ctx) (slot : BitVec 6) (s : State) : Host.Outcome State Fault Refusal :=
  done (slotCmdWrite s ctx slot.toNat 2#2)
def execLoopCmdTripClr (ctx : Ctx) (slot : BitVec 6) (s : State) : Host.Outcome State Fault Refusal :=
  done (slotCmdWrite s ctx slot.toNat 3#2)

/-- Is a gain-table bank locked (R282): in effect on an enabled slot, or named by a set that is pending? -/
def bankLocked (s : State) (n b : Nat) : Bool :=
  (sEn s n && decide (fld (sreg s n 0x10) 19 19 = b)) ||
  (match (hdr s (uSLOT n)).pend with
    | some set => decide (fld ((set.find? (fun e => decide (e.1 = rk (uSLOT n) 0x10))).elim (sreg s n 0x10) (·.2)) 19 19 = b)
    | none => false)

/-- GAIN_TABLE_WRITE (R282, R499): a write at word `word` of the pinned loop region. -/
def gainTableWrite (s : State) (ctx : Ctx) (word : Nat) (value : Word) : State :=
  let o := 4 * word
  if 0x10000 ≤ o ∨ bankLocked s (o / 0x400) (o / 0x200 % 2) then capture s lLOOP ctx true 0x8 0
  else { s with mem := msetLE s.mem (loopBase s + o) 4 value.toNat }
def execGainTableWrite (ctx : Ctx) (word : BitVec 16) (value : Word) (s : State) : Host.Outcome State Fault Refusal :=
  done (if pathOk s ctx && unitOn s lLOOP && s.pinLocked then gainTableWrite s ctx word.toNat value else s)

/-- LOOP_SLOT_EXECUTE (R271, R272, R279, R293). -/
def execLoopSlotExecute (slot : BitVec 6) (s : State) : Host.Outcome State Fault Refusal :=
  let n := slot.toNat
  done (if slotEnters s n then inRun s n (fun s => slotExec s n) else s)

/-- LOOP_FB_DEADLINE (R272, R288): SPEC_FB = 0, and no resolution has come; the slot is ready with its held value, and executes where no
other goes before it. -/
def execLoopFbDeadline (slot : BitVec 6) (s : State) : Host.Outcome State Fault Refusal :=
  let n := slot.toNat
  done (if slotWaits s n && decide (runFbKind s n = 0) && !runSpec s n && !slotReady s n then
    let s := setSlot s n { Machine.slot s n with late := true, readyAt := s.now }
    if slotEnters s n then inRun s n (fun s => slotExec s n) else s
  else s)

/-- The common page is enabled (R269, R293): frame 0 begins. -/
def loopEnable (s : State) : State := frameBegin s 0

/-- The common page is disabled: no frame runs. -/
def loopStop (s : State) : State :=
  let l := (s.loop.slots.map (fun e => (e.1, { e.2 with next := false }))).filter (fun e => decide (e.2 ≠ ({} : Slot)))
  frameStop { s with loop := { s.loop with slots := l } }

/-- FROZEN comes on at a frame start (R295): with FRZ_SAFE, SAFE_VALUE of the AUTO, HOLD and SAFE slots is latched. -/
def loopFreeze (s : State) : State :=
  if cfgBit s lLOOP 0x100 0 then
    (List.range 64).foldl (fun t n =>
      let l := slot t n
      if l.mode = 1#3 ∨ l.mode = 3#3 ∨ l.mode = 4#3 then putOut (setSlot t n { l with lat := sval t n 0x90, latProv := false }) n (sval t n 0x90) false
      else t) s
  else s

/-- FREEZE clears (R295): frames resume. The strobes that were ordered for the next frame before the stop have been served while no frame
ran, so a Chamber-fed slot begins anew with the strobe that this frame orders (DEDUCED, log entry 77). -/
def loopUnfreeze (s : State) : State :=
  let anew (e : Nat × Slot) : Slot :=
    { e.2 with next := e.2.next && decide (sFbKind s e.1 ≠ 0), resumed := decide (e.2.mode ≠ 0#3), frz := none, tFe := 0 }
  let l := (s.loop.slots.map (fun e => (e.1, anew e))).filter (fun e => decide (e.2 ≠ ({} : Slot)))
  let s := { s with loop := { s.loop with slots := l } }
  frameBegin s ((reg s lLOOP 0x104).toNat + 1)

/-- A soft reset (R69, R295): every slot OFF, and its outputs at their reset states. -/
def loopSoftReset (s : State) : State :=
  let s := (List.range 64).foldl (fun t n => slotOff (setTrips t n 0#3) n) s
  let s := { s with loop := {} }
  let s := (List.range 32).foldl (fun t n => setDo t n { doCh t n with latched := none, eff := none }) s
  (List.range 16).foldl (fun t n => setAo t n { aoCh t n with latched := none }) s

/-- What crosses into the LOOP island (R121, R163, R177); a frozen engine runs nothing and takes no sample (R295). -/
def loopSample (s : State) (n : Nat) (x : Sample) : State :=
  if loopRuns s && sEn s n then setSlot s n { slot s n with evalIn := some x } else s
def loopNoSample (s : State) (n : Nat) : State :=
  if loopRuns s && (slot s n).runs then setSlot s n { slot s n with arr := some .noSample, readyAt := s.now } else s
def loopResolution (s : State) (ch seq : Nat) (r : Option (BitVec 4)) : State :=
  let id := smpId ch seq
  (List.range 64).foldl (fun t n =>
    let l := slot t n
    if l.waits.any (fun e => decide (e.1 = id)) || l.evalIn.any (fun x => decide (smpId x.ch x.seq.toNat = id))
    then setSlot t n { l with resIn := l.resIn ++ [(id, r)] } else t) s
def loopStatus (s : State) (ch : Nat) (q : BitVec 4) : State :=
  (List.range 64).foldl (fun t n =>
    if sEn t n && decide (runFbKind t n = 0) && decide (fld (runReg t n 0x14) 7 0 = ch) && decide (1 < q.toNat) then
      setSlot t n { slot t n with status := true } else t) s

/-- Views (R297, R298). -/
def slotMap (s : State) (p : Slot → Bool) (hi : Bool) : Word :=
  (List.range 32).foldl (fun w i => w ||| bitw (p (slot s (i + if hi then 32 else 0))) i) 0#32
def outIgn (s : State) (n : Nat) : Bool :=
  match sOutKind s n with
  | 0 => decide (fld (aoCfg s (sOutIdx s n % 16)) 1 0 ≠ 2) || !alive s lFIO
  | 1 => decide (doSel s (sOutIdx s n % 32) ≠ 5) || !alive s lFIO
  | _ => false
def sStat (s : State) (n : Nat) : Word :=
  let l := slot s n
  BitVec.ofNat 32 (l.mode.toNat + 8 * b2n (slotRel s n) + 16 * b2n l.sat + 32 * b2n l.fbOk + 64 * l.trips.toNat +
    512 * b2n (sEn s n && outIgn s n) + 1024 * b2n l.prov + 2048 * b2n l.casc + 4096 * l.cmdRes.toNat + 0x10000 * l.core.miss)

end Sys2Proof.Machine
end

