-- ==== Sys2Proof/Machine/Iommu.lean ====
section
/-! DEFINITION. The physical map with its guarded regions (R18, R19, R185, R216, R230, R282, R353), translation domains, table
walks, the IOTLB, invalidation and inbound faults (R403, R423 to R427, R438), and the pinned declaration (R431). -/
namespace Sys2Proof.Machine

/-- The memories of the physical map (R18). -/
def inSram (a : Nat) : Bool := decide (0x20000000 ≤ a) && decide (a < 0x20400000)
def inMram (a : Nat) : Bool := decide (0x60000000 ≤ a) && decide (a < 0x70000000)
def inDram (a : Nat) : Bool := decide (0x80000000 ≤ a) && decide (a < 0xBC000000)
def inMemory (a : Nat) : Bool := inSram a || inMram a || inDram a

/-- The regions that their blocks guard. -/
inductive Region where
  | plain | desc | loop | mirror | graph | flow
deriving DecidableEq, Repr

/-- The declared region, if any, that an address lies in (R19). -/
def regionOf (s : State) (a : Nat) : Region :=
  if decide (0x68000000 ≤ a) && decide (a < 0x70000000) then .flow
  else if !s.pinLocked then .plain
  else if decide (descBase s ≤ a) && decide (a < descBase s + 0x20000) then .desc
  else if decide (loopBase s ≤ a) && decide (a < loopBase s + 0x40000) then .loop
  else if decide (mirrorBase s ≤ a) && decide (a < mirrorBase s + 0x4000000) then .mirror
  else if decide (graphBase s ≤ a) && decide (a < graphBase s + graphSize s) then .graph
  else .plain

/-- The block that guards a region. -/
def regionLine : Region → Nat
  | .desc => lGAL
  | .loop => lLOOP
  | .mirror => lGRP
  | .graph => lGRP
  | .flow => lFLOW
  | .plain => lSYS

/-- Does the guard of an address let a context write there? -/
def guardOk (s : State) (ctx : Ctx) (a : Nat) : Bool :=
  match regionOf s a with
  | .plain => true
  | .desc => (hdr s lGAL).frozen && decide (ctx.toNat ≤ 1)
  | .graph => (hdr s lGRP).frozen && decide (ctx.toNat ≤ 1)
  | .loop =>
    let o := a - loopBase s
    decide (o < 0x10000) && !bankLocked s (o / 0x400) (o / 0x200 % 2)
  | .mirror => false
  | .flow => false

/-- Bytes are written to physical memory for a context, inside one 64-byte block; a guarded region may discard and capture them
(R425, R499). -/
def memWrite (s : State) (ctx : Ctx) (a : Nat) (b : List Byte) : State :=
  if guardOk s ctx a then { s with mem := msetBytes s.mem a b } else capture s (regionLine (regionOf s a)) ctx true 0x8 0

/-- Bytes are read from physical memory; the engine's part of the loop region reads 0 (R282). -/
def memRead (s : State) (a n : Nat) : List Byte :=
  if regionOf s a = .loop ∧ loopBase s + 0x10000 ≤ a then List.replicate n 0#8 else mgetBytes s.mem a n

/-- Fault reasons (R437). -/
def fNotMapped : Nat := 1
def fPerm : Nat := 2
def fTable : Nat := 3
def fRange : Nat := 4
def fPinned : Nat := 5
def fDomOff : Nat := 6
def fHost : Nat := 7
def fMisaligned : Nat := 8
def fEcc : Nat := 9

/-- A domain's mode and root (R423, R438), and the domain of a context (R403). -/
def domMode (s : State) (d : Nat) : Nat := cfg s lIOMMU (0x100 + 16 * d) 1 0
def domRoot (s : State) (d : Nat) : Nat := (reg s lIOMMU (0x108 + 16 * d) &&& 0xFFFFF000#32).toNat
def ctxDom (s : State) (c : Ctx) : Nat := cfg s lDMA (0x104 + 4 * c.toNat) 3 0

/-- Size of the page that a leaf maps, by walk level: 2 at the root (R424). -/
def pageSize (level : Nat) : Nat := 4096 * 512 ^ level

/-- The walk of R424 from a table at a level; the answer is a leaf, or a fault's reason and level. -/
def walkFrom (m : List Host.Cell) (dom iova : Nat) : Nat → Nat → Except (Nat × Nat) TlbEnt
  | level, table =>
    let a := table + 8 * (iova / pageSize level % 512)
    if !inMemory a then .error (fTable, level)
    else
      let e := mgetLE m a 8
      let r := e.testBit 1
      let w := e.testBit 2
      let p := 4096 * bitsOf e 31 12
      if !e.testBit 0 then .error (fNotMapped, level)
      else if decide (bitsOf e 11 3 ≠ 0) || decide (bitsOf e 63 32 ≠ 0) || (w && !r) then .error (fTable, level)
      else match level with
        | 0 => if r && w then .ok ⟨dom, 0, iova / pageSize 0, p / pageSize 0, r, w⟩ else .error (fTable, 0)
        | l + 1 =>
          if r || w then
            if p % pageSize (l + 1) = 0 then .ok ⟨dom, l + 1, iova / pageSize (l + 1), p / pageSize (l + 1), r, w⟩
            else .error (fMisaligned, l + 1)
          else walkFrom m dom iova l p
termination_by structural level => level

/-- The cached translation of an IOVA, if there is one. -/
def tlbFind (s : State) (dom iova : Nat) : Option TlbEnt :=
  s.dma.tlb.find? (fun e => decide (e.dom = dom) && decide (e.vpn = iova / pageSize e.level))

/-- A leaf is cached; of 256 translations a full IOTLB gives up one that the spec does not name (log entry 1). -/
def tlbAdd (s : State) (e : TlbEnt) : State :=
  if s.dma.tlb.length < 256 then { s with dma := { s.dma with tlb := s.dma.tlb ++ [e] } }
  else
    let (w, s) := draw s
    { s with dma := { s.dma with tlb := s.dma.tlb.eraseIdx (w.toNat % 256) ++ [e] } }

/-- The leaf of an IOVA: from the IOTLB, else by a walk that counts in TLB_MISS (R424, R426, R438). -/
def leafOf (s : State) (dom iova : Nat) : State × Except (Nat × Nat) TlbEnt :=
  match tlbFind s dom iova with
  | some e => (s, .ok e)
  | none =>
    let s := setReg s lIOMMU 0x220 (reg s lIOMMU 0x220 + 1#32)
    match walkFrom s.mem dom iova 2 (domRoot s dom) with
    | .ok e => (tlbAdd s e, .ok e)
    | .error f => (s, .error f)

/-- The checks of R425 on a translated access. -/
def physCheck (s : State) (ctx : Ctx) (a : Nat) (w : Bool) : Option Nat :=
  if !inMemory a then some fRange
  else if w && decide (2 ≤ ctx.toNat) && decide (regionOf s a ≠ .plain) then some fPinned
  else if w && decide (ctx ≠ 0#3) && decide (0x60000000 ≤ a) && decide (a < 0x68000000) then some fPinned
  else none

/-- An access of a context at an IOVA of a domain: the physical address, or a fault's reason and level (R423 to R425). -/
def translate (s : State) (dom : Nat) (ctx : Ctx) (iova : Nat) (w : Bool) : State × Except (Nat × Nat) Nat :=
  let check (a : Nat) : Except (Nat × Nat) Nat := match physCheck s ctx a w with | some f => .error (f, 0) | none => .ok a
  if domMode s dom = 0 then (s, .error (fDomOff, 0))
  else if 2 ^ 39 ≤ iova then (s, .error (fRange, 0))
  else if domMode s dom = 2 then (s, check iova)
  else
    match leafOf s dom iova with
    | (s, .error f) => (s, .error f)
    | (s, .ok e) =>
      if (w && !e.w) || (!w && !e.r) then (s, .error (fPerm, e.level))
      else (s, check (e.ppn * pageSize e.level + iova % pageSize e.level))

/-- The parts of an access of `n` bytes, at most 64, on each side of a 4 KiB boundary. -/
def pageParts (iova n : Nat) : List (Nat × Nat) :=
  let k := 4096 - iova % 4096
  if n = 0 then [] else if n ≤ k then [(iova, n)] else [(iova, k), (iova + k, n - k)]

/-- A fault of an access: reason, level and address. -/
structure XFault where
  reason : Nat
  level : Nat
  addr : Nat
deriving DecidableEq, Repr

/-- Translate every part of an access; the answer is the physical parts, or the first fault. -/
def translateParts (s : State) (dom : Nat) (ctx : Ctx) (w : Bool) : List (Nat × Nat) → State × Except XFault (List (Nat × Nat))
  | [] => (s, .ok [])
  | (a, n) :: rest =>
    match translate s dom ctx a w with
    | (s, .error f) => (s, .error ⟨f.1, f.2, a⟩)
    | (s, .ok p) =>
      match translateParts s dom ctx w rest with
      | (s, .error f) => (s, .error f)
      | (s, .ok l) => (s, .ok ((p, n) :: l))

/-- Is the domain in TEST mode (R423)? -/
def testDom (s : State) (dom : Nat) : Bool := decide (domMode s dom = 3)

/-- Read the physical parts of an access; in TEST mode reads return zeros (R423). -/
def readParts (s : State) (dom : Nat) (l : List (Nat × Nat)) : List Byte :=
  l.flatMap (fun p => if testDom s dom then List.replicate p.2 0#8 else memRead s p.1 p.2)

/-- Write the physical parts of an access; in TEST mode no byte is written (R423). -/
def writeParts (s : State) (dom : Nat) (ctx : Ctx) : List (Nat × Nat) → List Byte → State
  | [], _ => s
  | (a, n) :: rest, b => writeParts (if testDom s dom then s else memWrite s ctx a (b.take n)) dom ctx rest (b.drop n)

/-- An inbound fault is recorded, the first kept until cleared; the port's ERR_CNT counts it (R427, R435). -/
def inboundFault (s : State) (ctx : Ctx) (w : Bool) (f : XFault) : State :=
  let i := s.dma.inFault
  let i := if i.valid then i else { valid := true, reason := f.reason, ctx := ctx, write := w, addr := BitVec.ofNat 64 f.addr }
  countUp (raise { s with dma := { s.dma with inFault := i } } lIOMMU 0) (35 + ctx.toNat) 0x118 0 32

/-- IN_FAULT (R438). -/
def inFaultWord (s : State) : Word :=
  let i := s.dma.inFault
  BitVec.ofNat 32 (i.reason + 16 * i.ctx.toNat + 256 * b2n i.write + 0x80000000 * b2n i.valid)

/-- A write of INV_CMD (R426, R438): what it names stays in use until INV_DONE. -/
def invCmd (s : State) (op dom : Nat) : State :=
  let iova := (reg s lIOMMU 0x208).toNat + 0x100000000 * (reg s lIOMMU 0x20C).toNat
  if op = 0 then s else { s with dma := { s.dma with inv := s.dma.inv ++ [(op, dom, iova)] } }

/-- INV_IOVA, INV_DOMAIN and INV_ALL (R426). INV_IOVA holds the IOVA that OP 1 names. -/
def execInvIova (ctx : Ctx) (value : Word) (s : State) : Host.Outcome State Fault Refusal :=
  done (ownerWrite s ctx lIOMMU 0x200 (fun s => invCmd s 1 (fld value 7 4)))
def execInvDomain (ctx : Ctx) (value : Word) (s : State) : Host.Outcome State Fault Refusal :=
  done (ownerWrite s ctx lIOMMU 0x200 (fun s => invCmd s 2 (fld value 7 4)))
def execInvAll (ctx : Ctx) (s : State) : Host.Outcome State Fault Refusal :=
  done (ownerWrite s ctx lIOMMU 0x200 (fun s => invCmd s 3 0))

/-- Does an invalidation name a cached translation? -/
def invNames (i : Nat × Nat × Nat) (e : TlbEnt) : Bool :=
  decide (i.1 = 3) || (decide (i.2.1 = e.dom) && (decide (i.1 = 2) || decide (i.2.2 / pageSize e.level = e.vpn)))

/-- INV_DONE (R426): no use of an old translation remains. -/
def execInvDone (s : State) : Host.Outcome State Fault Refusal :=
  done (if s.dma.inv.isEmpty then s else
    let l := s.dma.inv
    raise { s with dma := { s.dma with inv := [], tlb := s.dma.tlb.filter (fun e => !l.any (fun i => invNames i e)) } } lIOMMU 1)

/-- The declared regions as base, size, alignment and whether they lie in DRAM (R431). -/
def pinRegions (s : State) : List (Nat × Nat × Nat × Bool) :=
  let r (o : Nat) : Nat := (reg s lDMA o).toNat
  [(r 0x180, 0x20000, 0x1000, false), (r 0x184, 0x40000, 0x1000, false), (r 0x188, 0x4000000, 0x200000, true),
   (r 0x18C, r 0x190, 0x200000, true)]

/-- Does a region lie inside its memory? One of size 0 lies anywhere. -/
def pinInside (x : Nat × Nat × Nat × Bool) : Bool :=
  decide (x.2.1 = 0) ||
  (if x.2.2.2 then decide (0x80000000 ≤ x.1) && decide (x.1 + x.2.1 ≤ 0xBC000000)
   else decide (0x20000000 ≤ x.1) && decide (x.1 + x.2.1 ≤ 0x20400000))

/-- Do two regions overlap? -/
def pinMeet (a b : Nat × Nat × Nat × Bool) : Bool :=
  decide (0 < a.2.1) && decide (0 < b.2.1) && decide (a.1 < b.1 + b.2.1) && decide (b.1 < a.1 + a.2.1)

/-- Does any region of a list overlap a later one? -/
def pinOverlap : List (Nat × Nat × Nat × Bool) → Bool
  | [] => false
  | a :: r => r.any (pinMeet a) || pinOverlap r

/-- Why a lock fails, 0 when it holds: 1 size, 2 alignment, 3 memory, 4 overlap (R431, R436). -/
def pinFailure (s : State) : Nat :=
  let l := pinRegions s
  let g := (reg s lDMA 0x190).toNat
  if g % 0x200000 ≠ 0 ∨ 0x4000000 < g then 1
  else if l.any (fun x => decide (x.1 % x.2.2.1 ≠ 0)) then 2
  else if l.any (fun x => !pinInside x) then 3
  else if pinOverlap l then 4
  else 0

/-- A write to a PIN register: CTX_0 alone, and none after the lock (R431). -/
def pinWrite (s : State) (ctx : Ctx) (o : Nat) (k : State → State) : State :=
  access s ctx lDMA o true (fun s =>
    if decide (ctx = 0#3) && !s.pinLocked then k s else capture s lDMA ctx true 0x1 o)

/-- PIN_LOCK (R431, R436). -/
def execPinLock (ctx : Ctx) (value : Word) (s : State) : Host.Outcome State Fault Refusal :=
  done (pinWrite s ctx 0x1A0 (fun s =>
    if !bit value 0 then s
    else if pinFailure s = 0 then { s with pinLocked := true, pinErr := 0#8 }
    else raise { s with pinErr := BitVec.ofNat 8 (pinFailure s) } lDMA 0))

end Sys2Proof.Machine
end

