-- ==== Sys2Proof/Machine/Dma.lean ====
section
/-! DEFINITION. DMA queues: rings, descriptors, beats, completions, faults, commands and event queues (R412 to R422, R428 to R434,
R437). -/
namespace Sys2Proof.Machine

/-- A queue. -/
def queue (s : State) (n : Nat) : Queue := tget s.dma.q n {}
def setQueue (s : State) (n : Nat) (v : Queue) : State := { s with dma := { s.dma with q := tset s.dma.q n v {} } }

/-- Settings of a queue in use (R437). -/
def qDepth (s : State) (n : Nat) : Nat := cfg s (uQUEUE n) 0x10 12 0
def qFunc (s : State) (n : Nat) : Nat := cfg s (uQUEUE n) 0x10 18 16
def qTarget (s : State) (n : Nat) : Nat := cfg s (uQUEUE n) 0x10 28 24
def qHost (s : State) (n : Nat) : Bool := cfgBit s (uQUEUE n) 0x10 30
def qBase (s : State) (n : Nat) : Nat := (reg s (uQUEUE n) 0x18).toNat + 0x100000000 * (reg s (uQUEUE n) 0x1C).toNat
def qOwner (s : State) (n : Nat) : Ctx := (hdr s (uQUEUE n)).owner
def qDom (s : State) (n : Nat) : Nat := if cfgBit s (uQUEUE n) 0x10 31 then 15 else ctxDom s (qOwner s n)
def qEvent (s : State) (n : Nat) : Bool := decide (qFunc s n = 5)

/-- Q_TAIL minus Q_HEAD modulo 65,536 (R412). -/
def qFill (s : State) (n : Nat) : Nat := ((queue s n).tail - (queue s n).head).toNat

/-- Q_STAT.STATE: 0 DISABLED, 1 IDLE, 2 RUN, 3 FAULTED, 4 STOPPED (R437). -/
def qState (s : State) (n : Nat) : Nat :=
  if qDepth s n = 0 then 0
  else if (queue s n).faulted then 3
  else if (queue s n).stopped then 4
  else if qFill s n = 0 then 1
  else 2

/-- Does the engine work (R434)? -/
def dmaRuns (s : State) : Bool := works s lDMA && !(hdr s lDMA).freeze

/-- Is the owner's PCIe link up, for an access to its host bus? -/
def qHostUp (s : State) (n : Nat) : Bool := s.hostUp.getLsbD ((qOwner s n).toNat - 2)

/-- Set bits of Q_IRQ: 0 DONE, 1 FAULT, 2 EVENT, 3 ERR, 4 LOST (R433). -/
def qIrq (s : State) (n i : Nat) : State :=
  setQueue s n { queue s n with irq := (queue s n).irq ||| BitVec.ofNat 5 (2 ^ i) }

/-- The address of a slot of the ring (R412). -/
def slotAddr (s : State) (n : Nat) (idx : BitVec 16) : Nat := qBase s n + 32 * (idx.toNat % qDepth s n)

/-- Write bytes of a slot, inside one 64-byte block; an access that faults writes nothing and answers its fault. -/
def ringWrite (s : State) (n a : Nat) (b : List Byte) : State × Option XFault :=
  if qHost s n then
    if qHostUp s n then ({ s with out := s.out ++ [.hostWrite ((qOwner s n).toNat - 2) a b] }, none)
    else (s, some ⟨fHost, 0, a⟩)
  else
    match translateParts s (qDom s n) (qOwner s n) true (pageParts a b.length) with
    | (s, .error f) => (s, some f)
    | (s, .ok l) => (writeParts s (qDom s n) (qOwner s n) l b, none)

/-- Write several pieces in order, up to the first that faults. -/
def ringWrites (s : State) (n : Nat) : List (Nat × List Byte) → State × Option XFault
  | [] => (s, none)
  | (a, b) :: rest =>
    match ringWrite s n a b with
    | (s, none) => ringWrites s n rest
    | (s, some f) => (s, some f)

/-- STATUS and PROGRESS as one 8-byte write (R413, R415). -/
def statusBytes (code prog : Nat) (done : Bool) : List Byte := leBytes 4 (code + 0x80000000 * b2n done) ++ leBytes 4 prog

/-- A queue enters FAULTED (R428): side 0 SRC, 1 DST, 2 RING. A fault that does not lie on the ring is written back. -/
def qFault (s : State) (n : Nat) (f : XFault) (side : Nat) (w : Bool) (prog : Nat) : State :=
  let s := setQueue s n { queue s n with
    faulted := true, fAddr := BitVec.ofNat 64 f.addr, fProg := prog
    fInfo := BitVec.ofNat 32 (f.reason + 16 * side + 64 * f.level + 256 * b2n w) }
  let s := if side = 2 then s else (ringWrite s n (slotAddr s n (queue s n).head + 0x18) (statusBytes 8 prog false)).1
  qIrq s n 1

/-- A descriptor completes (R415): the FUNC result, then STATUS and PROGRESS, then Q_HEAD advances. -/
def qComplete (s : State) (n code prog ctrl : Nat) (res : Option (Nat × DWord)) : State :=
  let a := slotAddr s n (queue s n).head
  let pre := match res with | some (o, v) => [(a + o, leBytes 8 v.toNat)] | none => []
  match ringWrites s n (pre ++ [(a + 0x18, statusBytes code prog true)]) with
  | (s, some f) => qFault s n f 2 true prog
  | (s, none) =>
    let s := countUp s (uQUEUE n) 0x48 0 32
    let q := queue s n
    let s := setQueue s n { q with head := q.head + 1#16, run := none, promoted := false, fProg := prog }
    let s := if ctrl.testBit 4 then qIrq s n 0 else s
    if code = 2 ∨ code = 3 ∨ code = 6 ∨ code = 7 then qIrq s n 3 else s

/-- The context may write firmware records (R359); its source is enabled (R356). -/
def fwCtx (s : State) (c : Ctx) : Bool := bit (reg s lFLOW 0x104) c.toNat

/-- The CODE that a descriptor has at its start: 1 ZERO_LEN, 2 LEN, 3 SPACE, 7 FUNC_ERR, or none when its data are to move (R413,
R414, R416, R359). -/
def startCode (s : State) (n : Nat) (d : QDesc) : Option Nat :=
  let ss := bitsOf d.ctrl 1 0
  let ds := bitsOf d.ctrl 3 2
  let host := decide (qOwner s n = 2#3) || decide (qOwner s n = 3#3)
  let mem (x : Nat) : Bool := decide (x = 0) || (decide (x = 1) && host)
  let l := d.len
  let f := qFunc s n
  let spaces := if f = 1 ∨ f = 4 then mem ss && decide (ds = 2)
    else if f = 2 then decide (ss = 2) && mem ds else mem ss && mem ds
  let lim : Bool :=
    if f = 0 then decide (l ≤ 16777216)
    else if f = 1 then (if qTarget s n ≤ 5 then decide (16 ≤ l) && decide (l ≤ 80)
      else if qTarget s n = 16 then decide (14 ≤ l) && decide (l ≤ 1518) else decide (l ≤ 4096))
    else if f = 2 then decide (16 ≤ l) && decide (l ≤ 16777216)
    else if f = 3 then (if qTarget s n = 18 then decide (4 ≤ l) && decide (l ≤ 259) else decide (l ≤ 4096))
    else decide (l ≤ 4064)
  if bitsOf d.len 31 25 ≠ 0 ∨ bitsOf d.ctrl 15 5 ≠ 0 then some 2
  else if !spaces then some 3
  else if f = 4 ∧ !(fwCtx s (qOwner s n) && cfgBit s lFLOW 0x100 (24 + (qOwner s n).toNat)) then some 7
  else if l = 0 then (if f = 4 then none else some 1)
  else if !lim then some 2
  else none

/-- The descriptor that 32 bytes spell (R413). -/
def descOf (b : List Byte) : QDesc :=
  ⟨leNat (b.take 8), leNat ((b.drop 8).take 8), leNat ((b.drop 16).take 4), leNat ((b.drop 20).take 2)⟩

/-- What a host access answers: `n` bytes, or nothing. -/
def hostBytes (ans : MemAns) (n : Nat) : Option (List Byte) :=
  match ans with
  | .data b => if n ≤ b.length then some (b.take n) else none
  | _ => none

/-- Read the slot at Q_HEAD. In TEST mode the ring itself is read, so that descriptors complete normally (R423). -/
def ringRead (s : State) (n : Nat) (ans : MemAns) : State × Except XFault (List Byte) :=
  let a := slotAddr s n (queue s n).head
  if qHost s n then
    match (if qHostUp s n then hostBytes ans 32 else none) with
    | some b => (s, .ok b)
    | none => (s, .error ⟨fHost, 0, a⟩)
  else
    match translateParts s (qDom s n) (qOwner s n) false (pageParts a 32) with
    | (s, .error f) => (s, .error f)
    | (s, .ok l) => if ans = .eccFail then (s, .error ⟨fEcc, 0, a⟩) else (s, .ok (l.flatMap (fun p => memRead s p.1 p.2)))

/-- What an accepted set of a queue does: a queue of DEPTH 0 is disabled, and one that is set up anew starts at index 0. -/
def queueApplied (s : State) (old : State) (n : Nat) : State :=
  if qDepth s n = 0 ∨ qDepth old n = 0 then
    let q := queue s n
    setQueue s n { ({} : Queue) with irq := q.irq, mask := q.mask, lost := q.lost, eseq := q.eseq }
  else s

/-- Between two descriptors is a queue's apply boundary (R81). -/
def queueBoundary (s : State) (n : Nat) : State :=
  if (hdr s (uQUEUE n)).pend.isSome then queueApplied (takeEffect s (uQUEUE n)).1 s n else s

/-- DMA_DESCRIPTOR_START (R412, R413, R428). In degraded mode no new transfer of an expansion target begins (R396). -/
def execDmaDescriptorStart (q : BitVec 6) (ring : MemAns) (s : State) : Host.Outcome State Fault Refusal :=
  let n := q.toNat
  let s := if dmaRuns s && (queue s n).run.isNone then queueBoundary s n else s
  done (if dmaRuns s && decide (qState s n = 2) && !qEvent s n && (queue s n).run.isNone && !(s.pwr.degraded && decide (qFunc s n = 3)) then
    match ringRead s n ring with
    | (s, .error f) => qFault s n f 2 false 0
    | (s, .ok b) =>
      let d := descOf b
      setQueue s n { queue s n with run := some { d := d, code := startCode s n d }, promoted := false }
  else s)

/-- One side of a beat: its space, address and fault, or what reads and writes it. -/
inductive Side where
  | host (a : Nat)
  | parts (l : List (Nat × Nat))
deriving DecidableEq, Repr

/-- Translate one side of a beat (R428). -/
def beatSide (s : State) (n space a len : Nat) (w : Bool) : State × Except XFault Side :=
  if space = 1 then (s, if qHostUp s n then .ok (.host a) else .error ⟨fHost, 0, a⟩)
  else
    match translateParts s (qDom s n) (qOwner s n) w (pageParts a len) with
    | (s, .error f) => (s, .error f)
    | (s, .ok l) => (s, .ok (.parts l))

/-- The bytes of the source side of a beat, or its fault. -/
def sideRead (s : State) (n a len : Nat) (x : Side) (ans : MemAns) : Except XFault (List Byte) :=
  match x with
  | .host _ => (match hostBytes ans len with | some b => .ok b | none => .error ⟨fHost, 0, a⟩)
  | .parts l => if ans = .eccFail then .error ⟨fEcc, 0, a⟩ else .ok (readParts s (qDom s n) l)

/-- Write the destination side of a beat. -/
def sideWrite (s : State) (n : Nat) (x : Side) (b : List Byte) : State :=
  match x with
  | .host a => { s with out := s.out ++ [.hostWrite ((qOwner s n).toNat - 2) a b] }
  | .parts l => writeParts s (qDom s n) (qOwner s n) l b

/-- The length of the beat at an address with `left` bytes to go: one 64-byte-aligned block (R417). -/
def beatLen (a left : Nat) : Nat := min (64 - a % 64) left

/-- Length of a CAN frame's data from DLC and FDF (R389). -/
def canLen (dlc : Nat) (fdf : Bool) : Nat :=
  if dlc ≤ 8 then dlc else if !fdf then 8
  else match dlc with | 9 => 12 | 10 => 16 | 11 => 20 | 12 => 24 | 13 => 32 | 14 => 48 | _ => 64

/-- XOR of characters (R392). -/
def xorSum (l : List Byte) : Byte := l.foldl (fun a b => a ^^^ b) 0#8

/-- An upper-case hexadecimal digit. -/
def hexDigit (n : Nat) : Byte := BitVec.ofNat 8 (if n < 10 then 0x30 + n else 0x37 + n)

/-- A sentence with its checksum appended (R393). -/
def withChecksum (l : List Byte) : List Byte :=
  let c := (xorSum (l.drop 1)).toNat
  l ++ [0x2A#8, hexDigit (c / 16), hexDigit (c % 16), 0x0D#8, 0x0A#8]

/-- What a serial port sends for a descriptor (R393). -/
def serBytes (s : State) (n : Nat) (b : List Byte) : List Byte :=
  if cfgBit s (lSER n) 0x100 0 && cfgBit s (lSER n) 0x100 2 then withChecksum b else b

/-- The CODE of a unit that its function refuses once it is gathered (R389, R393, R414). -/
def gatherCode (s : State) (n : Nat) (b : List Byte) : Option Nat :=
  let t := qTarget s n
  if qFunc s n = 1 then
    if t ≤ 5 then
      (if b.length = 16 + canLen (leNat ((b.drop 5).take 1) % 16) ((b.getD 4 0#8).getLsbD 0) then none else some 2)
    else if decide (8 ≤ t) && decide (t ≤ 13) && decide ((serBytes s (t - 8) b).length ≠ b.length) && decide (82 < (serBytes s (t - 8) b).length)
      then some 7
    else none
  else if qFunc s n = 3 ∧ t = 18 then (if b.length = 4 + (b.getD 1 0#8).toNat then none else some 2)
  else none

/-- A COPY beat (R417, R428). -/
def copyBeat (s : State) (n : Nat) (r : QRun) (ans : MemAns) : State :=
  let len := beatLen (r.d.dst + r.prog) (r.d.len - r.prog)
  let sa := r.d.src + r.prog
  let da := r.d.dst + r.prog
  match beatSide s n (bitsOf r.d.ctrl 1 0) sa len false with
  | (s, .error f) => qFault s n f 0 false r.prog
  | (s, .ok x) =>
    match beatSide s n (bitsOf r.d.ctrl 3 2) da len true with
    | (s, .error f) => qFault s n f 1 true r.prog
    | (s, .ok y) =>
      match sideRead s n sa len x ans with
      | .error f => qFault s n f 0 false r.prog
      | .ok b =>
        let s := sideWrite s n y b
        setQueue s n { queue s n with run := some { r with prog := r.prog + len }, promoted := false }

/-- A beat that gathers the unit of LINK_TX, XFER or FLOW_REC (R430). -/
def gatherBeat (s : State) (n : Nat) (r : QRun) (ans : MemAns) : State :=
  let len := beatLen r.prog (r.d.len - r.prog)
  let sa := r.d.src + r.prog
  match beatSide s n (bitsOf r.d.ctrl 1 0) sa len false with
  | (s, .error f) => qFault s n f 0 false r.prog
  | (s, .ok x) =>
    match sideRead s n sa len x ans with
    | .error f => qFault s n f 0 false r.prog
    | .ok b =>
      let buf := r.buf ++ b
      let code := if r.prog + len = r.d.len then gatherCode s n buf else none
      setQueue s n { queue s n with run := some { r with prog := r.prog + len, buf := buf, code := code }, promoted := false }

/-- A beat that writes what came back from a link or an expansion target (R414, R430). -/
def giveBeat (s : State) (n : Nat) (r : QRun) (all : List Byte) (limit : Nat) : State :=
  let len := beatLen (r.d.dst + r.given) (limit - r.given)
  let da := r.d.dst + r.given
  match beatSide s n (bitsOf r.d.ctrl 3 2) da len true with
  | (s, .error f) => qFault s n f 1 true r.prog
  | (s, .ok y) =>
    let s := sideWrite s n y ((all.drop r.given).take len)
    let r := { r with given := r.given + len, prog := if qFunc s n = 2 then r.given + len else r.prog }
    setQueue s n { queue s n with run := some r, promoted := false }

/-- DMA_BEAT (R417, R428, R430). -/
def execDmaBeat (q : BitVec 6) (ans : MemAns) (s : State) : Host.Outcome State Fault Refusal :=
  let n := q.toNat
  done (if dmaRuns s && decide (qState s n = 2) then
    match (queue s n).run with
    | none => s
    | some r =>
      if r.code.isSome then s
      else if qFunc s n = 0 then (if r.prog < r.d.len then copyBeat s n r ans else s)
      else if qFunc s n = 2 then
        match (queue s n).held with
        | some h => if r.given < min h.1.length r.d.len then giveBeat s n r h.1 (min h.1.length r.d.len) else s
        | none => s
      else if r.prog < r.d.len then gatherBeat s n r ans
      else match r.back with
        | some b => if r.given < b.length then giveBeat s n r b b.length else s
        | none => s
  else s)

/-- A firmware record reaches the writer (R359, R430). -/
def flowRecord (s : State) (n : Nat) (r : QRun) : State :=
  let seq := s.flow.nextSeq
  let (t, s) := draw s
  let s := writeAfter s ⟨BitVec.ofNat 4 (8 + (qOwner s n).toNat), BitVec.ofNat 8 (t.toNat % 256), r.buf⟩
  qComplete s n (if r.d.len = 0 then 1 else 0) r.prog r.d.ctrl (some (8, BitVec.ofNat 64 seq))

/-- DMA_DESCRIPTOR_DONE (R415, R416, R430): a descriptor that has come to its end. -/
def execDmaDescriptorDone (q : BitVec 6) (s : State) : Host.Outcome State Fault Refusal :=
  let n := q.toNat
  done (if dmaRuns s && decide (qState s n = 2) then
    match (queue s n).run with
    | none => s
    | some r =>
      match r.code with
      | some c => qComplete s n c r.prog r.d.ctrl none
      | none =>
        if qFunc s n = 0 then (if r.prog = r.d.len then qComplete s n 0 r.prog r.d.ctrl none else s)
        else if qFunc s n = 4 then (if r.prog = r.d.len ∧ qTarget s n = 24 ∧ writerRuns s ∧ !s.pwr.degraded then flowRecord s n r else s)
        else if qFunc s n = 2 then
          match (queue s n).held with
          | some h =>
            if r.given = min h.1.length r.d.len then
              let s := setQueue s n { queue s n with held := none }
              qComplete s n (if r.d.len < h.1.length then 6 else 0) r.given r.d.ctrl (some (0, h.2))
            else s
          | none => s
        else if qFunc s n = 1 then
          if r.prog ≠ r.d.len then s
          else match r.res with
            | some t => qComplete s n 0 r.prog r.d.ctrl (some (8, t))
            | none =>
              if qTarget s n = 16 ∧ works s lNET then
                let s := { s with out := s.out ++ [.linkFrame 16 r.buf] }
                qComplete s n 0 r.prog r.d.ctrl (some (8, time64 s))
              else s
        else match r.back with
          | some b => if r.given = b.length then qComplete s n 0 r.prog r.d.ctrl none else s
          | none => s
  else s)

/-- A queue stops (R405, R429, R434): a descriptor of a RUN queue is written back with HALTED where its ring can be reached. -/
def qStop (s : State) (n : Nat) : State :=
  if qState s n = 1 ∨ qState s n = 2 then
    let prog := match (queue s n).run with | some r => r.prog | none => 0
    let s := if decide (qState s n = 2) && !qEvent s n && !(qHost s n && !qHostUp s n) then
        (ringWrite s n (slotAddr s n (queue s n).head + 0x18) (statusBytes 5 prog false)).1 else s
    setQueue s n { queue s n with stopped := true, fProg := prog }
  else s

/-- Every queue of a context stops (R17, R405). -/
def stopQueuesOf (s : State) (c : Ctx) : State := (List.range 64).foldl (fun t n => if qOwner t n = c then qStop t n else t) s
/-- Each queue in RUN stops at its next beat boundary, before PD_HOST goes off (R23, R434). -/
def haltQueues (s : State) : State := (List.range 64).foldl (fun t n => if qState t n = 2 then qStop t n else t) s

/-- CMD_RES (R437). -/
def qResult (s : State) (n : Nat) (ok : Bool) : State := setQueue s n { queue s n with cmdRes := if ok then 0#2 else 1#2 }

/-- Q_CMD.OP = 1 RESUME: the same descriptor goes on from PROGRESS (R429). -/
def qResume (s : State) (n : Nat) : State :=
  if qState s n = 3 ∨ qState s n = 4 then qResult (setQueue s n { queue s n with faulted := false, stopped := false }) n true
  else qResult s n false

/-- Q_CMD.OP = 2 SKIP: the descriptor is written back ABORTED and the queue moves to the next (R429). -/
def qSkip (s : State) (n : Nat) : State :=
  if (qState s n = 3 ∨ qState s n = 4) ∧ qFill s n ≠ 0 ∧ !qEvent s n then
    let (prog, ctrl) := match (queue s n).run with | some r => (r.prog, r.d.ctrl) | none => ((queue s n).fProg, 0)
    let s := setQueue s n { queue s n with faulted := false, stopped := false }
    qResult (qComplete s n 4 prog ctrl none) n true
  else qResult s n false

/-- Q_CMD.OP = 3 STOP (R429). -/
def qStopCmd (s : State) (n : Nat) : State := if qState s n = 2 then qResult (qStop s n) n true else qResult s n false

/-- A write of Q_CMD by OP. -/
def qCmd (s : State) (n op : Nat) : State :=
  match op with | 1 => qResume s n | 2 => qSkip s n | 3 => qStopCmd s n | _ => s

/-- Q_RESUME, Q_SKIP, Q_STOP (R429). -/
def execQResume (ctx : Ctx) (q : BitVec 6) (s : State) : Host.Outcome State Fault Refusal :=
  done (ownerWrite s ctx (uQUEUE q.toNat) 0x2C (fun s => qCmd s q.toNat 1))
def execQSkip (ctx : Ctx) (q : BitVec 6) (s : State) : Host.Outcome State Fault Refusal :=
  done (ownerWrite s ctx (uQUEUE q.toNat) 0x2C (fun s => qCmd s q.toNat 2))
def execQStop (ctx : Ctx) (q : BitVec 6) (s : State) : Host.Outcome State Fault Refusal :=
  done (ownerWrite s ctx (uQUEUE q.toNat) 0x2C (fun s => qCmd s q.toNat 3))

/-- A write of Q_TAIL (R412): the producer index of functions 0 to 4 moves forward by no more than the ring holds; of an event
queue it is read-only (R437). -/
def qTailWrite (s : State) (ctx : Ctx) (n : Nat) (v : BitVec 16) : State :=
  if qEvent s n then s
  else
    let d := (v - (queue s n).head).toNat
    if qDepth s n < d ∨ d < qFill s n then capture s lDMA ctx true 0x8 (rk (uQUEUE n) 0x20 % 0x1000)
    else setQueue s n { queue s n with tail := v }

/-- A write of Q_HEAD (R418, R437): the consumer index of an event queue moves forward, not past Q_TAIL. -/
def qHeadWrite (s : State) (ctx : Ctx) (n : Nat) (v : BitVec 16) : State :=
  if !qEvent s n then s
  else if qFill s n < ((queue s n).tail - v).toNat then capture s lDMA ctx true 0x8 (rk (uQUEUE n) 0x24 % 0x1000)
  else setQueue s n { queue s n with head := v }

/-- Q_TAIL_WRITE, Q_HEAD_WRITE (R412, R418). -/
def execQTailWrite (ctx : Ctx) (q : BitVec 6) (value : Word) (s : State) : Host.Outcome State Fault Refusal :=
  done (ownerWrite s ctx (uQUEUE q.toNat) 0x20 (fun s => qTailWrite s ctx q.toNat (BitVec.ofNat 16 value.toNat)))
def execQHeadWrite (ctx : Ctx) (q : BitVec 6) (value : Word) (s : State) : Host.Outcome State Fault Refusal :=
  done (ownerWrite s ctx (uQUEUE q.toNat) 0x24 (fun s => qHeadWrite s ctx q.toNat (BitVec.ofNat 16 value.toNat)))

/-- The event queue of a context (R418). -/
def eventQueue (s : State) (c : Ctx) : Option Nat :=
  (List.range 64).find? (fun n => qEvent s n && decide (qOwner s n = c))

/-- An entry of an event queue (R418). -/
def eventBytes (kind : Nat) (eseq : Word) (body : List Byte) : List Byte :=
  leBytes 4 kind ++ leBytes 4 eseq.toNat ++ (body ++ List.replicate 24 0#8).take 24

/-- Write one entry and move Q_TAIL past it; an entry whose write faults is not written (R418, R428). -/
def putEvent (s : State) (n kind : Nat) (body : List Byte) : State :=
  let q := queue s n
  match ringWrite s n (slotAddr s n q.tail) (eventBytes kind (q.eseq + 1#32) body) with
  | (s, some f) => qFault s n f 2 true 0
  | (s, none) =>
    let q := queue s n
    qIrq (setQueue s n { q with eseq := q.eseq + 1#32, tail := q.tail + 1#16 }) n 2

/-- An entry that cannot be written is lost and counted (R419). -/
def loseEvent (s : State) (n : Nat) : State :=
  let s := countUp s (uQUEUE n) 0x4C 0 32
  qIrq (setQueue s n { queue s n with lost := satInc 32 (queue s n).lost }) n 4

/-- The entries that an event needs: the loss entry before it, if entries were lost (R419). -/
def eventEntry (s : State) (n kind : Nat) (body : List Byte) : State :=
  let lost := (queue s n).lost
  let need := if lost = 0 then 1 else 2
  if !dmaRuns s || decide (qState s n ≠ 1 ∧ qState s n ≠ 2) || decide (qDepth s n < qFill s n + need) then loseEvent s n
  else
    let s := if lost = 0 then s else
      let t := putEvent s n 4 (leBytes 4 lost)
      if (queue t n).faulted then t else setQueue t n { queue t n with lost := 0 }
    if (queue s n).faulted then loseEvent s n
    else
      let t := putEvent s n kind body
      if (queue t n).faulted then loseEvent t n else t

/-- EVENT_ENTRY_WRITE (R418, R419): the oldest entry for a context. -/
def execEventEntryWrite (ctx : Ctx) (s : State) : Host.Outcome State Fault Refusal :=
  done (match s.evq.find? (fun e => decide (e.ctx = ctx.toNat)) with
    | none => s
    | some e =>
      if !domOn s dHOST then s
      else
        let s := { s with evq := s.evq.erase e }
        match eventQueue s ctx with
        | some n => eventEntry s n e.kind e.body
        | none => countUp s lDMA (0x140 + 4 * ctx.toNat) 0 32)

/-- AGE_PROMOTION (R421): a request of a queue has waited more than AGE_LIMIT grants. -/
def execAgePromotion (q : BitVec 6) (s : State) : Host.Outcome State Fault Refusal :=
  let n := q.toNat
  done (if dmaRuns s && decide (qState s n = 2) && !(queue s n).promoted then
    setQueue (countUp s lDMA 0x130 0 32) n { queue s n with promoted := true } else s)

/-- A host link goes (R405): the queues of its context stop, its window closes, the rest is kept. -/
def linkLoss (s : State) (port : Nat) : State :=
  if s.hostUp.getLsbD port then
    let s := { s with hostUp := s.hostUp &&& ~~~BitVec.ofNat 4 (2 ^ port) }
    raise (stopQueuesOf s (BitVec.ofNat 3 (2 + port))) (37 + port) 0
  else s

/-- HOST_LINK_LOSS (R405, R435): PCIE_0, PCIE_1, QSPI_0, QSPI_1. -/
def execHostLinkLoss (port : BitVec 2) (s : State) : Host.Outcome State Fault Refusal := done (linkLoss s port.toNat)

/-- HOST_LINK_UP (R408, R435): a port that is served comes up; messages follow for what is still asserted. -/
def execHostLinkUp (port : BitVec 2) (s : State) : Host.Outcome State Fault Refusal :=
  let n := port.toNat
  done (if domOn s dHOST && (hdr s (37 + n)).en && cfgBit s (37 + n) 0x100 0 && !s.hostUp.getLsbD n then
    raise { s with hostUp := s.hostUp ||| BitVec.ofNat 4 (2 ^ n) } (37 + n) 0 else s)

/-- What an accepted set of a port page does: EN = 0 acts as a lost link (R435). -/
def portApplied (s : State) (line : Nat) : State := if cfgBit s line 0x100 0 then s else linkLoss s (line - 37)

/-- A soft reset of the DMA common page: every queue returns to DEPTH = 0 (R434). -/
def dmaSoftReset (s : State) : State := { s with dma := { s.dma with q := [] } }

/-- The QSPI port of a context: WIN_BASE of a port page (R407, R409, R435). -/
def winBase (s : State) (line : Nat) : Nat := (reg s line 0x110).toNat + 0x100000000 * cfg s line 0x114 6 0

/-- Slot B of the firmware region, the window that the boot ROM serves in recovery (R51). -/
def slotBAt (o n : Nat) : Option Nat := if o + n ≤ 0x3000000 then some (0x63000000 + o) else none

/-- A memory access of a host through its window, of at most 64 bytes; the answer of a read, none where it faults (R407, R427).
In recovery the window is slot B of the firmware region (R51). -/
def windowRead (s : State) (ctx : Ctx) (iova n : Nat) : State × Option (List Byte) :=
  if s.pwr.phase = .recovery then (s, (slotBAt iova n).map (fun a => mgetBytes s.mem a n)) else
  match translateParts s (ctxDom s ctx) ctx false (pageParts iova n) with
  | (s, .error f) => (inboundFault s ctx false f, none)
  | (s, .ok l) => (s, some (readParts s (ctxDom s ctx) l))
def windowWrite (s : State) (ctx : Ctx) (iova : Nat) (b : List Byte) : State × Bool :=
  if s.pwr.phase = .recovery then
    match slotBAt iova b.length with
    | some a => ({ s with mem := msetBytes s.mem a b }, true)
    | none => (s, false)
  else
  match translateParts s (ctxDom s ctx) ctx true (pageParts iova b.length) with
  | (s, .error f) => (inboundFault s ctx true f, false)
  | (s, .ok l) => (writeParts s (ctxDom s ctx) ctx l b, true)

/-- HOST_WINDOW_ACCESS (R405, R407, R427): 1 to 8 bytes at an offset of BAR2, or of a QSPI port's memory space. -/
def execHostWindowAccess (ctx : Ctx) (addr : DWord) (write : Bool) (size : BitVec 4) (value : DWord) (s : State) :
    Host.Outcome State Fault Refusal :=
  if decide (2 ≤ ctx.toNat) && decide (ctx.toNat ≤ 5) && decide (1 ≤ size.toNat) && decide (size.toNat ≤ 8) then
    done (if !pathOk s ctx then s
    else
      let iova := winBase s (35 + ctx.toNat) + addr.toNat
      if write then (windowWrite s ctx iova (leBytes size.toNat value.toNat)).1
      else
        match windowRead { s with rdata := 0#64 } ctx iova size.toNat with
        | (s, some b) => answer s (leNat b)
        | (s, none) => s)
  else .fault .illFormed

/-- Q_PEND (R436). -/
def qPend (s : State) : Nat := s.dma.q.foldl (fun m e => if queueUp e.2 then m + 2 ^ e.1 else m) 0

end Sys2Proof.Machine
end

