-- ==== Sys2Proof/Machine/Net.lean ====
section
/-! DEFINITION. The network core and the field links: ring ports, network values, sleep link, CAN, serial ports, SPI expansion and
PMBus (R371 to R380, R384 to R402, R430). The management sessions stand with the bus. -/
namespace Sys2Proof.Machine

/-- Counters of the NET page (R397). -/
def netCount (s : State) (o : Nat) : State := countUp s lNET o 0 32

/-- A ring port gains or loses its link (R372, R397). -/
def setRing (s : State) (b up : Bool) : State :=
  raise { s with net := if b then { s.net with linkB := up } else { s.net with linkA := up } } lNET 0

/-- RING_LINK_UP (R222, R372). -/
def execRingLinkUp (port : BitVec 1) (s : State) : Host.Outcome State Fault Refusal :=
  let b := decide (port = 1#1)
  done (if netOn s && !(if b then s.net.linkB else s.net.linkA) then grpJoined (setRing s b true) else s)

/-- RING_LINK_DOWN (R372). -/
def execRingLinkDown (port : BitVec 1) (s : State) : Host.Outcome State Fault Refusal :=
  let b := decide (port = 1#1)
  done (if netOn s && (if b then s.net.linkB else s.net.linkA) then setRing s b false else s)

/-- The NET page is disabled, or its domain goes off: both ring links and the service link drop (R372, R396). -/
def netDown (s : State) : State :=
  if s.net.linkA || s.net.linkB || s.net.svcUp then
    raise { s with net := { s.net with linkA := false, linkB := false, svcUp := false } } lNET 0 else s

/-- SVC_LINK_CHANGE (R383, R397). -/
def execSvcLinkChange (up : Bool) (s : State) : Host.Outcome State Fault Refusal :=
  done (if netOn s && decide (s.net.svcUp ≠ up) then raise { s with net := { s.net with svcUp := up } } lNET 0 else s)

/-- The entry of the duplicate table for a frame, while it is not older than 400 ms (R373). -/
def dupFind (s : State) (mac : BitVec 48) (seq : BitVec 16) : Option DupEnt :=
  s.net.dup.find? (fun e => decide (e.mac = mac) && decide (e.seq = seq) && decide (s.now ≤ e.at0 + 400000000))

/-- The table takes a frame; of 4,096 entries the oldest gives way (R373). -/
def dupPut (s : State) (e : DupEnt) : State :=
  let l := s.net.dup.filter (fun x => !(decide (x.mac = e.mac) && decide (x.seq = e.seq)) && decide (s.now ≤ x.at0 + 400000000))
  { s with net := { s.net with dup := (if l.length < 4096 then l else l.drop 1) ++ [e] } }

/-- NV records as they stand in a message: INDEX and VALUE (R379). -/
def nvRecords : Nat → List Byte → List (Nat × Word)
  | 0, _ => []
  | n + 1, b => ((b.getD 0 0#8).toNat, BitVec.ofNat 32 (leNat ((b.drop 4).take 4))) :: nvRecords n (b.drop 8)

/-- A receiving entry takes a value (R378). -/
def nvTake (s : State) (node idx : Nat) (value : Word) : State :=
  (List.range 256).foldl (fun t v =>
    if nvDir t v = 1 ∧ wcfg t lNET 0x178 v 11 0 = node ∧ wcfg t lNET 0x178 v 23 16 = idx then
      let e := nvEnt t v
      setNv t v { value := value, stale := false, good := some value, upd := e.upd + 1#16, at0 := t.now }
    else t) s

/-- An NV message arrives (R378, R379): one with an unknown VER, or whose length does not match COUNT, is discarded. -/
def nvRx (s : State) (b : List Byte) : State :=
  let count := (b.getD 1 0#8).toNat
  if !works s lNET || decide (b.getD 0 0#8 ≠ 1#8) || decide (count = 0) || decide (64 < count) || decide (b.length ≠ 16 + 8 * count) then s
  else
    let node := leNat ((b.drop 2).take 2) % 4096
    (nvRecords count (b.drop 16)).foldl (fun t r => nvTake t node r.1 r.2) s

/-- NV_MESSAGE_RX (R378, R379). -/
def execNvMessageRx (msg : NvMsg) (s : State) : Host.Outcome State Fault Refusal := done (nvRx s msg)

/-- NV_STALE (R378). -/
def execNvStale (nv : BitVec 8) (s : State) : Host.Outcome State Fault Refusal :=
  let v := nv.toNat
  done (if netOn s && decide (nvDir s v = 1) && !(nvEnt s v).stale then
    raise (setNv s v { nvEnt s v with stale := true }) lNET 1 else s)

/-- Does an enabled slot name a network value as its output (R275, R380)? -/
def nvNamed (s : State) (v : Nat) : Bool :=
  (List.range 64).any (fun n => sEn s n && decide (sOutKind s n = 2) && decide (sOutIdx s n = v))

/-- A write of NV_VALUE_v (R380). -/
def nvValueWrite (s : State) (ctx : Ctx) (v : Nat) (value : Word) : State :=
  if nvNamed s v then capture s lNET ctx true 0x8 (0x400 + 4 * v)
  else
    let s := setNv s v { nvEnt s v with value := value }
    if nvDir s v = 2 then { s with net := { s.net with nvDue := s.net.nvDue ++ [(v, value)] } } else s

/-- NV_VALUE_WRITE (R380). -/
def execNvValueWrite (ctx : Ctx) (nv : BitVec 8) (value : Word) (s : State) : Host.Outcome State Fault Refusal :=
  done (ownerWrite s ctx lNET (0x400 + 4 * nv.toNat) (fun s => nvValueWrite s ctx nv.toNat value))

/-- The last value of each entry, in the order of first mention. -/
def lastOf : List (Nat × Word) → List (Nat × Word)
  | [] => []
  | (v, x) :: r => (v, ((r.filter (fun e => decide (e.1 = v))).getLast?.map (·.2)).getD x) :: (lastOf r).filter (fun e => decide (e.1 ≠ v))

/-- One NV message of at most 64 records (R379). -/
def nvMessage (s : State) (l : List (Nat × Word)) : List Byte :=
  [1#8] ++ leBytes 1 l.length ++ leBytes 2 (nodeId s + 0x8000 * ownMember s) ++ leBytes 2 (ownPair s) ++ [0#8, 0#8] ++
  leBytes 8 s.loopFrameTime ++ l.flatMap (fun r => leBytes 4 r.1 ++ leBytes 4 r.2.toNat)

/-- The messages of a frame: 64 records in each (R379). -/
def nvMessages (s : State) : Nat → List (Nat × Word) → List Out
  | 0, _ => []
  | n + 1, l => if l.isEmpty then [] else
    .nv (reg s lNET 0x118) (BitVec.ofNat 16 (cfg s lNET 0x114 31 16)) (nvMessage s (l.take 64)) :: nvMessages s n (l.drop 64)

/-- NV_MESSAGE_SEND (R379, R380, R396): the end of a loop frame. A frozen page keeps what waits; a node that must not send drops
it. -/
def execNvMessageSend (s : State) : Host.Outcome State Fault Refusal :=
  done (if !netOn s || (hdr s lNET).frozen then s
    else
      let l := lastOf (s.net.nvDue.filter (fun e => decide (nvDir s e.1 = 2)))
      let t := { s with net := { s.net with nvDue := [] } }
      if s.pwr.degraded || standby s then t else { t with out := t.out ++ nvMessages s 4 l })

/-- Does the node take a frame into its own handling: ALARM_VID, or untagged with UNTAG_RX (R375)? -/
def vlanTaken (s : State) (f : RingFrame) : Bool :=
  match f.vid with
  | some v => decide (v.toNat = cfg s lNET 0x100 27 16)
  | none => cfgBit s lNET 0x100 6

/-- Is a frame addressed to the node: its own address, or a group address? -/
def toNode (s : State) (dst : BitVec 48) : Bool := decide (dst = s.otp.mac) || dst.getLsbD 40

/-- Is a queue free for a received record of a link: named by it, running, and holding none (R389, R414, R430)? -/
def rxReady (s : State) (q target : Nat) : Bool :=
  decide (qFunc s q = 2) && decide (qTarget s q = target) && decide (qState s q = 2) && (queue s q).held.isNone

/-- A received record goes to a queue; false where it is dropped. -/
def rxDeliver (s : State) (q target : Nat) (rec : List Byte) (t : DWord) : State × Bool :=
  if rxReady s q target then (setQueue s q { queue s q with held := some (rec, t) }, true) else (s, false)

/-- A frame for firmware: to FW_RXQ, or dropped and counted (R374, R396). -/
def fwFrame (s : State) (b : List Byte) : State :=
  let r := if cfgBit s lNET 0x11C 7 && works s lNET then rxDeliver s (cfg s lNET 0x11C 5 0) 16 b (time64 s) else (s, false)
  if r.2 then r.1 else raise (netCount r.1 0x13C) lNET 4

/-- The node's own handling of a frame (R374). A PTP or management message is the command of its own row. -/
def handleFrame (s : State) (f : RingFrame) : State :=
  match f.kind with
  | .alarm m => rxAlarm s m
  | .nv m => nvRx s m
  | .ptp _ _ => s
  | .mgmt => s
  | .request => { s with out := s.out ++ [.answer false f.bytes] }
  | .other => if f.dst = s.otp.mac ∨ f.dst = 0xFFFFFFFFFFFF#48 then fwFrame s f.bytes else s

/-- A frame goes on to the other port in HSR mode (R373). A PTP message is forwarded as the role of PTP_CFG says (R90, R377): by a boundary clock
not at all, by a transparent clock with the residence time of an event message added; the roles are those of an enabled PTP page. -/
def forwardFrame (s : State) (port : Nat) (f : RingFrame) : State :=
  let role := if alive s lPTP then cfg s lPTP 0x114 1 0 else 0
  match f.kind, role with
  | .ptp _ _, 1 => s
  | .ptp true r, 2 => { s with out := s.out ++ [.ptpForward port f.bytes r.toNat] }
  | _, _ => { s with out := s.out ++ [.ringFrame port f.bytes] }

/-- A frame of a ring port (R373 to R377): counted, found as a duplicate or not, forwarded in HSR mode, and handled; one whose FCS fails is
counted, and goes on as far as cut-through has begun. -/
def ringFrame (s : State) (b : Bool) (frame : RingFrame) : State :=
  let s := netCount s (if b then 0x134 else 0x130)
  let hsr := !cfgBit s lNET 0x100 0
  let own := decide (frame.src = s.otp.mac)
  let ptp := match frame.kind with | .ptp _ _ => true | _ => false
  let old := match frame.seq with | some q => if ptp then none else dupFind s frame.src q | none => none
  let again := match old with | some e => if b then e.fromB else e.fromA | none => false
  let taken := !own && (!hsr || frame.seq.isSome || ptp)
  let onward := hsr && taken && !again && decide (frame.dst ≠ s.otp.mac)
  if !frame.fcsOk then
    let s := netCount s 0x140
    if onward then { s with out := s.out ++ [.ringFrame (b2n (!b)) frame.bytes] } else s
  else if !taken then s
  else
    let s := match frame.seq with
      | some q => if ptp then s else
          let e := old.getD ⟨frame.src, q, s.now, false, false⟩
          dupPut s { e with fromA := e.fromA || !b, fromB := e.fromB || b }
      | none => s
    let s := if onward then forwardFrame s (b2n (!b)) frame else s
    if old.isSome then netCount s 0x138
    else if toNode s frame.dst && vlanTaken s frame then handleFrame s frame else s

/-- A frame of the service port (R374, R383): untagged, to its own address (the node's plus 1) or a group; ARP and ICMP are answered with
SVC_EN = 1, management is the command of its own row, any other frame is firmware's. -/
def svcFrame (s : State) (frame : RingFrame) : State :=
  if !frame.fcsOk || frame.vid.isSome || !(decide (frame.dst = s.otp.mac + 1#48) || frame.dst.getLsbD 40) then s
  else match frame.kind with
    | .mgmt => s
    | .request => if cfgBit s lNET 0x100 3 then { s with out := s.out ++ [.answer true frame.bytes] } else fwFrame s frame.bytes
    | _ => fwFrame s frame.bytes

/-- RING_FRAME_RX (R373 to R377, R383, R396): port 0 is RING_A, 1 RING_B, 2 the service port, whose link is up. -/
def execRingFrameRx (port : Fin 3) (frame : RingFrame) (s : State) : Host.Outcome State Fault Refusal :=
  done (if !netOn s then s
  else if port = 2 then (if s.net.svcUp then svcFrame s frame else s)
  else if (if port = 1 then s.net.linkB else s.net.linkA) then ringFrame s (decide (port = 1)) frame else s)

/-- HSR_SUPERVISION_SEND (R373): every 2 s, in both modes. -/
def execHsrSupervisionSend (s : State) : Host.Outcome State Fault Refusal :=
  done (if netOn s then
    { s with out := s.out ++ [.supervision s.net.supSeq.toNat], net := { s.net with supSeq := s.net.supSeq + 1#16 } } else s)

/-- Does the sleep link run (R384, R396): PD_AON on, T1S_EN in the wake controller's copy, no reset? -/
def t1sOn (s : State) : Bool :=
  domOn s dAON && bit s.net.t1sCfg 24 && (match s.pwr.phase with | .run => true | .boot => true | .powerFail => true | _ => false)
/-- Is the module asleep? -/
def asleepNow (s : State) : Bool := decide (s.pwr.phase = .run) && decide (s.pwr.pstate = .sleep)

/-- A sleep-link message (R385). -/
def t1sMessage (s : State) (typ mask : Nat) (code : Word) : List Byte :=
  let st := if s.pwr.degraded then 3 else match s.pwr.pstate with | .run => 0 | .doze => 1 | .sleep => 2
  let node := if asleepNow s then s.net.t1sNode.toNat else nodeId s
  [1#8] ++ leBytes 1 typ ++ leBytes 1 (fld s.net.t1sCfg 3 0) ++ leBytes 1 st ++ leBytes 2 node ++ leBytes 2 mask ++ leBytes 4 code.toNat

/-- T1S_PRESENT_SEND (R385): once per second. -/
def execT1sPresentSend (s : State) : Host.Outcome State Fault Refusal :=
  done (if t1sOn s then { s with out := s.out ++ [.t1s (t1sMessage s 1 0 0#32)] } else s)

/-- A PLCA ID becomes present or absent; each change sets T1S_CHG (R385). -/
def setPresent (s : State) (p : Nat) (b : Bool) : State :=
  if !t1sOn s || decide (s.net.present.getLsbD p = b) then s
  else
    let m := BitVec.ofNat 16 (2 ^ p)
    raiseIf (unitOn s lNET) { s with net := { s.net with present := if b then s.net.present ||| m else s.net.present &&& ~~~m } } lNET 3

/-- T1S_PRESENT_RX, T1S_ABSENT (R385). -/
def execT1sPresentRx (plca : BitVec 4) (s : State) : Host.Outcome State Fault Refusal := done (setPresent s plca.toNat true)
def execT1sAbsent (plca : BitVec 4) (s : State) : Host.Outcome State Fault Refusal := done (setPresent s plca.toNat false)

/-- A write of T1S_CMD (R386). -/
def t1sCmd (s : State) (value : Word) : State :=
  if bit value 31 && t1sOn s then { s with out := s.out ++ [.t1s (t1sMessage s 2 (fld value 15 0) s.net.t1sCode)] } else s

/-- T1S_WAKE_SEND (R386). -/
def execT1sWakeSend (ctx : Ctx) (value : Word) (s : State) : Host.Outcome State Fault Refusal :=
  done (ownerWrite s ctx lNET 0x158 (fun s => t1sCmd s value))

/-- T1S_WAKE_RX (R22, R386): only a sleeping node whose bit and wake code match. -/
def execT1sWakeRx (mask : BitVec 16) (code : Word) (s : State) : Host.Outcome State Fault Refusal :=
  done (if t1sOn s && asleepNow s && bit s.net.t1sCfg 25 && mask.getLsbD (fld s.net.t1sCfg 3 0) && decide (code = s.net.t1sCode)
    then wake s 1#4 else s)

def setCan (s : State) (n : Nat) (v : CanSt) : State := { s with net := { s.net with can := tset s.net.can n v {} } }

/-- The CAN and serial ports are stopped in Doze, in degraded mode and in the power-fail sequence (R396). For Doze R396 says so and R21 has
them run on: the model follows R396 (DEDUCED, log entry 52). -/
def portsStopped (s : State) : Bool :=
  s.pwr.degraded || decide (s.pwr.phase = .powerFail) || decide (s.pwr.pstate = .doze)

/-- A CAN or serial port works: enabled, its domain on, neither frozen nor stopped (R396). -/
def linkRuns (s : State) (u : Nat) : Bool := works s u && !portsStopped s

/-- The error state follows the counters, as in ISO 11898-1; a change is latched (R390, R399). -/
def canCounts (s : State) (n : Nat) (tec rec : Nat) : State :=
  let c := canSt s n
  let st : BitVec 2 := if decide (127 < tec) || decide (127 < rec) then 1#2 else 0#2
  raiseIf (decide (st ≠ c.st)) (setCan s n { c with st := st, tec := min tec 255, rx := min rec 255 }) (lCAN n) 2

/-- BUS_ERR counts error frames (R399). -/
def busErrors (s : State) (n k : Nat) : State :=
  setReg s (lCAN n) 0x118 (BitVec.ofNat 32 (min ((reg s (lCAN n) 0x118).toNat + k) 0xFFFFFFFF))

/-- The index of the first enabled filter that accepts a frame (R389, R399). -/
def canFilter (s : State) (n : Nat) (f : CanFrame) : Option Nat :=
  (List.range 32).find? (fun k =>
    let i := reg s (lCAN n) (0x180 + 8 * k)
    bit i 31 && decide (bit i 29 = f.ide) &&
    decide ((BitVec.ofNat 32 (fld i 28 0) ^^^ f.id.setWidth 32) &&& BitVec.ofNat 32 (cfg s (lCAN n) (0x184 + 8 * k) 28 0) = 0#32))

/-- A CAN record (R389). -/
def canRecord (f : CanFrame) (tag : Nat) (t : DWord) : List Byte :=
  leBytes 4 (f.id.toNat + 0x20000000 * b2n f.ide + 0x40000000 * b2n f.rtr) ++
  leBytes 1 (b2n f.fdf + 2 * b2n f.brs + 4 * b2n f.esi) ++ leBytes 1 f.dlc.toNat ++ leBytes 2 tag ++ leBytes 8 t.toNat ++ f.data

/-- The number of data bytes a frame carries. -/
def canDataLen (f : CanFrame) : Nat := if f.rtr then 0 else canLen f.dlc.toNat f.fdf

/-- A received frame is filtered, stamped and placed in RXQ, or dropped and counted (R389). -/
def canReceive (s : State) (n : Nat) (f : CanFrame) (t : DWord) : State :=
  match canFilter s n f with
  | none => s
  | some k =>
    let c := reg s (lCAN n) 0x100
    let r := if bit c 31 then rxDeliver s (fld c 29 24) n (canRecord f k t) t else (s, false)
    if r.2 then raise r.1 (lCAN n) 0 else raise (countUp r.1 (lCAN n) 0x114 0 32) (lCAN n) 3

/-- REC after a received frame: one less, or, above 127, a value from 119 to 127 that ISO 11898-1 leaves to the controller. -/
def recAfter (s : State) (rec : Nat) : State × Nat :=
  if 127 < rec then (let (w, t) := draw s; (t, 119 + w.toNat % 9)) else (s, rec - 1)

/-- CAN_FRAME_RX (R389, R390, R396). An FD frame at a controller with FD_EN = 0 is a form error (PRESUMED, log entry 34). -/
def execCanFrameRx (n : Fin 6) (frame : CanFrame) (s : State) : Host.Outcome State Fault Refusal :=
  if frame.data.length ≠ canDataLen frame then .fault .illFormed
  else
    let k := n.val
    done (if portsStopped s || decide ((canSt s k).st = 2#2) || cfgBit s (lCAN k) 0x100 2 then s
      else if alive s (lCAN k) && (hdr s (lCAN k)).frozen then raise (countUp s (lCAN k) 0x114 0 32) (lCAN k) 3
      else if !works s (lCAN k) then s
      else if frame.fdf && !cfgBit s (lCAN k) 0x100 0 then
        canCounts (busErrors s k (frame.errors.toNat + 1)) k (canSt s k).tec ((canSt s k).rx + frame.errors.toNat + 1)
      else
        let c := canSt s k
        let (s, rec) := recAfter (busErrors s k frame.errors.toNat) (c.rx + frame.errors.toNat)
        canReceive (canCounts s k c.tec rec) k frame (time64 s - frame.ago.setWidth 64))

/-- The queue a link sends from, with its gathered descriptor that still waits to be sent (R389, R414). -/
def txRun (s : State) (set : Bool) (q target : Nat) : Option QRun :=
  if set && decide (qFunc s q = 1) && decide (qTarget s q = target) && decide (qState s q = 2) then
    match (queue s q).run with
    | some r => if r.prog = r.d.len ∧ r.code = none ∧ r.res = none then some r else none
    | none => none
  else none

/-- The frame that a CAN record of a descriptor spells. -/
def canOf (b : List Byte) : CanFrame :=
  let id := leNat (b.take 4)
  let fl := b.getD 4 0#8
  { id := BitVec.ofNat 29 id, ide := id.testBit 29, rtr := id.testBit 30, fdf := fl.getLsbD 0, brs := fl.getLsbD 1, esi := fl.getLsbD 2,
    dlc := BitVec.ofNat 4 (b.getD 5 0#8).toNat, data := b.drop 16, errors := 0#8, ago := 0#32 }

/-- CAN_FRAME_TX_DONE (R389, R390): the frame at the head of TXQ has been sent, after `errors` attempts that failed; in LOOPBACK it
is received internally, and TXD stays recessive. -/
def execCanFrameTxDone (n : Fin 6) (errors : Byte) (ago : BitVec 32) (s : State) : Host.Outcome State Fault Refusal :=
  let k := n.val
  let c := reg s (lCAN k) 0x100
  let q := fld c 21 16
  done (if !linkRuns s (lCAN k) || decide ((canSt s k).st = 2#2) || bit c 1 then s
    else match txRun s (bit c 23) q k with
      | none => s
      | some r =>
        let t := time64 s - ago.setWidth 64
        let e := canSt s k
        let s := canCounts (busErrors s k errors.toNat) k (e.tec + 8 * errors.toNat - 1) e.rx
        let s := setQueue s q { queue s q with run := some { r with res := some t } }
        let s := raise s (lCAN k) 1
        if bit c 2 then canReceive s k (canOf r.buf) t else { s with out := s.out ++ [.linkFrame k r.buf] })

/-- CAN_BUS_OFF (R390): it stops sending. The low bits of TEC, which has passed 255, are left open. -/
def execCanBusOff (n : Fin 6) (s : State) : Host.Outcome State Fault Refusal :=
  let k := n.val
  done (if linkRuns s (lCAN k) && decide ((canSt s k).st ≠ 2#2) then
    let (w, s) := draw s
    raise (setCan s k { canSt s k with st := 2#2, tec := w.toNat % 256, restart := false }) (lCAN k) 2
  else s)

/-- CAN_BUS_OFF_RECOVERY (R390): 128 occurrences of 11 recessive bits, with AUTO_REC or after RESTART. -/
def execCanBusOffRecovery (n : Fin 6) (s : State) : Host.Outcome State Fault Refusal :=
  let k := n.val
  done (if linkRuns s (lCAN k) && decide ((canSt s k).st = 2#2) && (cfgBit s (lCAN k) 0x100 3 || (canSt s k).restart) then
    raise (setCan s k {}) (lCAN k) 2 else s)

/-- A write of CAN_CMD.RESTART (R390). -/
def canRestart (s : State) (k : Nat) : State :=
  if (canSt s k).st = 2#2 then setCan s k { canSt s k with restart := true } else s

/-- CAN_RESTART (R390). -/
def execCanRestart (ctx : Ctx) (n : Fin 6) (s : State) : Host.Outcome State Fault Refusal :=
  done (ownerWrite s ctx (lCAN n.val) 0x110 (fun s => canRestart s n.val))

/-- Is a serial port's transmitter sending, and is DE high (R391, R401)? -/
def serTx (s : State) (n : Nat) : Bool :=
  let q := reg s (lSER n) 0x10C
  linkRuns s (lSER n) && (txRun s (bit q 7) (fld q 5 0) (8 + n)).isSome
def serDe (s : State) (n : Nat) : Bool := alive s (lSER n) && !portsStopped s && (!cfgBit s (lSER n) 0x100 1 || serTx s n)

/-- What a serial port receives goes to RXQ, or is dropped and counted (R391, R392, R396). -/
def serDeliver (s : State) (n : Nat) (rec : List Byte) (t : DWord) : State :=
  let c := reg s (lSER n) 0x10C
  let r := if bit c 15 && !(hdr s (lSER n)).frozen then rxDeliver s (fld c 13 8) (8 + n) rec t else (s, false)
  if r.2 then raise r.1 (lSER n) 0 else raise (countUp r.1 (lSER n) 0x11C 0 32) (lSER n) 4

/-- A line error of received characters (R401). -/
def serLine (s : State) (n : Nat) (err : Bool) : State :=
  let m := BitVec.ofNat 6 (2 ^ n)
  raiseIf err { s with net := { s.net with serFault := if err then s.net.serFault ||| m else s.net.serFault &&& ~~~m } } (lSER n) 3

/-- Does a serial port receive: running or frozen, in this mode, and not suppressing its own echo (R391, R396)? -/
def serHears (s : State) (n : Nat) (sentence : Bool) : Bool :=
  alive s (lSER n) && !portsStopped s && decide (cfgBit s (lSER n) 0x100 0 = sentence) &&
  !(cfgBit s (lSER n) 0x100 3 && serDe s n)

/-- SER_RAW_RECORD (R391): 1 to 256 received bytes. -/
def execSerRawRecord (n : Fin 6) (bytes : List Byte) (lineErr : Bool) (ago : BitVec 32) (s : State) : Host.Outcome State Fault Refusal :=
  if bytes.isEmpty || decide (256 < bytes.length) then .fault .illFormed
  else done (if serHears s n.val false then
    serDeliver (serLine s n.val lineErr) n.val bytes (time64 s - ago.setWidth 64) else s)

/-- A start character (R392). -/
def isStart (b : Byte) : Bool := decide (b = 0x24#8) || decide (b = 0x21#8)

/-- How a sentence ended. -/
inductive SentEnd where
  | whole | tooLong | abort
deriving DecidableEq, Repr

/-- A sentence scanned from its characters after the start character: it ends at CR LF, at its 82nd character, or before a new start
character (R392). `acc` is what it holds so far, `n` its length; the answer tells also what follows it. -/
def scanSentence (acc : List Byte) (n : Nat) : List Byte → Option (List Byte × SentEnd × List Byte)
  | [] => none
  | c :: r =>
    if isStart c then some (acc, .abort, c :: r)
    else if decide (c = 0x0A#8) && decide (acc.getLast? = some 0x0D#8) then some (acc ++ [c], .whole, r)
    else if 82 ≤ n + 1 then some (acc ++ [c], .tooLong, r)
    else scanSentence (acc ++ [c]) (n + 1) r

/-- A hexadecimal digit in either case. -/
def hexVal (b : Byte) : Option Nat :=
  let n := b.toNat
  if 0x30 ≤ n ∧ n ≤ 0x39 then some (n - 0x30)
  else if 0x41 ≤ n ∧ n ≤ 0x46 then some (n - 0x37)
  else if 0x61 ≤ n ∧ n ≤ 0x66 then some (n - 0x57)
  else none

/-- CHK_PRESENT and CHK_OK of a sentence (R392): two hexadecimal digits after "*", against the XOR of what lies between. -/
def sentCheck (l : List Byte) : Bool × Bool :=
  let body := (l.drop 1).takeWhile (fun b => decide (b ≠ 0x2A#8))
  match (l.drop 1).drop (body.length + 1) with
  | a :: b :: _ =>
    (match hexVal a, hexVal b with
      | some x, some y => if (l.drop 1).length = body.length then (false, false) else (true, decide ((xorSum body).toNat = 16 * x + y))
      | _, _ => (false, false))
  | _ => (false, false)

/-- A sentence's record (R392). -/
def sentRecord (l : List Byte) (flags : Nat) (t : DWord) : List Byte :=
  leBytes 2 l.length ++ leBytes 2 flags ++ [0#8, 0#8, 0#8, 0#8] ++ leBytes 8 t.toNat ++ l

/-- A sentence that has ended is counted and delivered with its flags and the TIME of its start (R392). -/
def serDeliverSentence (s : State) (k : Nat) (l : List Byte) (e : SentEnd) (parity framing : Bool) (t : DWord) : State :=
  let (p, ok) := sentCheck l
  let flags := b2n p + 2 * b2n ok + 4 * b2n (decide (e = .tooLong)) + 8 * b2n (decide (e = .abort)) + 16 * b2n parity + 32 * b2n framing
  let s := countUp (serLine s k (parity || framing)) (lSER k) 0x114 0 32
  let s := if p && !ok then raise (countUp s (lSER k) 0x118 0 32) (lSER k) 2 else s
  serDeliver s k (sentRecord l flags t) t

/-- Received characters, at most `n` sentences in them: those outside a sentence are discarded and counted, each sentence that ends is
delivered. The TIME of a sentence after the first has no operand: a free value (log entry 52). -/
def serChars (k : Nat) (parity framing : Bool) : Nat → State → DWord → List Byte → State
  | 0, s, _, _ => s
  | n + 1, s, t, bytes =>
    let junk := bytes.takeWhile (fun b => !isStart b)
    let s := setReg s (lSER k) 0x11C (BitVec.ofNat 32 (min ((reg s (lSER k) 0x11C).toNat + junk.length) 0xFFFFFFFF))
    match bytes.drop junk.length with
    | [] => s
    | c :: r =>
      match scanSentence [c] 1 r with
      | none => s
      | some (l, e, rest) =>
        let s := serDeliverSentence s k l e parity framing t
        if rest.isEmpty then s
        else
          let (w, s) := draw s
          let (x, s) := draw s
          serChars k parity framing n s (w ++ x) rest

/-- SER_SENTENCE (R392): received characters up to the end of a sentence. -/
def execSerSentence (n : Fin 6) (bytes : List Byte) (parity framing : Bool) (ago : BitVec 32) (s : State) :
    Host.Outcome State Fault Refusal :=
  done (if serHears s n.val true then serChars n.val parity framing bytes.length s (time64 s - ago.setWidth 64) bytes else s)

/-- SER_TX_DONE (R391, R393). -/
def execSerTxDone (n : Fin 6) (ago : BitVec 32) (s : State) : Host.Outcome State Fault Refusal :=
  let k := n.val
  let c := reg s (lSER k) 0x10C
  let q := fld c 5 0
  done (if !linkRuns s (lSER k) then s
    else match txRun s (bit c 7) q (8 + k) with
      | none => s
      | some r =>
        let s := setQueue s q { queue s q with run := some { r with res := some (time64 s - ago.setWidth 64) } }
        raise { s with out := s.out ++ [.linkFrame (8 + k) (serBytes s k r.buf)] } (lSER k) 1)

/-- The gathered descriptor of a queue that waits for an expansion target (R394, R395). -/
def xferRun (s : State) (q target : Nat) (en : Bool) : Option QRun :=
  if netOn s && en && decide (qFunc s q = 3) && decide (qTarget s q = target) && decide (qState s q = 2) then
    match (queue s q).run with
    | some r => if r.prog = r.d.len ∧ r.code = none ∧ r.back = none then some r else none
    | none => none
  else none

/-- SPI_TRANSFER_DONE (R394): as many bytes come back as were sent. -/
def execSpiTransferDone (q : BitVec 6) (rx : List Byte) (s : State) : Host.Outcome State Fault Refusal :=
  let n := q.toNat
  done (match xferRun s n 17 (cfgBit s lNET 0x160 15) with
    | some r => if rx.length = r.d.len then
        setQueue { s with out := s.out ++ [.linkFrame 17 r.buf] } n { queue s n with run := some { r with back := some rx } } else s
    | none => s)

/-- PMB_TRANSACTION_DONE (R395, R414, R415): the bytes read, or a NACK or a failed packet error check, which PEC of PMB_CFG or of the
descriptor asks for. -/
def execPmbTransactionDone (q : BitVec 6) (rx : List Byte) (nack pecOk : Bool) (s : State) : Host.Outcome State Fault Refusal :=
  let n := q.toNat
  done (match xferRun s n 18 (cfgBit s lNET 0x164 3) with
    | some r =>
      let s := { s with out := s.out ++ [.linkFrame 18 r.buf] }
      if nack || (((r.buf.getD 3 0#8).getLsbD 0 || cfgBit s lNET 0x164 2) && !pecOk) then setQueue s n { queue s n with run := some { r with code := some 7 } }
      else if rx.length = (r.buf.getD 2 0#8).toNat then setQueue s n { queue s n with run := some { r with back := some rx } }
      else s
    | none => s)

/-- PMB_TIMEOUT (R395, R415). -/
def execPmbTimeout (q : BitVec 6) (s : State) : Host.Outcome State Fault Refusal :=
  let n := q.toNat
  done (match xferRun s n 18 (cfgBit s lNET 0x164 3) with
    | some r => setQueue s n { queue s n with run := some { r with code := some 7 } }
    | none => s)

/-- PMB_ALERT (R395, R397): the level of PMB_ALERT_N, true for low. -/
def execPmbAlert (level : Bool) (s : State) : Host.Outcome State Fault Refusal :=
  done { s with net := { s.net with pmbAlert := level } }

/-- An entry becomes stale; the change of a receiving entry sets NV_STALE (R378). -/
def nvStale (s : State) (v : Nat) : State :=
  raiseIf (decide (nvDir s v = 1) && !(nvEnt s v).stale) (setNv s v { nvEnt s v with stale := true }) lNET 1

/-- What an accepted NET set does: the wake controller takes its copy (R384); an entry whose DIR or source changes is stale until its
first update (R378). -/
def netApplied (s : State) (keys : List Nat) : State :=
  let s := { s with net := { s.net with t1sCfg := reg s lNET 0x150, t1sCode := reg s lNET 0x154 } }
  (keys.filter (fun k => decide (0x100000000 ≤ k))).foldl (fun t k => nvStale t (k / 0x100000000 - 1)) s

/-- The NET page is enabled: every receiving entry is stale until its first update (R378). -/
def netEnable (s : State) : State := (List.range 256).foldl (fun t v => if (nvEnt t v).stale then t else nvStale t v) s

/-- A soft reset of the NET page (R69): the wake controller in PD_AON keeps its copy and the nodes it has heard, the links and the pages of
the other ports stay. -/
def netSoftReset (s : State) : State :=
  { s with net := { ({} : Net) with t1sCfg := s.net.t1sCfg, t1sCode := s.net.t1sCode, present := s.net.present, can := s.net.can,
                                    serFault := s.net.serFault, pmbAlert := s.net.pmbAlert, linkA := s.net.linkA, linkB := s.net.linkB, svcUp := s.net.svcUp } }

/-- LINK_STAT, MAC_LO, MAC_HI, MGMT_STAT and NV_STAT (R397). -/
def linkStat (s : State) : Word := bitw s.net.linkA 0 ||| bitw s.net.linkB 1 ||| bitw s.net.svcUp 2 ||| bitw (t1sOn s) 3
def mgmtStat (s : State) : Word := bitw s.net.sess6.isSome 0 ||| bitw s.net.sess7.isSome 1 ||| bitw (!s.otp.mgmtKey.isEmpty) 2
def nvStat (s : State) (v : Nat) : Word := bitw (nvEnt s v).stale 0 ||| BitVec.ofNat 32 (0x10000 * (nvEnt s v).upd.toNat)
/-- CAN_STAT and SER_STAT (R399, R401). RX_ACTIVE has no command that shows it and reads 0. -/
def canStat (s : State) (n : Nat) : Word :=
  BitVec.ofNat 32 ((canSt s n).st.toNat + 256 * (canSt s n).tec + 0x10000 * (canSt s n).rx)
def serStat (s : State) (n : Nat) : Word := bitw (serTx s n) 1 ||| bitw (serDe s n) 2

end Sys2Proof.Machine
end

