-- ==== Sys2Proof/Machine/Service.lean ====
section
/-! DEFINITION. Block tests, the end of an injection, and debug access (R458 to R469). -/
namespace Sys2Proof.Machine

/-- Is the module in SERVICE (R61)? -/
def inService (s : State) : Bool := s.pwr.lcState = 3#3

/-- The tests of R459 that need the block frozen, and those that need SERVICE. -/
def testFrozen (u sel : Nat) : Bool := (decide (5 ≤ u ∧ u ≤ 12) && decide (sel = 2)) || decide (u = lSSNS)
def testService (u : Nat) : Bool := u = lBIST || u = lNET

/-- Does SEL name a test of the page (R459)? -/
def testNamed (u sel : Nat) : Bool :=
  (decide (sel = 1) && ((decide (5 ≤ u) && decide (u ≤ 23)) || decide (u = lROPE))) || (decide (sel = 2) && decide (5 ≤ u ∧ u ≤ 12))

/-- Does the condition of the test hold (R459)? -/
def testAllowed (s : State) (u sel : Nat) : Bool :=
  if testFrozen u sel then alive s u && (hdr s u).frozen
  else if testService u then works s u && inService s
  else works s u && (decide (u ≠ lROPE) || cfgBit s lROPE 0x100 0)

/-- A test begins (R459): the sweep draws its regions, the fence test sends its pulse; LAMP shows through the running test. -/
def testBegin (s : State) (u sel : Nat) : State :=
  let h := hdr s u
  let s := setHdr s u { h with tRun := true, tDone := false, tPass := false, tSel := BitVec.ofNat 8 sel, tKind := BitVec.ofNat 8 sel }
  if u = lBIST then sweepStart s
  else if u = lGAL then descClear s
  else if u = lROPE then { s with out := s.out ++ [.fence 200] } else s

/-- RUN written with SEL (R458): a refused RUN changes nothing and is captured with code 0x9. -/
def testRun (s : State) (ctx : Ctx) (u sel : Nat) : State :=
  if testNamed u sel && testAllowed s u sel && !(hdr s u).tRun then testBegin s u sel else capture s u ctx true 0x9 0x30

/-- A test ends (R458, R460). -/
def testEnd (s : State) (u : Nat) (completed pass : Bool) : State :=
  let h := hdr s u
  if !h.tRun then s
  else
    let s := setHdr s u { h with tRun := false, tDone := completed, tPass := completed && pass, tKind := 0#8 }
    let s := if u = lBIST then s.bist.regs.foldl (fun t e => setBReg t e.1 { bReg t e.1 with back := none }) s else s
    if !completed then s
    else
      let m := BitVec.ofNat 64 (2 ^ u)
      { s with test := { s.test with failMap := if pass then s.test.failMap &&& ~~~m else s.test.failMap ||| m } }

/-- FREEZE clears (R460): a test that needs the block frozen ends and fails. -/
def testUnfrozen (s : State) (u : Nat) : State :=
  if testFrozen u (hdr s u).tKind.toNat then testEnd s u true false else s

/-- A domain goes off (R460): the tests of its pages end and fail. -/
def testsDomain (s : State) : State := (List.range 45).foldl (fun t u => if unitOn t u then t else testEnd t u true false) s

/-- A takeover (R460): SERVICE tests end and fail. -/
def testsTakeover (s : State) : State := testEnd (testEnd s lBIST true false) lNET true false

/-- Degraded mode (R460): every test ends, and nothing of it is kept. -/
def testsDrop (s : State) : State := (List.range 45).foldl (fun t u => testEnd t u false false) s

/-- The verdict of a test (R459): what the state decides, else what the test found. -/
def testVerdict (s : State) (u : Nat) (found : Bool) : State × Bool :=
  if u = lGAL then
    let t := descReport s
    (t, !t.gal.descBad)
  else if u = lGRP then
    let t := graphCheck s
    (t, !t.grp.chkBad && !t.grp.edgeBad)
  else if u = lECHO then
    (s, (List.range 2).all (fun x => !cfgBit s lECHO 0x100 x || !lineFault (callLine s x)) &&
      (List.range 64).all (fun n => !cuEnabled s n || !(callLine s (n / 32)).lost.getLsbD (n % 32)))
  else if u = lLANT then (s, s.lant.vcolOk)
  else if u = lBIST then (s, found && !s.bist.drive)
  else if u = lROPE then (s, cbit s.rope.peerFlags 4)
  else (s, found)

/-- CHMB_REF_CHECK and CHMB_SRC_CHECK (R459). -/
def execChmbRefCheck (ctx : Ctx) (chmb : BitVec 3) (s : State) : Host.Outcome State Fault Refusal :=
  done (ownerWrite s ctx (lCHMB chmb.toNat) 0x30 (fun s => testRun s ctx (lCHMB chmb.toNat) 1))
def execChmbSrcCheck (ctx : Ctx) (chmb : BitVec 3) (s : State) : Host.Outcome State Fault Refusal :=
  done (ownerWrite s ctx (lCHMB chmb.toNat) 0x30 (fun s => testRun s ctx (lCHMB chmb.toNat) 2))

/-- The tests with SEL 1 of the other pages (R459). -/
def test1 (s : State) (ctx : Ctx) (u : Nat) : State := ownerWrite s ctx u 0x30 (fun s => testRun s ctx u 1)
def execSsnsRefCheck (ctx : Ctx) (s : State) : Host.Outcome State Fault Refusal := done (test1 s ctx lSSNS)
def execIntgStoreScrub (ctx : Ctx) (s : State) : Host.Outcome State Fault Refusal := done (test1 s ctx lINTG)
def execGalDescScan (ctx : Ctx) (s : State) : Host.Outcome State Fault Refusal := done (test1 s ctx lGAL)
def execGrpGraphScan (ctx : Ctx) (s : State) : Host.Outcome State Fault Refusal := done (test1 s ctx lGRP)
def execEchoLineCheck (ctx : Ctx) (s : State) : Host.Outcome State Fault Refusal := done (test1 s ctx lECHO)
def execLoopArith (ctx : Ctx) (s : State) : Host.Outcome State Fault Refusal := done (test1 s ctx lLOOP)
def execFioWbCheck (ctx : Ctx) (s : State) : Host.Outcome State Fault Refusal := done (test1 s ctx lFIO)
def execLantLamp (ctx : Ctx) (s : State) : Host.Outcome State Fault Refusal := done (test1 s ctx lLANT)
def execBistSweep (ctx : Ctx) (s : State) : Host.Outcome State Fault Refusal := done (test1 s ctx lBIST)
def execFlowWriteTest (ctx : Ctx) (s : State) : Host.Outcome State Fault Refusal := done (test1 s ctx lFLOW)
def execNetPhyLoop (ctx : Ctx) (s : State) : Host.Outcome State Fault Refusal := done (test1 s ctx lNET)
def execRopeFenceTest (ctx : Ctx) (s : State) : Host.Outcome State Fault Refusal := done (test1 s ctx lROPE)

/-- BLOCK_TEST_DONE (R458, R460): a live test of a block whose FREEZE is set is paused and does not end. -/
def execBlockTestDone (unit : BitVec 6) (pass : Bool) (s : State) : Host.Outcome State Fault Refusal :=
  let u := unit.toNat
  let h := hdr s u
  done (if 45 ≤ u ∨ !h.tRun ∨ !alive s u ∨ (h.freeze ∧ !testFrozen u h.tKind.toNat) then s
    else
      let (s, ok) := testVerdict s u pass
      testEnd s u true ok)

/-- INJ_TIME_EXPIRY (R461). -/
def execInjTimeExpiry (s : State) : Host.Outcome State Fault Refusal := done (injectEnd s 1#3)

/-- Does the lifecycle state allow debug of the application cores, or of the safety core (R466)? -/
def debugAllowed (s : State) (app : Bool) : Bool :=
  match s.pwr.lcState.toNat with | 0 => true | 1 => app | 3 => app | _ => false

/-- DBG_ATTACH (R466, R467). -/
def execDbgAttach (app : Bool) (s : State) : Host.Outcome State Fault Refusal :=
  done (if debugAllowed s app && unitOn s lTEST then
    raise (countUp { s with test := { s.test with attached := true } } lTEST 0x11C 0 16) lTEST 1 else s)

/-- APP_HALT (R405, R467): the attached debugger halts the application cluster, whose queues stop, or lets it run. -/
def execAppHalt (halt : Bool) (s : State) : Host.Outcome State Fault Refusal :=
  done (if s.test.attached && debugAllowed s true && domOn s dAPP then
    let s := { s with test := { s.test with appHalt := halt } }
    if halt then stopQueuesOf s 1#3 else s
  else s)

/-- DBG_DETACH (R467): the session ends, and with it a halt. -/
def execDbgDetach (s : State) : Host.Outcome State Fault Refusal :=
  done { s with test := { s.test with attached := false, appHalt := false } }

/-- INJ_STAT and DBG_STAT as they read (R468). -/
def injRemain (s : State) : Nat :=
  if s.test.inj then
    (s.test.injAt + cfg s lTEST 0x108 9 0 * 1000000000 - s.now + 999999999) / 1000000000 else 0
def injStat (s : State) : Word :=
  BitVec.ofNat 32 (b2n s.test.inj + 16 * s.test.injEnd.toNat + 256 * s.test.injCnt + 0x10000 * injRemain s)
def dbgStat (s : State) : Word :=
  BitVec.ofNat 32 s.pwr.lcState.toNat ||| bitw s.test.attached 4 ||| bitw s.test.appHalt 5

end Sys2Proof.Machine
end

