-- ==== Sys2Proof/Machine/Rope.lean ====
section
/-! DEFINITION. Rope: the duty/standby pairing of two modules (R440 to R457). -/
namespace Sys2Proof.Machine

def member1 (s : State) : Bool := cfgBit s lROPE 0x100 1

/-- A counter since enable saturates. -/
def satW (w : Word) (n : Nat) : Word := BitVec.ofNat 32 (min (w.toNat + n) 0xFFFFFFFF)

/-- FENCE_SEEN: a test pulse of the partner within the last 25 ms; FENCE_OK is the partner's (R444). -/
def fenceSeen (s : State) : Bool := match s.rope.fenceAt with | some t => decide (s.now - t ≤ 25000000) | none => false
/-- CFG_MATCH: the two health reports carry one CFG_HASH (R454). -/
def cfgMatch (s : State) : Bool :=
  decide (s.rope.own.length = 64) && decide (s.rope.peer.length = 64) &&
  decide ((s.rope.own.drop 16).take 8 = (s.rope.peer.drop 16).take 8)

def chmbOk (s : State) : Bool := s.rope.chmbFail = 0#8 && (!standby s || s.rope.chmbRan = 0xFF#8)
def selfOk (s : State) : Bool := !standby s || (chmbOk s && shadowOk s && s.rope.flowOk && dramOk s)

/-- HEALTH_OK (R453). -/
def healthOk (s : State) : Bool :=
  ropeOn s && selfOk s && s.rope.linkUp && fenceOk s && cfgMatch s && decide (s.rope.role ≠ 6#3) && (!standby s || ropeSynced s)

/-- FLAGS of a heartbeat (R443). -/
def hbFlags (s : State) : Nat :=
  b2n (decide (s.rope.role = 6#3)) + 2 * b2n (s.rope.handover && decide (s.rope.role = 5#3)) +
  4 * b2n (decide (s.rope.role = 3#3)) + 8 * b2n (healthOk s) + 16 * b2n (fenceSeen s)

/-- A heartbeat leaves (R443). -/
def sendHeartbeat (s : State) : State :=
  { s with out := s.out ++ [.rope 1 (leBytes 1 s.rope.role.toNat ++ leBytes 1 (hbFlags s) ++ [0#8, 0#8] ++
      leBytes 4 s.rope.ack.toNat ++ leBytes 4 s.grp.seq.toNat ++ leBytes 4 s.grp.session.toNat)] }

/-- The fence or a test pulse, in ns (R444, R447); a degraded module keeps FENCE_OUT low (R35). -/
def pulseFence (s : State) (ns : Nat) : State := if s.pwr.degraded then s else { s with out := s.out ++ [.fence ns] }

/-- The role changes: ROLE_CHG (R457). -/
def setRole (s : State) (r : BitVec 3) : State :=
  if s.rope.role = r then s else raise { s with rope := { s.rope with role := r } } lROPE 0

/-- Entry to degraded mode or to the power-fail sequence (R443, R446): FAULT, told at once. -/
def ropeFault (s : State) : State :=
  if ropeOn s && decide (s.rope.role ≠ 6#3) then sendHeartbeat (setRole s 6#3) else s

/-- A Gallery that stops evaluating keeps its committed states and its descriptors alone (R449). -/
def galStill (s : State) : State :=
  let s := s.gal.held.foldl (fun t c => cmdResult t c.src 8 0) s
  let still (e : Nat × Point) : Nat × Point :=
    (e.1, { core := e.2.core, desc := e.2.desc, next := e.2.next, itCause := e.2.itCause, itStamp := e.2.itStamp })
  { s with gal := { s.gal with
      pts := s.gal.pts.map still
      ready := []
      vreq := []
      vans := []
      held := []
      due := [] } }

/-- The forces on paired outputs are cleared (R316, R322). -/
def clearPairedForces (s : State) : State := withFaults s (fun s =>
  let s := (List.range 32).foldl (fun t n => if bit (doCfg t n) 5 then setFld t lFIO (0x600 + 4 * n) 1 1 0 else t) s
  (List.range 16).foldl (fun t n => if bit (aoCfg t n) 4 then setFld t lFIO (0x680 + 4 * n) 16 16 0 else t) s)

/-- A member becomes the standby (R322, R446, R448, R449): outputs, scanning, evaluation, call-loop frames and event messages stop. -/
def toStandby (s : State) : State :=
  let s := setRole s 2#3
  let s := clearPairedForces (galStill s)
  let quiet (e : Nat × Chmb) : Nat × Chmb := (e.1, { e.2 with
    passOn := false, again := false, scan := [], cur := none, conv := none, fbSent := [], fbList := [], angQ := [] })
  let anew (e : Nat × DiCh) : Nat × DiCh := (e.1, { e.2 with first := false })
  let s := { s with
    chmb := s.chmb.map quiet
    fio := { s.fio with mirDo := [], mirAo := [], di := s.fio.di.map anew } }
  let s := (s.loop.slots.map (·.1)).foldl slotOff s
  let s := { s with
    grp := { s.grp with txq := [] }
    echo := { s.echo with due := [], inq := [] }
    rope := { s.rope with
      handover := false
      snapOn := false
      copied := false
      snapSent := false
      snap := []
      due := []
      frames := []
      lags := []
      chmbRan := 0#8 } }
  if alive s lGRP then election s else s

/-- A takeover (R446, R449, R452): warm from STANDBY, cold from CATCHUP; T is this instant. -/
def takeover (s : State) (fence : Bool) : State :=
  let warm := decide (s.rope.role = 3#3)
  let s := setRole { s with rope := { s.rope with cold := !warm, snapOn := false, copied := false } } 4#3
  let s := raise (setReg64 (countUp s lROPE 0x118 0 32) lROPE 0x120 (time64 s)) lROPE 3
  let s := testsTakeover (if fence then pulseFence s 50000 else s)
  let s := chmResume s
  let s := { s with grp := { s.grp with seq := s.rope.evtSeq + 65535#32 } }
  if warm then
    let s := (s.gal.pts.map (·.1)).foldl supRefresh s
    if alive s lECHO then recount s else s
  else
    let bare (e : Nat × Slot) : Nat × Slot := (e.1, { e.2 with mirror := none })
    let s := { s with
      loop := { s.loop with slots := s.loop.slots.map bare }
      fio := { s.fio with rel := 0#32 }
      echo := { s.echo with calls := [] }
      pwr := { s.pwr with released := false, byDeadline := false, noDeadline := true } }
    let s := if alive s lGAL then galEnable s else s
    let s := (s.gal.pts.map (·.1)).foldl supRefresh s
    if alive s lECHO then echoStart s else s

/-- The member becomes the duty (R446, R452, R233). -/
def toDuty (s : State) : State :=
  let s := setRole { s with rope := { s.rope with snapSent := false, snap := [], due := [], frames := [] } } 5#3
  if alive s lGRP then election s else s

/-- A standby that leaves the pair (its page enabled anew or reset) scans again, and its suppression results go to the Gallery (log entry 80). -/
def leavePair (s t : State) : State :=
  if standby s then (t.gal.pts.map (·.1)).foldl supRefresh (chmResume t) else t

/-- The ROPE page is enabled (R446, R448, R457): INIT, or CATCHUP after a fence; SOLO with PAIR_EN = 0. -/
def ropeEnable (s : State) : State :=
  let s := leavePair s { s with rope := { linkUp := s.rope.linkUp } }
  if !cfgBit s lROPE 0x100 0 then s
  else if s.pwr.degraded then setRole s 6#3
  else if s.pwr.rstCause &&& causeFence ≠ 0#7 then toStandby s
  else setRole s 1#3

/-- A soft reset of the page. -/
def ropeSoftReset (s : State) : State := leavePair s { s with rope := {} }

/-- CATCHUP ends (R446): full copy applied, CFG_MATCH, and the grouping engine SYNCED. -/
def tryStandby (s : State) : State :=
  if ropeOn s && decide (s.rope.role = 2#3) && s.rope.copied && cfgMatch s && grpSynced s then
    setRole { s with rope := { s.rope with chmbRan := 0#8 } } 3#3
  else s

/-- ROPE_HEARTBEAT_SEND (R443). -/
def execRopeHeartbeatSend (s : State) : Host.Outcome State Fault Refusal :=
  done (if ropeOn s then sendHeartbeat (tryStandby (takeEffect s lROPE).1) else s)

/-- A frame whose CRC fails is discarded and counted (R442). -/
def badFrame (s : State) : State :=
  countUp { s with rope := { s.rope with linkErr := satW s.rope.linkErr 1 } } lROPE 0x110 0 32

/-- A full copy of the duty's state starts (R455): every enabled point, every call, the dead-man counter, every released slot.
Paired outputs that are driven are sent again behind it (log entry 40). -/
def startCopy (s : State) : State :=
  let keys := (s.gal.pts.filter (fun e => dEn e.2.desc)).map (fun e => MirKey.point e.1) ++ (List.range 17).map MirKey.call ++
    [.deadMan] ++ (s.loop.slots.filter (fun e => decide (e.2.mode ≠ 0#3))).map (fun e => MirKey.slot e.1)
  { s with rope := { s.rope with
      snapSent := true
      snap := keys
      due := []
      frames := []
      sentDo := []
      sentAo := []
      sentCall := []
      sentDm := none
      sentSlot := [] } }

/-- The role machine at a heartbeat (R446, R452). -/
def hbRole (s : State) (role flags : Nat) : State :=
  let duty := decide (role = 5) || decide (role = 4)
  match s.rope.role.toNat with
  | 1 => if duty then toStandby s
         else if role = 1 ∨ role = 2 then (if member1 s then toStandby s else toDuty s) else s
  | 2 => if flags.testBit 0 then takeover s false else tryStandby s
  | 3 => if flags.testBit 1 || flags.testBit 0 then takeover s false else s
  | 4 => if duty then s else toDuty s
  | 5 => if role = 4 then toStandby s
         else if role = 2 then
           (if !flags.testBit 2 && cfgMatch s && !s.rope.snapSent then startCopy s else s)
         else { s with rope := { s.rope with snapSent := false, snap := [] } }
  | _ => s

/-- ROPE_HEARTBEAT_RX (R443, R446): the standby takes SESSION, and EVT_SEQ, from the duty's. -/
def execRopeHeartbeatRx (crcOk : Bool) (hb : Heartbeat) (s : State) : Host.Outcome State Fault Refusal :=
  done (if !ropeOn s then s
    else if !crcOk then badFrame s
    else
      let s := raiseIf s.rope.peerLost s lROPE 2
      let s := { s with rope := { s.rope with
        miss := 0
        peerLost := false
        linkFault := false
        peerRole := BitVec.ofNat 3 hb.role.toNat
        peerFlags := hb.flags
        peerAck := hb.ack } }
      let duty := decide (hb.role = 5#8) || decide (hb.role = 4#8)
      let s := if duty then { s with rope := { s.rope with evtSeq := hb.evtSeq } } else s
      let s := if duty && standby s then { s with grp := { s.grp with session := hb.session } } else s
      hbRole s hb.role.toNat hb.flags.toNat)

/-- ROPE_HB_MISS (R446): the third consecutive missed interval is a takeover with fence, or the loss of the partner. -/
def execRopeHbMiss (s : State) : Host.Outcome State Fault Refusal :=
  done (if !ropeOn s then s
    else
      let s := countUp { s with rope := { s.rope with miss := min (s.rope.miss + 1) 3, hbMiss := satW s.rope.hbMiss 1 } } lROPE 0x10C 0 32
      if s.rope.miss < 3 ∨ s.rope.peerLost then s
      else
        let known := decide (s.rope.peerRole ≠ 7#3)
        let s := { s with rope := { s.rope with peerLost := known, peerRole := 7#3, peerFlags := 0#8, handover := false, snapSent := false, snap := [] } }
        match s.rope.role.toNat with
        | 2 => takeover s true
        | 3 => takeover s true
        | 5 => raiseIf known s lROPE 1
        | _ => s)

/-- ROPE_INIT_TIMEOUT (R446): no heartbeat has decided the role in 50 ms (MEMBER 0) or 100 ms (MEMBER 1). -/
def execRopeInitTimeout (s : State) : Host.Outcome State Fault Refusal :=
  done (if !(ropeOn s && decide (s.rope.role = 1#3)) then s
    else if fenceSeen s then
      (if member1 s then
        let t := toStandby s
        { t with rope := { t.rope with linkFault := true } }
      else toDuty s)
    else toDuty (if member1 s then pulseFence s 50000 else s))

/-- ROPE_DA_WINDOW_END (R452): T + DA_WIN × 100 us. -/
def execRopeDaWindowEnd (s : State) : Host.Outcome State Fault Refusal :=
  done (if ropeOn s && decide (s.rope.role = 4#3) then toDuty s else s)

/-- ROPE_FENCE_TEST_PULSE (R444). -/
def execRopeFenceTestPulse (s : State) : Host.Outcome State Fault Refusal := done (if ropeOn s then pulseFence s 200 else s)

/-- ROPE_FENCE_SEEN (R444). -/
def execRopeFenceSeen (s : State) : Host.Outcome State Fault Refusal :=
  done (if ropeOn s then { s with rope := { s.rope with fenceAt := some s.now } } else s)

/-- ROPE_LINK_UP and ROPE_LINK_DOWN (R442). -/
def execRopeLinkUp (s : State) : Host.Outcome State Fault Refusal :=
  done (if alive s lROPE then { s with rope := { s.rope with linkUp := true } } else s)
def execRopeLinkDown (s : State) : Host.Outcome State Fault Refusal :=
  done (if alive s lROPE then { s with rope := { s.rope with linkUp := false } } else s)

/-- Bytes of a record (R449). -/
def mirSize : MirKey → Nat
  | .dout _ => 8
  | .aout _ => 8
  | .point _ => 48
  | _ => 24

/-- ms left until an instant. -/
def msLeft (s : State) (at0 : Nat) : Word := BitVec.ofNat 32 ((at0 - s.now + 999999) / 1000000)

/-- The record of a point (R449). -/
def pointMir (s : State) (p : Nat) : MirPoint :=
  let c := (pnt s p).core
  let d := (s.rope.due.find? (fun e => decide (e.p = p))).getD ⟨p, none, time64 s⟩
  { index := BitVec.ofNat 11 p, st := c.st, prio := c.prio, c := c.c, a := c.a, inst := c.inst, instTime := c.instTime, sup := c.sup,
    shelf := c.shelf, oos := c.oos, first := c.first, value := c.value, qual := c.qual, ref := c.ref,
    tmr := c.tmr.filterMap (fun e => e.2.map (fun t => ⟨BitVec.ofNat 3 e.1, t.on, msLeft s (t.at0 + t.ms * 1000000)⟩)),
    shelfLeft := if c.shelf then msLeft s (c.shelfAt + c.shelfS * 1000000000) else 0#32, item := d.item, commit := d.commit }

/-- The record of a key, from the duty's state (R449). -/
def mirRec (s : State) (k : MirKey) : MirRec :=
  match k with
  | .dout n => .dout (BitVec.ofNat 5 n) (doCmd s n)
  | .aout n => .aout (BitVec.ofNat 4 n) ((aoCode s n).map (BitVec.ofNat 16))
  | .point p => .point (pointMir s p)
  | .call k =>
    let c := call s k
    .call (Fin.ofNat 17 k) c.st c.stage c.target c.emrg (if c.st = 1#2 then msLeft s c.endAt else 0#32)
  | .deadMan =>
    let d := s.echo.dm
    .deadMan d.st (if d.st = 0#2 then 0#32 else msLeft s (d.at0 + d.per * 1000000000))
  | .slot n =>
    let l := slot s n
    .loop (BitVec.ofNat 6 n) l.mode l.trips (BitVec.ofInt 32 l.out) (BitVec.ofInt 32 l.core.i) (BitVec.ofInt 32 l.sp)

/-- What the duty remembers of a record that leaves. -/
def mirNote (s : State) (k : MirKey) : State :=
  let r := s.rope
  { s with rope := match k with
      | .dout n => { r with sentDo := tset r.sentDo n (doCmd s n) .off }
      | .aout n => { r with sentAo := tset r.sentAo n (aoCode s n) none }
      | .point p => { r with due := r.due.filter (fun e => decide (e.p ≠ p)) }
      | .call k => { r with sentCall := tset r.sentCall k (some (call s k, s.now)) none }
      | .deadMan => { r with sentDm := some (s.echo.dm, s.now) }
      | .slot n => { r with sentSlot := tset r.sentSlot n (some ((slot s n).mode, s.now)) none } }

/-- The records due, outputs ahead of every other (R449): a command that changed; a commit; a call or the dead-man counter that
changed or was last sent 100 ms ago; a released slot sent 1 ms ago, or a mode change. -/
def mirDueKeys (s : State) : List MirKey :=
  let r := s.rope
  ((List.range 32).filter (fun n => bit (doCfg s n) 5 && decide (tget r.sentDo n .off ≠ doCmd s n))).map .dout ++
  ((List.range 16).filter (fun n => bit (aoCfg s n) 4 && decide (tget r.sentAo n none ≠ aoCode s n))).map .aout ++
  r.due.map (fun e => .point e.p) ++
  ((List.range 17).filter (fun k => match tget r.sentCall k none with
    | some (c, t) => decide (c ≠ call s k) || decide (100000000 ≤ s.now - t)
    | none => true)).map .call ++
  (match r.sentDm with
    | some (d, t) => if d ≠ s.echo.dm ∨ 100000000 ≤ s.now - t then [.deadMan] else []
    | none => [.deadMan]) ++
  ((List.range 64).filter (fun n => match tget r.sentSlot n none with
    | some (m, t) => decide (m ≠ (slot s n).mode) || (slotRel s n && decide (1000000 ≤ s.now - t))
    | none => slotRel s n)).map .slot

/-- The first keys that one frame holds: 256 bytes with MSEQ (R442). -/
def takeFit : Nat → List MirKey → List MirKey
  | room, k :: rest => if mirSize k ≤ room then k :: takeFit (room - mirSize k) rest else []
  | _, [] => []

/-- Frames stay while they lie in the last 64 KiB (R444). -/
def mirRecSize : MirRec → Nat
  | .dout _ _ => 8
  | .aout _ _ => 8
  | .point _ => 48
  | _ => 24
def frameSize (f : MirFrame) : Nat := f.recs.foldl (fun n r => n + mirRecSize r) 16
def keepFrames : Nat → List MirFrame → List MirFrame
  | room, f :: rest => if frameSize f ≤ room then f :: keepFrames (room - frameSize f) rest else []
  | _, [] => []

/-- A MIRROR or SNAP frame leaves. -/
def sendMirror (s : State) (snap : Bool) (keys : List MirKey) : State :=
  let f : MirFrame := ⟨s.rope.mseq + 1#32, snap, keys.map (mirRec s)⟩
  let s := keys.foldl mirNote s
  { s with
    out := s.out ++ [.mirror f]
    rope := { s.rope with mseq := f.mseq, frames := (keepFrames 65536 (f :: s.rope.frames.reverse)).reverse } }

/-- ROPE_MIRROR_SEND (R442, R444, R449, R455): one frame, of the full copy while one is being sent, else of what is due. -/
def execRopeMirrorSend (s : State) : Host.Outcome State Fault Refusal :=
  done (if !(ropeOn s && decide (s.rope.role = 5#3)) then s
    else
      let ks := takeFit 252 s.rope.snap
      if !ks.isEmpty then
        sendMirror { s with rope := { s.rope with snap := s.rope.snap.drop ks.length } } true ks
      else
        let ks := takeFit 252 (mirDueKeys s)
        if ks.isEmpty then s else sendMirror s false ks)

/-- ROPE_MIRROR_RESEND (R444): from MSEQ_ACK + 1, or a full copy where the buffer no longer holds that frame. -/
def execRopeMirrorResend (s : State) : Host.Outcome State Fault Refusal :=
  done (if !(ropeOn s && decide (s.rope.role = 5#3)) || decide (s.rope.peerAck = s.rope.mseq) then s
    else
      let l := s.rope.frames.dropWhile (fun f => decide (f.mseq ≠ s.rope.peerAck + 1#32))
      if l.isEmpty then (if cfgMatch s then startCopy s else s) else { s with out := s.out ++ l.map Out.mirror })

/-- A POINT record (R449): the committed state and its timers; the change item that the commit issued goes to the standby's
consumers. The STAMP of a timer's item is not mirrored (log entry 1). -/
def applyPoint (s : State) (m : MirPoint) : State :=
  let p := m.index.toNat
  let (w0, s) := draw s
  let (w1, s) := draw s
  let pt := pnt s p
  let o := pt.core
  let ns := m.shelfLeft.toNat * 1000000
  let shelfS := (ns + 999999999) / 1000000000
  let c : PtCore := {
    st := m.st, prio := m.prio, c := m.c, a := m.a, inst := m.inst, instTime := m.instTime, sup := m.sup, shelf := m.shelf, oos := m.oos,
    first := m.first, value := m.value, qual := m.qual, ref := m.ref, shelfS := shelfS, shelfAt := s.now - (shelfS * 1000000000 - ns),
    tmr := m.tmr.foldl (fun t e => tset t e.k.toNat (some ⟨e.on, s.now, e.left.toNat, w0 ++ w1⟩) none) [],
    seq := o.seq, valid := if qualValid m.qual.toNat then some m.value else o.valid }
  let s := setPnt s p { pt with core := c }
  let s := if c.first && !o.first then refreshRel s else s
  let s := bistPoint s pt.desc
  let lag := (time64 s).toNat - m.commit.toNat
  let s := { s with rope := { s.rope with
    lags := s.rope.lags.filter (fun e => decide (s.now - e.1 ≤ 1000000000)) ++ [(s.now, min (lag / 1000) 65535)] } }
  match m.item with
  | some (cause, src, stamp) =>
    distribute (setPnt s p { pnt s p with itCause := cause.toNat, itStamp := stamp }) pt.desc
      (chgItem p pt.desc o c cause.toNat src.toNat stamp m.commit)
  | none => s

/-- One mirror record at the standby (R449). The bridge of a call follows from its stage (R257). -/
def applyRec (s : State) (r : MirRec) : State :=
  match r with
  | .point m => applyPoint s m
  | .dout n c => { s with fio := { s.fio with mirDo := tset s.fio.mirDo n.toNat c .off } }
  | .aout n c => { s with fio := { s.fio with mirAo := tset s.fio.mirAo n.toNat (c.map BitVec.toNat) none } }
  | .call k st stage targets emrg left =>
    let k := k.val
    setCall s k { call s k with
      st := st
      stage := stage
      target := targets
      emrg := emrg
      bridge := decide (st = 1#2) && decide (fld (clsCfg s (callClass s k)) 3 2 + 1 ≤ stage.toNat)
      endAt := s.now + left.toNat * 1000000 }
  | .deadMan st left =>
    let ns := left.toNat * 1000000
    let per := (ns + 999999999) / 1000000000
    { s with echo := { s.echo with dm := { s.echo.dm with st := st, per := per, at0 := s.now - (per * 1000000000 - ns), owedPrew := false, owedExp := false } } }
  | .loop n mode trips out i sp =>
    setSlot s n.toNat { slot s n.toNat with
      mirror := if mode = 0#3 then none else some ⟨mode, trips, sInt32 out, sInt32 i, sInt32 sp⟩ }

/-- ROPE_MIRROR_RX (R444, R449, R455): in order, and behind a full copy. -/
def execRopeMirrorRx (crcOk : Bool) (mseq : Word) (recs : List MirRec) (s : State) : Host.Outcome State Fault Refusal :=
  done (if !ropeOn s then s
    else if !crcOk then badFrame s
    else if !(standby s && cfgMatch s && decide (mseq = s.rope.ack + 1#32) && (s.rope.snapOn || decide (s.rope.role = 3#3))) then s
    else
      let s := recs.foldl applyRec { s with rope := { s.rope with ack := mseq, copied := true } }
      tryStandby s)

/-- ROPE_SNAP_RX (R444, R455): the first frame of a full copy starts the mirror anew and asks for ring resynchronisation; a standby
that receives one is no longer SYNCED. -/
def execRopeSnapRx (crcOk : Bool) (mseq : Word) (recs : List MirRec) (s : State) : Host.Outcome State Fault Refusal :=
  done (if !ropeOn s then s
    else if !crcOk then badFrame s
    else if !(standby s && cfgMatch s) then s
    else if decide (s.rope.role = 2#3) && s.rope.snapOn && !s.rope.copied then
      (if mseq = s.rope.ack + 1#32 then recs.foldl applyRec { s with rope := { s.rope with ack := mseq } } else s)
    else
      let s := setRole s 2#3
      let s := { s with
        fio := { s.fio with mirDo := [], mirAo := [] }
        rope := { s.rope with ack := mseq, snapOn := true, copied := false } }
      recs.foldl applyRec (masterResync s))

/-- ROPE_SHADOW_SEND (R451): the next enabled channel in ascending order, wrapping around. -/
def execRopeShadowSend (s : State) : Host.Outcome State Fault Refusal :=
  done (if !(ropeOn s && decide (s.rope.role = 5#3)) then s
    else
      let en := (List.range 270).filter (fun c => bit (chReg s 0x180 c) 0)
      match (en.filter (fun c => decide (s.rope.shadowCh ≤ c)) ++ en).head? with
      | none => s
      | some c =>
        let s := { s with rope := { s.rope with shadowCh := c + 1 } }
        match (chan s c).shadow with
        | some m => { s with out := s.out ++ [.shadow m] }
        | none => s)

/-- ROPE_SHADOW_RX (R451): stages 2 to 4 again. Where they take a value of another sample (SWAP_AVG, RATIO_CH, COMP_CH), which the
frame does not carry, whether they agree is left open (log entry 1). -/
def execRopeShadowRx (crcOk : Bool) (msg : ShadowMsg) (s : State) : Host.Outcome State Fault Refusal :=
  done (if !ropeOn s then s
    else if !crcOk then badFrame s
    else if !(standby s && cfgMatch s && works s lROPE) then s
    else
      let c := msg.x.ch
      let link := chReg s 0x18C c
      let linked := decide (fld link 24 16 ≠ 511) || decide (fld link 8 0 ≠ 511) || bit (chReg s 0x180 c) 5
      let x := stage2 s c msg.raw msg.trim
      let (y, linr) := linearise s c x f32Zero
      let differs := decide (y ≠ msg.value) || decide (stage4Qual s c msg.x x y linr ≠ msg.qual.toNat)
      let (w, s') := draw s
      let (differs, s) := if linked then (bit w 0, s') else (differs, s)
      let s := { s with rope := { s.rope with shadowCnt := satW s.rope.shadowCnt 1 } }
      if differs then
        raise (countUp { s with rope := { s.rope with shadowMis := satW s.rope.shadowMis 1, misAt := some s.now } } lROPE 0x114 0 32) lROPE 4
      else s)

/-- The health report (R454). -/
def healthReport (s : State) : List Byte :=
  let r := s.rope
  let flags := b2n (healthOk s) + 2 * b2n (ropeSynced s) + 4 * b2n (cfgMatch s) + 8 * b2n (fenceOk s) + 16 * b2n (chmbOk s) +
    32 * b2n (shadowOk s) + 64 * b2n r.flowOk + 128 * b2n (dramOk s) + 256 * b2n r.linkUp
  let body := leBytes 1 1 ++ leBytes 1 r.role.toNat ++ leBytes 2 flags ++ leBytes 4 r.reports.toNat ++ leBytes 8 (time64 s).toNat ++
    mgetBytes s.mem (configBase + 32) 8 ++ leBytes 4 r.hbMiss.toNat ++ leBytes 4 r.shadowCnt.toNat ++ leBytes 4 r.shadowMis.toNat ++
    [r.chmbFail, 0#8, 0#8, 0#8] ++ leBytes 4 r.dramPass.toNat ++ leBytes 4 r.dramCe.toNat ++ leBytes 4 r.dramUe.toNat ++
    leBytes 4 r.flowTests.toNat ++ leBytes 4 r.linkErr.toNat
  body ++ leBytes 4 (crc32c body)

/-- ROPE_HEALTH_SEND (R453, R454). -/
def execRopeHealthSend (s : State) : Host.Outcome State Fault Refusal :=
  done (if !ropeOn s then s
    else
      let s := { s with rope := { s.rope with reports := s.rope.reports + 1#32 } }
      let b := healthReport s
      { s with
        rope := { s.rope with own := b }
        out := s.out ++ [.rope 4 b] })

/-- ROPE_HEALTH_RX (R454). -/
def execRopeHealthRx (crcOk : Bool) (bytes : List Byte) (s : State) : Host.Outcome State Fault Refusal :=
  done (if !ropeOn s then s
    else if !crcOk then badFrame s
    else if bytes.length ≠ 64 ∨ bytes.headD 0#8 ≠ 1#8 ∨ leNat (bytes.drop 60) ≠ crc32c (bytes.take 60) then s
    else tryStandby (raise { s with rope := { s.rope with peer := bytes } } lROPE 5))

/-- ROPE_SELFTEST_CYCLE (R453): a step of the standby's self-tests; they stop while the page is frozen (R456). -/
def execRopeSelftestCycle (step : SelfTest) (s : State) : Host.Outcome State Fault Refusal :=
  done (if !(ropeOn s && works s lROPE && standby s) then s
    else
      let r := s.rope
      match step with
      | .chamber n pass => { s with rope := { r with
          chmbRan := cput r.chmbRan n.toNat true, chmbFail := cput r.chmbFail n.toNat (!pass) } }
      | .flow pass => { s with rope := { r with flowOk := pass, flowTests := if pass then satW r.flowTests 1 else r.flowTests } }
      | .dram ce ue => { s with rope := { r with
          dramPass := satW r.dramPass 1, dramCe := satW r.dramCe ce.toNat, dramUe := satW r.dramUe ue.toNat } })

/-- A command of ROPE_CMD: its result in CMD_RES (R457); a frozen page takes none (R456). -/
def ropeCmd (s : State) (ok : Bool) (k : State → State) : State :=
  if !(works s lROPE) then s
  else if ok then k { s with rope := { s.rope with refused := false } }
  else { s with rope := { s.rope with refused := true } }

/-- HANDOVER: DUTY only, with the partner in STANDBY and PEER_HEALTH_OK (R457). -/
def handoverCmd (s : State) : State :=
  ropeCmd s (ropeOn s && decide (s.rope.role = 5#3) && decide (s.rope.peerRole = 3#3) && peerHealthOk s)
    (fun s => { s with rope := { s.rope with handover := true } })
/-- FENCE: CTX_0 only (R447, R457). -/
def fenceCmd (s : State) (ctx : Ctx) : State :=
  if ctx ≠ 0#3 then capture s lROPE ctx true 0x1 0x108
  else ropeCmd s true (fun s => if ropeOn s then pulseFence s 50000 else s)
/-- RESYNC: STANDBY only (R446, R457). -/
def resyncCmd (s : State) : State :=
  ropeCmd s (ropeOn s && decide (s.rope.role = 3#3))
    (fun s => setRole { s with rope := { s.rope with snapOn := false, copied := false } } 2#3)

/-- A write of ROPE_CMD (R457). A captured access changes nothing (R74). -/
def ropeCmdWrite (s : State) (ctx : Ctx) (v : Word) : State :=
  if bit v 1 && decide (ctx ≠ 0#3) then fenceCmd s ctx
  else
    let s := if bit v 0 then handoverCmd s else s
    let s := if bit v 1 then fenceCmd s ctx else s
    if bit v 2 then resyncCmd s else s

/-- ROPE_HANDOVER, ROPE_FENCE_CMD and ROPE_RESYNC: writes of ROPE_CMD (R447, R457). -/
def execRopeHandover (ctx : Ctx) (s : State) : Host.Outcome State Fault Refusal :=
  done (ownerWrite s ctx lROPE 0x108 handoverCmd)
def execRopeFenceCmd (ctx : Ctx) (s : State) : Host.Outcome State Fault Refusal :=
  done (ownerWrite s ctx lROPE 0x108 (fun s => fenceCmd s ctx))
def execRopeResync (ctx : Ctx) (s : State) : Host.Outcome State Fault Refusal :=
  done (ownerWrite s ctx lROPE 0x108 resyncCmd)

/-- ROPE_STAT, MIRROR_LAG, OWN_HEALTH and PEER_HEALTH as they read (R450, R454, R457). -/
def ropeStat (s : State) : Word :=
  let r := s.rope
  BitVec.ofNat 32 (r.role.toNat + 16 * r.peerRole.toNat + 0x10000 * b2n r.refused) |||
  bitw r.linkUp 8 ||| bitw (ropeSynced s) 9 ||| bitw (cfgMatch s) 10 ||| bitw (fenceOk s) 11 ||| bitw (healthOk s) 12 |||
  bitw (peerHealthOk s) 13 ||| bitw r.linkFault 14 ||| bitw r.cold 15
def mirrorLag (s : State) : Nat :=
  (s.rope.lags.filter (fun e => decide (s.now - e.1 ≤ 1000000000))).foldl (fun m e => max m e.2) 0
def healthWord (l : List Byte) (i : Nat) : Word := BitVec.ofNat 32 (leNat ((l.drop (4 * i)).take 4))

end Sys2Proof.Machine
end

