-- ==== Sys2Proof/Machine/PageChecks.lean ====
section
/-! DEFINITION. The checks of a set, page by page: field ranges, pairs, what may change only while a block is disabled or frozen,
and the block-specific REASON codes (R80, R83, R143, R182, R187, R242, R268, R299, R325, R350, R370, R388, R398 to R402, R439, R457,
R469, R498). `s` is the state before, `t` the state with the set's fields in effect. -/
namespace Sys2Proof.Machine

/-- One check: the staged item of a window that it is about, the fields it takes in (register key and bit mask), its REASON, and
whether it fails. A check of one field is no pair check (R83). -/
structure Chk where
  item : Option Nat := none
  fields : List (Nat × Nat)
  reason : Nat
  bad : Bool
deriving DecidableEq, Repr

/-- Is it a pair check? -/
def Chk.pair (c : Chk) : Bool := decide (1 < c.fields.length)

/-- The offset reported: the lowest of its fields (R498). -/
def Chk.off (c : Chk) : Nat := c.fields.foldl (fun m f => min m (keyOff f.1)) 0xFFF

/-- The order of R498: the lowest staged item, then the lowest offset, then the lowest REASON. -/
def Chk.rank (c : Chk) : Nat := (c.item.getD 0x1000000 * 0x1000 + c.off) * 0x100 + c.reason

/-- The failure reported of a set. -/
def firstFail (l : List Chk) : Option Chk :=
  (l.filter (fun c => c.bad)).foldl (fun b c => match b with | some x => if c.rank < x.rank then some c else b | none => some c) none

/-- The mask of bits hi to lo. -/
def fmask (hi lo : Nat) : Nat := (2 ^ (hi + 1 - lo) - 1) * 2 ^ lo

/-- A check of one field, of a pair of fields, of a range, and of a field that keeps its value while `cond` holds. -/
def one (u o hi lo reason : Nat) (bad : Bool) : Chk := { fields := [(rk u o, fmask hi lo)], reason := reason, bad := bad }
def two (u o1 m1 o2 m2 reason : Nat) (bad : Bool) : Chk := { fields := [(rk u o1, m1), (rk u o2, m2)], reason := reason, bad := bad }
def rng (t : State) (u o hi lo a b : Nat) : Chk := one u o hi lo 1 (decide (cfg t u o hi lo < a) || decide (b < cfg t u o hi lo))
def fixed (s t : State) (u o hi lo reason : Nat) (cond : Bool) : Chk :=
  one u o hi lo reason (cond && decide (cfg s u o hi lo ≠ cfg t u o hi lo))

/-- The state with the staged fields of a unit in effect (R80 step 1). -/
def withStaged (s : State) (u : Nat) : State :=
  (stagedOf s u).foldl (fun t e => rset t e.1 (maskMerge (rwsOfKey e.1) (rget t e.1) e.2)) s

/-- The windowed items that a unit's staged fields belong to, at the register offsets `offs`. -/
def stagedItems (s : State) (u : Nat) (offs : List Nat) : List Nat :=
  ((stagedOf s u).filterMap (fun e => if keyItem e.1 ≠ 0 ∧ offs.contains (keyOff e.1) then some (keyItem e.1 - 1) else none)).eraseDups

/-- PWR (R44, R50, R56). -/
def chkPwr (t : State) : List Chk := [rng t lPWR 0x108 5 0 0 50, rng t lPWR 0x124 9 0 1 1000, rng t lPWR 0x130 13 0 1200 10000]

/-- GROT: the wake period and the calendar alarm (R96, R103, R104). -/
def chkGrot (t : State) : List Chk :=
  let en (i : Nat) := cfgBit t lGROT 0x130 i
  let d := cfg t lGROT 0x128 28 24
  let m := cfg t lGROT 0x128 19 16
  let r (i o hi lo a b : Nat) : Chk := two lGROT o (fmask hi lo) 0x130 (2 ^ i) 1 (en i && (decide (cfg t lGROT o hi lo < a) || decide (b < cfg t lGROT o hi lo)))
  [rng t lGROT 0x120 25 0 0 67107840, r 0 0x12C 5 0 0 59, r 1 0x12C 13 8 0 59, r 2 0x12C 20 16 0 23, r 3 0x12C 26 24 0 6,
   r 4 0x128 28 24 1 31, r 5 0x128 19 16 1 12,
   { fields := [(rk lGROT 0x128, 0x1F0F0000), (rk lGROT 0x130, 0x30)], reason := 0x41,
     bad := en 4 && en 5 && (decide (m = 2 ∧ 29 < d) || ((m = 4 || m = 6 || m = 9 || m = 11) && decide (30 < d))) }]

/-- PTP (R90 to R94). -/
def chkPtp (s t : State) : List Chk := [
  rng t lPTP 0x114 1 0 0 2, fixed s t lPTP 0x114 1 0 3 (hdr s lPTP).en, rng t lPTP 0x114 19 16 0 2,
  rng t lPTP 0x118 11 0 1 4095, rng t lPTP 0x118 15 12 1 15,
  two lPTP 0x118 0xFFF 0x118 0xFFFF0000 2 (decide (cfg t lPTP 0x118 31 16 ≤ cfg t lPTP 0x118 11 0)),
  rng t lPTP 0x11C 23 16 1 255, rng t lPTP 0x130 15 8 1 200]

/-- A Chamber entry (R126, R127, R132, R143). -/
def chkEntry (t : State) (n e : Nat) : List Chk :=
  let u := lCHMB n
  let o := 0x200 + 16 * e
  let sel := entSel t n e
  let exc := entExc t n e
  let tim := entTim t n e
  let mode := fld sel 2 1
  let inp := fld sel 6 4
  let inm := fld sel 11 8
  let a := fld exc 3 0
  let b := fld exc 19 16
  let ia := fld exc 13 4
  let ib := fld exc 29 20
  let rp := fld tim 19 16
  let cur := bit sel 14
  let st (k : Nat) := cfgBit t u (0x108 + 4 * k) 0
  let sp (k : Nat) := cfg t u (0x108 + 4 * k) 6 4
  let k := cfg t u (0x180 + 16 * fld sel 18 16)
  let ok := bit sel 0
  let settle := fld tim 15 0
  [one u o 2 1 1 (decide (mode = 3)), one u o 11 8 0x40 (decide (8 < inm)), one u (o + 4) 3 0 1 (decide (7 < a)), one u (o + 4) 19 16 1 (decide (7 < b)),
   one u (o + 4) 13 4 0x46 (decide (1000 < ia)), one u (o + 4) 29 20 0x46 (decide (1000 < ib)), one u (o + 8) 19 16 1 (decide (8 < rp)),
   two u o 0x71 o 0xF00 0x40 (ok && decide (inp = inm)),
   two u 0x108 1 (o + 4) 0x3FF0 0x41 (ok && decide (ia ≠ 0) && st 0), two u 0x10C 1 (o + 4) 0x3FF00000 0x41 (ok && decide (ib ≠ 0) && st 1),
   two u 0x108 0x71 (o + 8) 0xF0000 0x41 (ok && st 0 && decide (rp = sp 0)), two u 0x10C 0x71 (o + 8) 0xF0000 0x41 (ok && st 1 && decide (rp = sp 1)),
   two u o 0xF71 (o + 8) 0xF0000 0x41 (ok && decide (rp < 8) && (decide (rp = inp) || decide (rp = inm))),
   { fields := [(rk u o, 1), (rk u (o + 4), 0x3FFF3FFF), (rk u (o + 8), 0xF0000)], reason := 0x41,
     bad := ok && ((decide (ia ≠ 0) && decide (rp = a)) || (decide (ib ≠ 0) && decide (rp = b))) },
   two u o 7 (o + 8) 0xFFFF 0x42 (ok && (decide (mode = 1 ∧ 400 < settle) || decide (mode = 2 ∧ 300 < settle))),
   two u o 0x4001 o 0x301000 0x43 (ok && cur && (fld sel 21 20 = 1 || fld sel 21 20 = 2 || bit sel 12)),
   two u o 7 o 0x20004000 0x44 (ok && bit sel 29 && (cur || decide (mode ≠ 0))),
   two u o 0x7374001 (0x180 + 16 * fld sel 18 16) 0x77 2
     (ok && (decide (fld sel 21 20 ≠ k 1 0) || decide (b2n cur ≠ k 2 2) || (cur && decide (fld sel 26 24 ≠ k 6 4))))]

/-- A Chamber page (R118, R126, R132, R135, R143). -/
def chkChmb (t : State) (n : Nat) : List Chk :=
  let u := lCHMB n
  let en (e : Nat) := bit (entSel t n e) 0
  let more (p : Nat → Bool) (m : Nat) : List Chk :=
    let l := (List.range 32).filter (fun e => en e && p e)
    [{ fields := l.map (fun e => (rk u (0x200 + 16 * e), m)) ++ [(rk u 0xFFC, 0)], reason := 0x45, bad := decide (1 < l.length) }]
  [rng t u 0x100 27 20 1 255, rng t u 0x110 7 4 0 8, rng t u 0x110 26 16 1 1024, rng t u 0x114 12 0 1 4096, rng t u 0x114 23 16 2 255,
   two u 0x110 0x7FF0000 0x114 0x1FFF 2 (decide (4096 < cfg t u 0x110 26 16 * cfg t u 0x114 12 0))] ++
  (List.range 2).flatMap (fun k => [one u (0x108 + 4 * k) 25 16 0x46 (decide (1000 < cfg t u (0x108 + 4 * k) 25 16)),
    two u (0x108 + 4 * k) 1 (0x108 + 4 * k) 0x3FF0000 0x46 (cfgBit t u (0x108 + 4 * k) 0 && decide (cfg t u (0x108 + 4 * k) 25 16 = 0))]) ++
  (List.range 8).map (fun k => rng t u (0x180 + 16 * k) 6 4 0 5) ++
  (List.range 32).flatMap (chkEntry t n) ++ more (fun e => decide (fld (entSel t n e) 2 1 = 2)) 7 ++ more (fun e => bit (entSel t n e) 12) 0x1001

/-- pi and the sine of an angle up to pi/2, scaled by 2^64. -/
def piScaled : Nat := 57952155664616982739
def sinScaled (x : Nat) : Int :=
  let term (a : Int × Int) (k : Nat) : Int × Int :=
    let p := -(a.1 * (x : Int) / 18446744073709551616 * (x : Int) / 18446744073709551616 / ((2 * k * (2 * k + 1) : Nat) : Int))
    (p, a.2 + p)
  ((List.range 11).foldl (fun a k => term a (k + 1)) ((x : Int), (x : Int))).2

/-- The gap rule of R147: BO_TIME ≥ arcsin(BO_THR) / pi / (0.9 f) + 200 us, told by the sine of the angle that BO_TIME allows. -/
def boOk (us thr f : Nat) : Bool :=
  if us < 200 then false
  else
    let x := piScaled * 9 * f * (us - 200) / 10000000
    decide (piScaled ≤ 2 * x) || decide ((thr * 18446744073709551616 : Nat) ≤ 100 * sinScaled x)

/-- SSNS (R144, R147, R150). -/
def chkSsns (t : State) : List Chk :=
  let v := cfg t lSSNS 0x100 31 16
  let d := cfg t lSSNS 0x104 15 0
  [rng t lSSNS 0x100 31 16 1000 6000, rng t lSSNS 0x104 15 0 100 65535, rng t lSSNS 0x108 7 0 50 99, rng t lSSNS 0x108 15 8 101 150,
   rng t lSSNS 0x108 23 16 10 80, rng t lSSNS 0x10C 13 0 1000 10000, rng t lSSNS 0x10C 31 16 10 10000,
   two lSSNS 0x100 0xFFFF0000 0x104 0xFFFF 2 (decide (16 * d * d < 2 * v * v)),
   { fields := [(rk lSSNS 0x100, 1), (rk lSSNS 0x108, 0xFF0000), (rk lSSNS 0x10C, 0x3FFF)], reason := 2,
     bad := !boOk (cfg t lSSNS 0x10C 13 0) (cfg t lSSNS 0x108 23 16) (if cfgBit t lSSNS 0x100 0 then 60 else 50) }]

/-- One channel of INTG (R171, R174, R180, R182). -/
def chkChannel (t : State) (c : Nat) : List Chk :=
  let w (o : Nat) := chReg t o c
  let on1 (o m reason : Nat) (bad : Bool) : Chk := { item := some c, fields := [(wk lINTG o c, m)], reason := reason, bad := bad }
  let on2 (o1 m1 o2 m2 reason : Nat) (bad : Bool) : Chk :=
    { item := some c, fields := [(wk lINTG o1 c, m1), (wk lINTG o2 c, m2)], reason := reason, bad := bad }
  let cf := w 0x180
  let k := fld cf 11 8
  let link (v : Nat) : Bool := decide (269 < v ∧ v ≠ 511) || decide (v = c)
  let nf (o : Nat) : Chk := on1 o 0xFFFFFFFF 0x42 (!f32Finite (w o))
  let sg (g i : Nat) : F32 := segW t c g i
  let en := (List.range 4).filter (fun g => segEn t c g)
  let key (g i : Nat) : Nat × Nat := (wk lINTG 0x10C (256 * c + 36 * g + i), 0xFFFFFFFF)
  [on2 0x180 0xC0 0x180 0xF00 1 (decide (fld cf 7 6 = 1 ∧ k = 0) || (decide (fld cf 7 6 = 2) && (decide (k = 0) || decide (8 < k)))),
   on1 0x1A0 0x1F 1 (decide (30 < fld (w 0x1A0) 4 0)), on1 0x1A0 0xFF00 1 (decide (fld (w 0x1A0) 15 8 = 0)),
   on1 0x194 0xFFFFFFFF 1 (f32Finite (w 0x194) && f32Lt (w 0x194) f32Zero),
   on2 0x180 0x10 0x190 0x1FF 2 (bit cf 4 && decide (fld (w 0x190) 8 0 = 511)),
   on2 0x198 0xFFFFFFFF 0x19C 0xFFFFFFFF 2 (f32Lt (w 0x19C) (w 0x198)),
   on1 0x18C 0x1FF 0x40 (link (fld (w 0x18C) 8 0)), on1 0x18C 0x1FF0000 0x40 (link (fld (w 0x18C) 24 16)),
   on1 0x190 0x1FF 0x40 (link (fld (w 0x190) 8 0)), nf 0x184, nf 0x188, nf 0x194, nf 0x198, nf 0x19C,
   on1 0x180 0x3E 0x43 (decide (256 ≤ c) && decide (fld cf 5 1 ≠ 0)),
   { item := some c, fields := (List.range 4).flatMap (fun g => [key g 0, key g 1, key g 2, key g 3]), reason := 0x41,
     bad := en.any (fun g => !f32Lt (sg g 0) (sg g 1) || !f32Finite (sg g 2)) || decide (en ≠ List.range en.length) ||
       en.any (fun g => segEn t c (g + 1) && decide (g < 3) && !f32Le (sg g 1) (sg (g + 1) 0)) }] ++
  en.flatMap (fun g => (List.range 4).flatMap (fun j => (List.range 8).filterMap (fun i =>
    if j ≤ fld (sg g 3) 5 4 ∧ i ≤ fld (sg g 3) 2 0 then
      some { item := some c, fields := [key g (4 + 8 * j + i), key g 3], reason := 0x42, bad := !f32Finite (sg g (4 + 8 * j + i)) }
    else none)))

/-- INTG (R158, R180, R182). -/
def chkIntg (s t : State) : List Chk :=
  let chans := stagedItems s lINTG [0x180, 0x184, 0x188, 0x18C, 0x190, 0x194, 0x198, 0x19C, 0x1A0]
  let lins := (stagedItems s lINTG [0x10C]).map (fun i => i / 256)
  rng t lINTG 0x100 6 0 1 64 :: (chans ++ lins).eraseDups.flatMap (chkChannel t)

/-- GAL (R187, R207, R213). -/
def chkGal (t : State) : List Chk :=
  let valid := (List.range 16).filter (fun k => cfgBit t lGAL (0x140 + 4 * k) 15)
  [rng t lGAL 0x100 15 0 1 65535, one lGAL 0x104 25 16 0x4B (decide (cfg t lGAL 0x104 25 16 ≠ 0))] ++
  valid.flatMap (fun k =>
    let d := (List.range 16).map (fun i => reg t lGAL (0x400 + 64 * k + 4 * i))
    let at0 (f : Nat × Nat) : Nat × Nat := (rk lGAL (0x400 + 64 * k + f.1), 0xFFFFFFFF)
    (descFails1 d).map (fun f => { fields := [at0 f], reason := f.2, bad := true }) ++
    (descFails2 (cfg t lGAL (0x140 + 4 * k) 10 0) d).map (fun f =>
      { fields := [at0 f, (rk lGAL (0x43C + 64 * k), 0)], reason := f.2, bad := true })) ++
  valid.flatMap (fun a => (valid.filter (fun b => decide (a < b))).map (fun b =>
    two lGAL (0x140 + 4 * a) 0x87FF (0x140 + 4 * b) 0x87FF 0x4C (decide (cfg t lGAL (0x140 + 4 * a) 10 0 = cfg t lGAL (0x140 + 4 * b) 10 0))))

/-- The DO that an enabled group's GDOUT names (R225). -/
def groupDo (t : State) (g : Nat) : Option Nat := if gEn t g && bit (gOut t g) 31 then some (fld (gOut t g) 23 16) else none

/-- GRP (R214, R224, R225, R230, R242). -/
def chkGrp (s t : State) : List Chk :=
  let en := (hdr s lGRP).en
  let ip := cfg t lGRP 0x110 31 0
  let item (g : Nat) : List Chk :=
    let c := gCfg t g
    let o := gOut t g
    let d := (groupDo t g)
    [{ item := some g, fields := [(wk lGRP 0x164 g, 0xFFFFFFFF)], reason := 0x40,
       bad := (decide (15 < gCall t g) && decide (gCall t g ≠ 0xFF)) || decide (fld c 7 3 ≠ 0) || decide (fld c 31 24 ≠ 0) },
     { item := some g, fields := [(wk lGRP 0x168 g, 0xFFFF)], reason := 0x40, bad := decide (1023 < fld o 15 0) && decide (fld o 15 0 ≠ 0xFFFF) },
     { item := some g, fields := [(wk lGRP 0x168 g, 0xFFFF0000)], reason := 0x41,
       bad := bit o 31 && (decide (31 < fld o 23 16) || decide (fld o 25 24 = 3)) },
     { item := some g, fields := [(wk lGRP 0x164 g, 1), (wk lGRP 0x168 g, 0xFFFF0000)], reason := 0x42,
       bad := d.isSome && (outGroups t).any (fun h => decide (h ≠ g) && decide (groupDo t h = d)) }]
  [rng t lGRP 0x100 9 0 1 1000, fixed s t lGRP 0x104 11 0 3 en, rng t lGRP 0x108 15 0 200 65535, rng t lGRP 0x108 31 16 100 65535,
   fixed s t lGRP 0x10C 15 0 3 en, fixed s t lGRP 0x110 31 0 3 en,
   one lGRP 0x110 31 0 0x44 (decide (ip < 0xE0000000) || decide (0xEFFFFFFE < ip) || decide (ip % 256 = 255)),
   rng t lGRP 0x114 24 0 0 16777216, fixed s t lGRP 0x114 24 0 4 (!(hdr s lGRP).frozen),
   one lGRP 0x114 24 0 0x43 (decide (graphSize s < 4 * cfg t lGRP 0x114 24 0)),
   rng t lGRP 0x118 16 0 0 65536, fixed s t lGRP 0x118 16 0 4 (!(hdr s lGRP).frozen)] ++
  (stagedItems s lGRP [0x164, 0x168]).flatMap item

/-- ECHO (R243, R244, R252, R254, R257, R268). -/
def chkEcho (s t : State) : List Chk :=
  let arm := cfg t lECHO 0x10C 6 0
  let rst := cfg t lECHO 0x10C 14 8
  let stg := cfg t lECHO 0x10C 22 20
  [one lECHO 0x100 21 16 0x40 (decide (32 < cfg t lECHO 0x100 21 16)), one lECHO 0x108 15 0 0x41 (decide (cfg t lECHO 0x108 15 0 < 60)),
   one lECHO 0x108 31 16 0x41 (decide (cfg t lECHO 0x108 31 16 < 10)),
   two lECHO 0x108 0xFFFF 0x108 0xFFFF0000 2 (decide (cfg t lECHO 0x108 15 0 ≤ cfg t lECHO 0x108 31 16)),
   one lECHO 0x10C 6 0 0x42 (decide (64 < arm)), one lECHO 0x10C 14 8 0x42 (decide (64 < rst)),
   one lECHO 0x10C 22 20 0x42 (decide (stg = 0) || decide (4 < stg)),
   two lECHO 0x10C 0x7F 0x10C 0x7F00 0x42 (decide (arm = rst) && decide (arm < 64)),
   two lECHO 0x104 0x1F 0x104 0x8000 0x43 (cfgBit t lECHO 0x104 15 &&
     (outGroups s).any (fun g => decide (groupDo s g = some (cfg t lECHO 0x104 4 0))))] ++
  (stagedItems s lECHO [0x504]).flatMap (fun i => [
    { item := some i, fields := [(wk lECHO 0x504 i, 0x3F)], reason := 0x40, bad := decide (32 < wcfg t lECHO 0x504 i 5 0) },
    { item := some i, fields := [(wk lECHO 0x504 i, 0x3F00)], reason := 0x40, bad := decide (32 < wcfg t lECHO 0x504 i 13 8) }])

/-- A loop slot (R16, R274 to R276, R281, R283 to R287, R292, R299). -/
def chkSlot (s t : State) (n : Nat) : List Chk :=
  let u := uSLOT n
  let c := sreg t n 0x10
  let fbK := sFbKind t n
  let spK := sSpKind t n
  let outK := fld c 9 8
  let fbI := cfg t u 0x14 8 0
  let spI := cfg t u 0x14 19 12
  let outI := cfg t u 0x14 31 24
  let fp := cfg t u 0x18 12 0
  let op := cfg t u 0x18 28 16
  let gap := if fbK = 0 then 540 + (if bit c 1 then 0 else 400 * cfg s lINTG 0x100 6 0) else 252
  let phases : Nat × Nat := (rk u 0x18, 0x1FFF1FFF)
  let lo := sval t n 0x38
  let hi := sval t n 0x3C
  let size := cfg t u 0x4C 6 0
  let pts := (List.range (min size 64)).map (gtPoint t n)
  let prof (o : Nat) : Chk := one u o 31 0 1 (bit (sreg t n o) 31)
  [rng t u 0x18 12 0 0 7999, rng t u 0x18 28 16 0 7999, two u 0x18 0x1FFF 0x18 0x1FFF0000 0x40 (decide (op ≤ fp)),
   { fields := [(rk u 0x10, 0x32), phases], reason := 0x40, bad := decide (op < fp + gap) },
   two u 0x10 0x30 0x14 0x1FF 0x41
     (match fbK with | 0 => decide (255 < fbI) | 1 => decide (7 < fbI) | 2 => decide (255 < fbI) | _ => decide (63 < fbI) || decide (fbI = n)),
   one u 0x10 7 6 0x41 (decide (spK = 3)), two u 0x10 0xC0 0x14 0xFF000 0x41 (decide (spK = 2) && (decide (63 < spI) || decide (spI = n))),
   two u 0x10 0x300 0x14 0xFF000000 0x41 (decide (outK = 0 ∧ 15 < outI) || decide (outK = 1 ∧ 31 < outI)),
   one u 0x10 30 24 0x41 (decide (64 < fld c 30 24) || decide (fld c 30 24 = n)),
   two u 0x38 0xFFFFFFFF 0x3C 0xFFFFFFFF 0x42 (decide (hi < lo)),
   { fields := [(rk u 0x10, 0x300), (rk u 0x38, 0xFFFFFFFF), (rk u 0x3C, 0xFFFFFFFF)], reason := 0x42,
     bad := decide (outK ≤ 1) && (decide (lo < 0) || decide (65535 < lo) || decide (hi < 0) || decide (65535 < hi)) },
   two u 0x10 0x301 0x14 0xFF000000 0x43 (bit c 0 && decide (outK ≠ 3) && (List.range 64).any (fun m =>
     decide (m ≠ n) && sEn s m && decide (fld (sreg s m 0x10) 9 8 = outK) && decide (cfg s (uSLOT m) 0x14 31 24 = outI))),
   one u 0x10 13 12 0x44 (decide (fld c 13 12 = 3)), one u 0x1C 15 0 0x44 (decide (cfg t u 0x1C 15 0 = 0)),
   two u 0x1C 0xFFFF 0x1C 0xFFFF0000 0x44 (decide (cfg t u 0x1C 15 0 ≤ cfg t u 0x1C 31 16)),
   one u 0x4C 6 0 0x45 (decide (64 < size)),
   two u 0x10 0x80000 0x4C 0x7F 0x45 (pts.any (fun p => decide (0x7FFFFFFF < p.2)) ||
     (pts.zip pts.tail).any (fun p => decide (p.2.1 ≤ p.1.1))),
   two u 0x10 2 0x10 0x30 0x46 (bit c 1 && decide (fbK ≠ 0)), one u 0x10 11 10 0x47 (decide (fld c 11 10 = 3)),
   { fields := [(rk u 0x38, 0xFFFFFFFF), (rk u 0x3C, 0xFFFFFFFF), (rk u 0x90, 0xFFFFFFFF)], reason := 0x48,
     bad := decide (sval t n 0x90 < lo) || decide (hi < sval t n 0x90) },
   { fields := [(rk u 0x10, 8), (rk u 0x40, 0xFFFFFFFF), (rk u 0x44, 0xFFFFFFFF), (rk u 0x48, 0xFFFFFFFF)], reason := 0x48,
     bad := bit c 3 && (decide (sreg t n 0x40 = 0#32) || decide (sreg t n 0x44 = 0#32) || decide (sreg t n 0x48 = 0#32)) },
   prof 0x40, prof 0x44, prof 0x48, rng t u 0x98 7 0 1 255]

/-- FIO (R304, R309, R314, R323, R325). -/
def chkFio (s t : State) : List Chk :=
  [rng t lFIO 0x134 9 0 1 1000, rng t lFIO 0x134 17 16 0 2] ++
  (List.range 32).flatMap (fun n =>
    let o := 0x300 + 16 * n
    let c := doCfg t n
    let per := cfg t lFIO (o + 4) 23 0
    [one lFIO (o + 4) 23 0 0x40 (decide (per < 1000)), two lFIO o 0x10 (o + 4) 0xFFFFFF 0x40 (!bit c 4 && decide (per < 10000)),
     one lFIO o 2 0 0x41 (decide (6 ≤ doSel t n)), two lFIO o 7 o 8 0x42 (decide (doSel t n = 5) && !bit c 3),
     two lFIO (o + 4) 0xFFFFFF (o + 8) 0xFFFFFF 2 (decide (per < cfg t lFIO (o + 8) 23 0))]) ++
  (List.range 16).flatMap (fun n =>
    let o := 0x500 + 16 * n
    let c := aoCfg t n
    [one lFIO o 1 0 0x41 (decide (fld c 1 0 = 3)), two lFIO o 4 o 0x10 0x43 (bit c 2 && bit c 4),
     fixed s t lFIO o 2 2 0x44 (decide (fld (aoCfg s n) 1 0 ≠ 0))])

/-- LANT (R326, R348). -/
def chkLant (t : State) : List Chk := [
  rng t lLANT 0x100 7 0 100 240, rng t lLANT 0x104 12 0 250 4000, rng t lLANT 0x104 22 16 1 99,
  rng t lLANT 0x108 12 0 250 4000, rng t lLANT 0x108 22 16 1 99]

/-- Does a waveform table fail (R336): empty, a reserved level code or bit, or a row that is not DC-balanced? Its length in ms. -/
def wfBad (s : State) (w : Nat) : Bool :=
  let l := (List.range (wfCount s w)).map (wfWord s w)
  let lv (x : Word) (r : Nat) : Nat := fld x (9 + 2 * r) (8 + 2 * r)
  let sum (r : Nat) : Int := l.foldl (fun n x => n + (if lv x r = 1 then (fld x 5 0 : Int) else if lv x r = 2 then -(fld x 5 0 : Int) else 0)) 0
  l.isEmpty || l.any (fun x => decide (fld x 7 6 ≠ 0) || decide (fld x 31 16 ≠ 0) || (List.range 4).any (fun r => decide (lv x r = 3))) ||
  (List.range 4).any (fun r => decide (sum r ≠ 0))
def wfLength (s : State) (w : Nat) : Nat := (List.range (wfCount s w)).foldl (fun n p => n + wfDur s w p) 0

/-- BIST (R336, R338, R341, R349, R350). -/
def chkBist (t : State) : List Chk :=
  let en (r : Nat) := cfgBit t lBIST (0x200 + 32 * r) 0
  let first (r : Nat) := cfg t lBIST (0x200 + 32 * r) 14 8
  let cnt (r : Nat) := cfg t lBIST (0x200 + 32 * r) 21 16
  let wf (r : Nat) := cfg t lBIST (0x200 + 32 * r) 27 24
  [one lBIST 0x100 3 0 0x42 (wfBad t (cfg t lBIST 0x100 3 0)), one lBIST 0x100 7 4 0x42 (wfBad t (cfg t lBIST 0x100 7 4)),
   one lBIST 0x100 3 0 0x44 (decide (40 < wfLength t (cfg t lBIST 0x100 3 0)))] ++
  (List.range 32).flatMap (fun r =>
    let o := 0x200 + 32 * r
    let look (k : Nat) : Chk := two lBIST o 0x3F0001 (o + 4 + 4 * k) 0xFFFFFFFF 0x45
      (en r && decide (2 ^ cnt r ≤ (reg t lBIST (o + 4 + 4 * k)).toNat))
    [rng t lBIST o 21 16 0 32, rng t lBIST (o + 4) 19 16 2 16,
     two lBIST o 1 o 0x3F7F00 0x40 (en r && (decide (cnt r = 0) || decide (128 < first r + cnt r))),
     two lBIST o 1 o 0xF000000 0x42 (en r && wfBad t (wf r)),
     two lBIST o 0xF000001 (o + 4) 0xF0000 0x43 (en r && decide (100 * cfg t lBIST (o + 4) 19 16 < wfLength t (wf r))),
     look 1, look 2, look 3] ++
    (List.range 32).filterMap (fun q => if r < q then
      some (two lBIST o 0x3F7F01 (0x200 + 32 * q) 0x3F7F01 0x41
        (en r && en q && decide (first r < first q + cnt q) && decide (first q < first r + cnt r))) else none))

/-- FLOW (R352, R356, R367, R370). -/
def chkFlow (s t : State) : List Chk := [
  one lFLOW 0x100 7 0 0x40 (decide (cfg t lFLOW 0x100 7 0 < 8)),
  one lFLOW 0x100 31 16 0x41 (!cfgBit t lFLOW 0x100 16 || cfgBit t lFLOW 0x100 22 || cfgBit t lFLOW 0x100 23),
  fixed s t lFLOW 0x104 24 24 0x42 (!inService s)]

/-- Is a netmask contiguous: its complement one less than a power of two? -/
def maskOk (m : Nat) : Bool := (List.range 33).any (fun k => decide (0xFFFFFFFF - m + 1 = 2 ^ k))

/-- NET (R371 to R386, R394, R397, R398). -/
def chkNet (s t : State) : List Chk :=
  let en := (hdr s lNET).en
  let b (i : Nat) := cfgBit t lNET 0x100 i
  let ip := cfg t lNET 0x118 31 0
  [fixed s t lNET 0x100 2 0 3 en, rng t lNET 0x100 27 16 1 4094,
   one lNET 0x108 31 0 0x40 (!maskOk (reg t lNET 0x108).toNat),
   two lNET 0x100 0x10 0x104 0xFFFFFFFF 0x40 (b 4 && decide (reg t lNET 0x104 = 0#32)),
   two lNET 0x100 8 0x110 0xFFFFFFFF 0x40 (b 3 && decide (reg t lNET 0x110 = 0#32)),
   one lNET 0x118 31 0 0x41 (decide (ip < 0xE0000000) || decide (0xEFFFFFFE < ip)),
   two lNET 0x114 0xFFFF 0x114 0xFFFF0000 0x41 (decide (cfg t lNET 0x114 15 0 = cfg t lNET 0x114 31 16)),
   one lNET 0x100 5 4 0x43 ((b 4 || b 5) && s.otp.mgmtKey.isEmpty),
   rng t lNET 0x150 8 4 1 16, rng t lNET 0x150 23 16 1 255,
   two lNET 0x150 0xF 0x150 0x1F0 0x42 (decide (cfg t lNET 0x150 8 4 ≤ cfg t lNET 0x150 3 0)),
   rng t lNET 0x160 9 4 2 63, rng t lNET 0x164 1 0 0 2] ++
  (stagedItems s lNET [0x174, 0x178]).flatMap (fun v => [
    { item := some v, fields := [(wk lNET 0x174 v, 3)], reason := 1, bad := decide (wcfg t lNET 0x174 v 1 0 = 3) },
    { item := some v, fields := [(wk lNET 0x174 v, 0xFFFF0000)], reason := 1, bad := decide (wcfg t lNET 0x174 v 31 16 = 0) }])

/-- CAN_n (R388, R399, R400). -/
def chkCan (s t : State) (n : Nat) : List Chk :=
  let u := lCAN n
  let en := (hdr s u).en
  let f := cfg t u
  let nom := (f 0x104 8 0 + 1) * (1 + f 0x104 16 9 + f 0x104 23 17)
  let dat := (f 0x108 4 0 + 1) * (1 + f 0x108 9 5 + f 0x108 13 10)
  [rng t u 0x104 16 9 2 255, rng t u 0x104 23 17 1 127, rng t u 0x104 30 24 1 127, rng t u 0x108 9 5 1 31, rng t u 0x108 13 10 1 15,
   rng t u 0x108 17 14 1 15, fixed s t u 0x104 31 0 3 en, fixed s t u 0x108 31 0 3 en,
   two u 0x104 0x1FF 0x104 0xFFFE00 0x40 (decide (nom < 80)),
   { fields := [(rk u 0x100, 0x20), (rk u 0x108, 0x3FFF)], reason := 0x41, bad := decide (dat < 10) || (!cfgBit t u 0x100 5 && decide (dat < 40)) },
   two u 0x104 0xFE0000 0x104 0x7F000000 0x42 (decide (f 0x104 23 17 < f 0x104 30 24)),
   two u 0x108 0x3C00 0x108 0x3C000 0x42 (decide (f 0x108 13 10 < f 0x108 17 14))]

/-- SER_n (R391, R393, R401, R402). -/
def chkSer (s t : State) (n : Nat) : List Chk :=
  let u := lSER n
  let en := (hdr s u).en
  [rng t u 0x104 22 0 200 8388607, rng t u 0x108 15 8 1 255, fixed s t u 0x100 7 4 3 en, fixed s t u 0x104 22 0 3 en,
   two u 0x100 1 0x100 0x10 0x40 (cfgBit t u 0x100 0 && cfgBit t u 0x100 4), one u 0x100 6 5 0x41 (decide (cfg t u 0x100 6 5 = 3))]

/-- A host port (R406, R435). -/
def chkPort (t : State) (l : Nat) : List Chk :=
  if l ≤ 38 then [one l 0x110 31 0 1 (decide (reg t l 0x110 ≠ 0#32))] else []

/-- Is a BYPASS domain bound to a context other than CTX_0 and CTX_1 (R423)? -/
def bypassBound (t : State) (x : Nat) : Bool := decide (2 ≤ x) && decide (domMode t (cfg t lDMA (0x104 + 4 * x) 3 0) = 2)

/-- DMA common (R403, R404, R420, R423, R436, R439). -/
def chkDma (t : State) : List Chk :=
  rng t lDMA 0x100 7 0 8 255 :: (List.range 8).flatMap (fun x =>
    let o := 0x104 + 4 * x
    [rng t lDMA o 15 8 1 255, rng t lDMA o 17 16 0 2, one lDMA o 3 0 0x40 (bypassBound t x),
     one lDMA o 17 16 0x41 ((List.range 64).any (fun q => decide ((qOwner t q).toNat = x) && decide (qDepth t q ≠ 0) &&
       decide (cfg t (uQUEUE q) 0x10 21 20 < cfg t lDMA o 17 16)))])

/-- The values of TARGET (R414, R437). -/
def targetOk (v : Nat) : Bool := v ≤ 5 || (8 ≤ v && v ≤ 13) || v = 16 || v = 17 || v = 18 || v = 24

/-- A queue (R412, R414, R418, R420, R423, R437, R439). -/
def chkQueue (s t : State) (q : Nat) : List Chk :=
  let u := uQUEUE q
  let d := cfg t u 0x10 12 0
  let owner := qOwner s q
  let busy := decide (qDepth s q ≠ 0) && !(queue s q).stopped
  let base := cfg t u 0x18 31 0 + 0x100000000 * cfg t u 0x1C 31 0
  [one u 0x10 12 0 1 (decide (d ≠ 0) && !((List.range 9).any (fun k => decide (d = 2 ^ (4 + k))))),
   rng t u 0x10 18 16 0 5, rng t u 0x10 21 20 0 2, one u 0x10 28 24 1 (!targetOk (cfg t u 0x10 28 24)),
   fixed s t u 0x10 12 0 3 busy, fixed s t u 0x10 18 16 3 busy, fixed s t u 0x10 28 24 3 busy, fixed s t u 0x10 30 30 3 busy,
   fixed s t u 0x18 31 0 3 busy, fixed s t u 0x1C 31 0 3 busy,
   one u 0x10 21 20 0x41 (decide (cfg t u 0x10 21 20 < cfg t lDMA (0x104 + 4 * owner.toNat) 17 16)),
   two u 0x10 0x1FFF 0x10 0x70000 0x42 (decide (cfg t u 0x10 18 16 = 5) && decide (d ≠ 0) &&
     (match eventQueue s owner with | some n => decide (n ≠ q) | none => false)),
   one u 0x10 30 30 0x42 (cfgBit t u 0x10 30 && decide (owner ≠ 2#3) && decide (owner ≠ 3#3)),
   two u 0x10 0x1FFF 0x18 0xFFFFFFFF 0x42 (decide (d ≠ 0) && decide (base % (32 * d) ≠ 0)),
   one u 0x10 31 31 0x43 (cfgBit t u 0x10 31 && decide (domMode s 15 ≠ 3)),
   one u 0x10 31 0 0x44 (decide (owner = 6#3) || decide (owner = 7#3))]

/-- IOMMU (R423, R438, R439). -/
def chkIommu (s t : State) : List Chk :=
  (List.range 16).flatMap (fun k =>
    let root := cfg t lIOMMU (0x108 + 16 * k) 31 12
    [one lIOMMU (0x108 + 16 * k) 31 12 1 (decide (root ≠ cfg s lIOMMU (0x108 + 16 * k) 31 12) && !(inSram (root * 4096) || inDram (root * 4096))),
     one lIOMMU (0x100 + 16 * k) 1 0 0x40 (decide (domMode t k = 2) &&
       (List.range 8).any (fun x => decide (2 ≤ x) && decide (cfg t lDMA (0x104 + 4 * x) 3 0 = k))),
     one lIOMMU (0x100 + 16 * k) 1 0 0x43 (decide (k = 15) && decide (domMode t k ≠ 3) &&
       (List.range 64).any (fun q => decide (qDepth t q ≠ 0) && cfgBit t (uQUEUE q) 0x10 31))])

/-- ROPE (R441, R452, R457). -/
def chkRope (s t : State) : List Chk :=
  let en := (hdr s lROPE).en
  [rng t lROPE 0x100 12 8 2 20, fixed s t lROPE 0x100 0 0 3 en, fixed s t lROPE 0x100 1 1 3 en, fixed s t lROPE 0x100 31 16 3 en,
   two lROPE 0x100 1 0x100 0xFFFF0000 0x40 (cfgBit t lROPE 0x100 0 && decide (cfg t lROPE 0x100 31 16 = 0))]

/-- TEST (R461, R469). -/
def chkTest (t : State) : List Chk :=
  let on := cfgBit t lTEST 0x100 31
  let sel := entSel t (cfg t lTEST 0x100 2 0) (cfg t lTEST 0x100 12 8)
  let ref := !cfgBit t lTEST 0x100 16
  [two lTEST 0x100 0x80010000 0x100 0x1F07 0x40 (on && (!bit sel 0 || decide (fld sel 2 1 ≠ 0) || (ref && bit sel 14))),
   two lTEST 0x100 0x80000000 0x100 0x100000 0x41 (on && cfgBit t lTEST 0x100 20 && !inService t),
   two lTEST 0x100 0x10000 0x104 0xFFFFFF 0x42 (on && (if ref then decide (cfg t lTEST 0x104 15 0 = 0x8000) else decide (cfg t lTEST 0x104 23 16 = 0))),
   one lTEST 0x108 9 0 0x43 (decide (cfg t lTEST 0x108 9 0 = 0) || decide (600 < cfg t lTEST 0x108 9 0))]

/-- The checks of a unit's set. -/
def checks (s t : State) (u : Nat) : List Chk :=
  if u = lPWR then chkPwr t else if u = lGROT then chkGrot t else if u = lPTP then chkPtp s t
  else if decide (5 ≤ u) && decide (u ≤ 12) then chkChmb t (u - 5) else if u = lSSNS then chkSsns t else if u = lINTG then chkIntg s t
  else if u = lGAL then chkGal t else if u = lGRP then chkGrp s t else if u = lECHO then chkEcho s t else if u = lFIO then chkFio s t
  else if u = lLANT then chkLant t else if u = lBIST then chkBist t else if u = lFLOW then chkFlow s t else if u = lNET then chkNet s t
  else if decide (24 ≤ u) && decide (u ≤ 29) then chkCan s t (u - 24) else if decide (30 ≤ u) && decide (u ≤ 35) then chkSer s t (u - 30)
  else if decide (37 ≤ u) && decide (u ≤ 40) then chkPort t u else if u = lDMA then chkDma t else if u = lIOMMU then chkIommu s t
  else if u = lROPE then chkRope s t else if u = lTEST then chkTest t
  else if decide (64 ≤ u) && decide (u < 128) then chkSlot s t (u - 64) else if decide (128 ≤ u) && decide (u < 192) then chkQueue s t (u - 128)
  else []

end Sys2Proof.Machine
end

