-- ==== Sys2Proof/Machine/Apply.lean ====
section
/-! DEFINITION. Staging and APPLY, LIVE mode, ownership, block control, freeze, soft reset and IRQ_CLR (R68 to R75, R79 to R84, R497,
R498), and what each block does when a set takes effect or its control bits change. -/
namespace Sys2Proof.Machine

/-- The units with a header or a sub-header: the pages, the loop slots and the DMA queues. -/
def unitOk (u : Nat) : Bool := decide (u ≤ 44) || (decide (64 ≤ u) && decide (u < 192))

/-- The offsets of OWNER and APPLY in a unit (R64, R68). -/
def ownerOff (u : Nat) : Nat := if u < 64 then 0x28 else 0x00
def applyOff (u : Nat) : Nat := if u < 64 then 0x20 else 0x04

/-- A set of a TEST page takes effect (R461): EN = 1 sets an injection up, EN = 0 ends it; the entry it leaves is in HG again. -/
def testApplied (s old : State) : State :=
  let n := cfg old lTEST 0x100 2 0
  let e := cfg old lTEST 0x100 12 8
  let s := if s.test.injOn then setChm s n { chm s n with mergeLg := mput (chm s n).mergeLg e false } else s
  if cfgBit s lTEST 0x100 31 then
    { s with test := { s.test with inj := true, injOn := false, injEnd := 0#3, injCnt := 0, injAt := s.now } }
  else if s.test.inj then raise { s with test := { s.test with inj := false, injOn := false, injEnd := 2#3 } } lTEST 0
  else s

/-- What a set that has taken effect does in its block: `old` is the state before, `keys` the keys whose value changed. The wake counter
of the Grotto restarts where PERIOD changes; a set that holds the PERIOD in use brings no new one (DESIGN CHOICE, log entry 70). -/
def applied (s old : State) (u : Nat) (keys : List Nat) : State :=
  if u = lGROT then
    (if decide (cfg s lGROT 0x120 25 0 ≠ cfg old lGROT 0x120 25 0) then
       { s with grot := { s.grot with wakeAt := s.now, wakeFree := !s.clk.xt32 } } else s)
  else if u = lPTP then (if cfgBit s lPTP 0x114 3 && decide (s.ptp.lock ≠ 0#2) then ptpMove s 0#2 0 else s)
  else if u = lINTG then intgApplied s old keys
  else if u = lGAL then galApplied s
  else if u = lGRP then grpApplied s old keys
  else if u = lECHO then echoApplied s
  else if u = lFIO then fioApplied s old
  else if u = lBIST then bistRefreshAll s
  else if u = lNET then netApplied s keys
  else if decide (37 ≤ u) && decide (u ≤ 40) then portApplied s u
  else if u = lTEST then testApplied s old
  else if decide (128 ≤ u) && decide (u < 192) then queueApplied s old (u - 128)
  else s

/-- The pending set of a unit takes effect at its boundary (R80 step 4, R81). -/
def boundary (s : State) (u : Nat) : State :=
  if (hdr s u).pend.isNone then s
  else if decide (5 ≤ u) && decide (u ≤ 12) then chmBoundary s (u - 5)
  else if u = lSSNS then ssnsBoundary s
  else if decide (64 ≤ u) && decide (u < 128) then slotTake s (u - 64)
  else
    let r := takeEffect s u
    applied r.1 s u r.2

/-- The boundary of field I/O, channel by channel: a running PWM period keeps its settings to its end (R81). -/
def fioBoundary (s : State) : State :=
  let run := (List.range 32).filter (fun n => pwmRuns s n)
  fioApplied (takePart s lFIO (fun k => !run.any (fun n => doKey n k))).1 s

/-- Is a unit at its apply boundary now (R81, R82): a page of the first row of R81, a frozen or disabled block, a Chamber with no
entry due, a writer between two records, a display with no running update, a slot that does not run, a queue between descriptors? -/
def atBoundary (s : State) (u : Nat) : Bool :=
  let p := pageOf u
  decide (u ≤ 1) || u = 3 || u = 4 || (decide (36 ≤ u) && decide (u ≤ 42)) || u = lTEST || u = lFLOW ||
  (hdr s p).frozen || !alive s p ||
  (if decide (5 ≤ u) && decide (u ≤ 12) then
     let c := chm s (u - 5)
     c.cur.isNone && c.scan.isEmpty && c.fbList.isEmpty && c.angQ.isEmpty
   else if u = lBIST then calcIdle s
   else if decide (64 ≤ u) && decide (u < 128) then !sEn s (u - 64)
   else if decide (128 ≤ u) && decide (u < 192) then (queue s (u - 128)).run.isNone
   else false)

/-- A pending set takes effect where its unit is at its boundary already. -/
def settlePend (s : State) (u : Nat) : State := if atBoundary s u then boundary s u else s

/-- A set, or a LIVE write, is rejected with the failure of R498. -/
def rejectChk (s : State) (u : Nat) (c : Chk) : State :=
  raise (setHdr s u { hdr s u with reject := true, reason := BitVec.ofNat 8 c.reason, rejOff := BitVec.ofNat 12 c.off }) (pageOf u) 29

/-- A write of 0xA5 to APPLY (R80, R100): checked whole, then pending or rejected; no effect in LIVE mode (R83). -/
def applyCommit (s : State) (ctx : Ctx) (u : Nat) : State :=
  let h := hdr s u
  if liveOn s u then s
  else if u = lGROT && grotPending s then capture s lGROT ctx true 0x8 0x20
  else
    match firstFail (checks s (withStaged s u) u) with
    | some c => rejectChk s u c
    | none =>
      settlePend (setHdr s u { h with
        pend := some (stagedOf s u), livePend := false, reject := false, reason := 0#8, rejOff := 0#12 }) u

/-- A write of APPLY by its KEY (R68, R80, R83). -/
def applyWrite (s : State) (ctx : Ctx) (u key : Nat) : State :=
  if liveOn s u then s
  else if key = 0xA5 then applyCommit s ctx u
  else if key = 0x5A then discardStaged s u
  else capture s (pageOf u) ctx true 0x4 (rk u (applyOff u) % 0x1000)

/-- A write of APPLY arrives on a context's path (R71). -/
def applyRow (s : State) (ctx : Ctx) (unit : BitVec 8) (key : Nat) : Host.Outcome State Fault Refusal :=
  if unitOk unit.toNat then done (ownerWrite s ctx unit.toNat (applyOff unit.toNat) (fun s => applyWrite s ctx unit.toNat key))
  else .fault .illFormed

/-- APPLY_COMMIT (R80). -/
def execApplyCommit (ctx : Ctx) (unit : BitVec 8) (s : State) : Host.Outcome State Fault Refusal := applyRow s ctx unit 0xA5

/-- APPLY_DISCARD (R80). -/
def execApplyDiscard (ctx : Ctx) (unit : BitVec 8) (s : State) : Host.Outcome State Fault Refusal := applyRow s ctx unit 0x5A

/-- APPLY_BAD_KEY (R68): the KEY is neither 0xA5 nor 0x5A. -/
def execApplyBadKey (ctx : Ctx) (unit key : BitVec 8) (s : State) : Host.Outcome State Fault Refusal :=
  if key = 0xA5#8 ∨ key = 0x5A#8 then .fault .illFormed else applyRow s ctx unit key.toNat

/-- APPLY_BOUNDARY (R80 step 4, R81, R82): a pending set of a powered unit takes effect. -/
def execApplyBoundary (unit : BitVec 8) (s : State) : Host.Outcome State Fault Refusal :=
  let u := unit.toNat
  if unitOk u then
    done (if !(present s u && unitOn s u) then s
      else if u = lFIO && !atBoundary s u then fioBoundary s else boundary s u)
  else .fault .illFormed

/-- The bits of a register that some checks take in. -/
def chkMask (l : List Chk) (k : Nat) : Word :=
  BitVec.ofNat 32 (l.foldl (fun m c => c.fields.foldl (fun m f => if f.1 = k then m ||| f.2 else m) m) 0)

/-- What is in use, or will be at the boundary, of a register: the pending value, else the value in use. -/
def nextUse (s : State) (u k : Nat) : Word :=
  match ((hdr s u).pend.getD []).find? (fun e => decide (e.1 = k)) with
  | some e => e.2
  | none => rget s k &&& rwsOfKey k

/-- The values a LIVE page uses from its next boundary (R83): the written ones, but for the fields of pairs that fail, which keep the
last values that passed together; `n` bounds the rounds, after which every field keeps its value. -/
def liveUse (s : State) (u : Nat) : Nat → List (Nat × Word) → List (Nat × Word)
  | 0, l => l.map (fun e => (e.1, nextUse s u e.1))
  | n + 1, l =>
    let t := l.foldl (fun t e => rset t e.1 (maskMerge (rwsOfKey e.1) (rget t e.1) e.2)) s
    let bad := (checks s t u).filter (fun c => c.pair && c.bad)
    if bad.isEmpty then l
    else liveUse s u n (l.map (fun e => (e.1, maskMerge (chkMask bad e.1) e.2 (nextUse s u e.1))))

/-- A write of RWS bits on a LIVE page (R83): what fails a check of its own is not kept; what fails a pair is not used. -/
def liveWrite (s : State) (u k : Nat) (v : Word) : State :=
  let old := stagedAt s k
  let t := stage s k v
  let single := (checks t (withStaged t u) u).filter (fun c => !c.pair && c.bad && c.fields.any (fun f => decide (f.1 = k)))
  let t := stage s k (maskMerge (chkMask single k) v old)
  let t := match firstFail single with
    | some c => rejectChk t u c
    | none => setHdr t u { hdr t u with reject := false, reason := 0#8, rejOff := 0#12 }
  let l := stagedOf t u
  let skew := (checks t (withStaged t u) u).any (fun c => c.pair && c.bad)
  let keys := (l ++ ((hdr t u).pend.getD []).filter (fun e => !l.any (fun x => decide (x.1 = e.1)))).map (fun e => (e.1, stagedAt t e.1))
  let use := (liveUse t u 16 keys).filter (fun e => decide (e.2 ≠ rget t e.1 &&& rwsOfKey e.1))
  settlePend (setHdr t u { hdr t u with
    skew := skew, pend := if use.isEmpty then none else some use, livePend := !use.isEmpty }) u

/-- Does a set of the unit wait, as APPLY_STAT.PENDING shows it (R68, R99)? -/
def pendingSet (s : State) (u : Nat) : Bool :=
  ((hdr s u).pend.isSome && !(hdr s u).livePend) || (u = lGROT && s.grot.commit.isSome)

/-- May LIVE be set (R84): STAGED and PENDING are 0 on the page and on each of its sub-blocks, which its LIVE mode covers (DEDUCED, log
entry 78)? -/
def liveMay (s : State) (u : Nat) : Bool := (unitsOf u).all (fun x => (stagedOf s x).isEmpty && !pendingSet s x)

/-- LIVE is set (R84). -/
def liveSet (s : State) (ctx : Ctx) (u : Nat) : State :=
  if (hdr s u).live then s
  else if liveMay s u then setHdr s u { hdr s u with live := true }
  else capture s u ctx true 0x5 0x8

/-- CFG_SKEW of a page and of its sub-blocks clears. -/
def skewClear (s : State) (u : Nat) : State :=
  (unitsOf u).foldl (fun t x => if (hdr t x).skew then setHdr t x { hdr t x with skew := false } else t) s

/-- LIVE is cleared (R84): what is not in use stays staged. -/
def liveClear (s : State) (u : Nat) : State := skewClear (setHdr s u { hdr s u with live := false }) u

/-- SSNS starts: its results read 0 until the first window completes (R150). -/
def ssnsStart (s : State) : State :=
  { s with ssns := {}, act := tdrop s.act (fun k => decide (keyUnit k = lSSNS) && decide (0x120 ≤ keyOff k)) }

/-- Flowstone starts: recovery runs before anything is written (R360). -/
def flowStart (s : State) : State :=
  { s with flow := { s.flow with needRecovery := true, recovered := false, badSince := false, peak := 0 } }

/-- A block starts as BLK_CTRL.EN is set: what its chapter says of enabling. -/
def startBlock (s : State) (u : Nat) : State :=
  if decide (5 ≤ u) && decide (u ≤ 12) then chmEnable s (u - 5)
  else if u = lSSNS then ssnsStart s
  else if u = lGAL then galEnable s
  else if u = lGRP then grpEnable s (s.net.linkA || s.net.linkB)
  else if u = lECHO then echoStart (callsAnew s)
  else if u = lLOOP then loopEnable s
  else if u = lLANT then lantEnable s
  else if u = lBIST then bistRefreshAll s
  else if u = lFLOW then flowStart s
  else if u = lNET then netEnable s
  else if decide (24 ≤ u) && decide (u ≤ 29) then setCan s (u - 24) {}
  else if u = lROPE then ropeEnable s
  else s

/-- A block stops as BLK_CTRL.EN is cleared. PTP: no message is sent or taken any more (R89), so the node is no grandmaster and uses no
remote master's messages: GM and MSEL clear (DEDUCED, log entry 69). -/
def stopBlock (s : State) (u : Nat) : State :=
  if decide (5 ≤ u) && decide (u ≤ 12) then setChm (chmHalt s (u - 5)) (u - 5) { chm (chmHalt s (u - 5)) (u - 5) with calBusy := false }
  else if u = lPTP then
    let s := { s with ptp := { s.ptp with gm := false, msel := false } }
    if s.ptp.lock ≠ 0#2 then ptpMove s 0#2 0 else s
  else if u = lLOOP then loopStop s
  else if u = lNET then netDown s
  else if decide (37 ≤ u) && decide (u ≤ 40) then linkLoss s (u - 37)
  else s

/-- Does the block need the pinned regions locked before it is enabled (R19, R431)? -/
def needsPins (u : Nat) : Bool := u = lGAL || u = lGRP || u = lLOOP || u = lFLOW

/-- BLK_CTRL.EN is written (R68): ignored on SYS, PWR, GROT and CLK. -/
def enWrite (s : State) (ctx : Ctx) (u : Nat) (en : Bool) : State :=
  if u ≤ 3 || (hdr s u).en = en then s
  else if en && needsPins u && !s.pinLocked then capture s u ctx true 0x8 0x8
  else
    let t := setHdr s u { hdr s u with en := en }
    let t := if en then startBlock t u else stopBlock t u
    settlePend (if u = lFIO then fioApplied t s else t) u

/-- May only CTX_0 set FREEZE on the page (R70)? -/
def freezeGuarded (u : Nat) : Bool := (decide (5 ≤ u) && decide (u ≤ 19)) || u = lFLOW

/-- FREEZE clears (R70). What a block does first stands in its chapter; a Chamber, the Gallery, the grouping engine, Echo and Calcite put
work off from the request on and do it at every clearing (R139, R185, R230, R265, R347), the others stop and resume with FROZEN alone. -/
def unfreeze (s : State) (u : Nat) : State :=
  let was := (hdr s u).frozen
  let s := setHdr s u { hdr s u with freeze := false, frozen := false }
  let s :=
    if decide (5 ≤ u) && decide (u ≤ 12) then
      let n := u - 5
      if !alive s u || (chm s n).calBusy then s
      else if !(chm s n).calibrated && !chmFault (chm s n) then startSelfCal s n else chmKick s n
    else if u = lGAL then galUnfreeze s
    else if u = lGRP then
      let t := rebuildStart s
      if t.net.linkA || t.net.linkB then grpJoined t else t
    else if u = lECHO then echoUnfreeze s
    else if u = lBIST then bistRefreshAll s
    else if !was then s
    else if u = lSSNS then ssnsUnfreeze s
    else if u = lLOOP then (if alive s lLOOP then loopUnfreeze s else s)
    else if u = lFIO then fioUnfreeze s
    else s
  if was then testUnfrozen s u else s

/-- FREEZE is set or cleared by a write (R70). -/
def freezeWrite (s : State) (ctx : Ctx) (u : Nat) (on : Bool) : State :=
  if on then
    if freezeGuarded u && decide (ctx ≠ 0#3) then capture s u ctx true 0x5 0x8
    else setHdr s u { hdr s u with freeze := true }
  else if (hdr s u).freeze then unfreeze s u else s

/-- Has the block finished its unit of work in progress (R70, R139, R161, R211, R295)? -/
def workDone (s : State) (u : Nat) : Bool :=
  if decide (5 ≤ u) && decide (u ≤ 12) then (chm s (u - 5)).cur.isNone && (chm s (u - 5)).conv.isNone
  else if u = lINTG then s.intg.chan.all (fun e => e.2.inflight.isEmpty)
  else if u = lGAL then s.gal.pts.all (fun e => e.2.eval.isNone && e.2.wait.isNone)
  else if u = lBIST then calcIdle s
  else if u = lLOOP then !works s lLOOP || s.loop.slots.all (fun e => !(slotWaits s e.1) && !e.2.due)
  else true

/-- The block stops with its state kept, and its pending set takes effect at once (R70, R82). -/
def freezeNow (s : State) (u : Nat) : State :=
  let s :=
    if decide (5 ≤ u) && decide (u ≤ 12) then chmHalt s (u - 5)
    else if u = lECHO then echoFreeze s
    else if u = lLOOP then loopFreeze s
    else if u = lFIO then fioFreeze s
    else s
  let s := setHdr s u { hdr s u with frozen := true }
  boundary (if u = lGROT then calCommit s else s) u

/-- A soft reset keeps OWNER, GEN, EN, FREEZE, IRQ_MASK, ERR_INFO with its interrupt, and SEL (R69). -/
def resetHdr (h : Hdr) : Hdr :=
  { h with live := false, pend := none, livePend := false, skew := false, reject := false, reason := 0#8, rejOff := 0#12,
           latched := h.latched &&& 0x80000000#32, tRun := false, tDone := false, tPass := false, tKind := 0#8, busy := true }

/-- The registers that a soft reset of a page keeps: the group configurations and three more of GRP (R497), the retained fields of the
Grotto (R95), the pinned declaration, which stands until the next module reset (R431; DEDUCED, log entry 30); a reset of DMA common takes the queue blocks along (R434). -/
def keptKey (u k : Nat) : Bool :=
  if u = lGRP then
    decide (0x100000000 ≤ k) || keyOff k = 0x104 || keyOff k = 0x10C || keyOff k = 0x110
  else if u = lGROT then grotRetained k
  else if u = lDMA then decide (keyUnit k = lDMA) && decide (0x180 ≤ keyOff k) && decide (keyOff k ≤ 0x190)
  else false
def resetKey (u k : Nat) : Bool :=
  let x := keyUnit k
  (x = u && !keptKey u k) || (u = lDMA && decide (128 ≤ x) && decide (x < 192))

/-- A soft reset of the PWR page (R69): the page's own state goes back, SYSOK stops and the cluster leaves its hold. The supplies, the power
states and their domains, the release of the outputs, degraded mode and the lifecycle are the module's and stay (log entry 72). -/
def pwrSoftReset (s : State) : State :=
  let s := { sysokStop s with pwr := { (sysokStop s).pwr with
    refused := false, lastWake := 0#4, lcReject := false, bootPending := false, wdtExpectA5 := false, appVerify := false } }
  if cfgBit s lPWR 0x120 0 then appStart (setReg s lPWR 0x120 0#32) else s

/-- The block's own state returns to its reset state (R69; the chapters' exceptions: R89, R211, R295, R434, R497). -/
def resetBlock (s : State) (u : Nat) : State :=
  if u = lPWR then pwrSoftReset s
  else if u = lGROT then { s with grot := { s.grot with commit := none } }
  else if u = lPTP then { s with ptp := { time := s.ptp.time, frac := s.ptp.frac, sub := s.ptp.sub, rate := s.ptp.rate, ppsIn := s.ptp.ppsIn } }
  else if decide (5 ≤ u) && decide (u ≤ 12) then
    let n := u - 5
    let c := chm s n
    let s := if s.test.inj && decide (cfg s lTEST 0x100 2 0 = n) then injectEnd s 4#3 else s
    setChm s n { chvp := c.chvp, chvl := c.chvl, coupler := c.coupler }
  else if u = lSSNS then { s with ssns := {} }
  else if u = lINTG then { s with intg := { inq := s.intg.inq } }
  else if u = lGAL then galSoftReset s
  else if u = lGRP then grpSoftReset s
  else if u = lECHO then echoSoftReset s
  else if u = lLOOP then loopSoftReset s
  else if u = lFIO then fioSoftReset s
  else if u = lLANT then lantSoftReset s
  else if u = lBIST then bistSoftReset s
  else if u = lFLOW then flowSoftReset s
  else if u = lNET then netSoftReset s
  else if decide (24 ≤ u) && decide (u ≤ 29) then setCan s (u - 24) {}
  else if decide (30 ≤ u) && decide (u ≤ 35) then
    { s with net := { s.net with serFault := s.net.serFault &&& ~~~BitVec.ofNat 6 (2 ^ (u - 30)) } }
  else if u = lQSPI 0 then { s with dma := { s.dma with qspi0 := {} } }
  else if u = lQSPI 1 then { s with dma := { s.dma with qspi1 := {} } }
  else if u = lDMA then dmaSoftReset s
  else if u = lIOMMU then { s with dma := { s.dma with tlb := [], inv := [], inFault := {} } }
  else if u = lROPE then ropeSoftReset s
  else if u = lTEST then { injectEnd s 4#3 with test := { attached := s.test.attached, appHalt := s.test.appHalt } }
  else s

/-- SRST is written (R69); the lock state of PTP moves to FREERUN by it (R91). -/
def softReset (s : State) (ctx : Ctx) (u : Nat) : State :=
  if !(hdr s u).frozen then capture s u ctx true 0x5 0x8
  else
    let t := resetBlock (testEnd s u false false) u
    let sub (e : Nat × Hdr) : Nat × Hdr := if u = lDMA ∧ 128 ≤ e.1 then (e.1, { owner := e.2.owner, readMask := e.2.readMask, lock := e.2.lock, gen := e.2.gen }) else e
    let t := { t with
      act := tdrop t.act (resetKey u), stg := tdrop t.stg (fun k => keyUnit k = u || resetKey u k), hdr := t.hdr.map sub }
    let t := setHdr (skewClear t u) u (resetHdr (hdr s u))
    if u = lPTP then { ptpMove { t with ptp := { t.ptp with lock := s.ptp.lock } } 0#2 0 with ptp := t.ptp } else t

/-- The code with which a write of BLK_CTRL is captured, where one of its bits is refused (R68 to R70, R84, R432). -/
def ctrlRefused (s : State) (ctx : Ctx) (u : Nat) (v : Word) : Option Nat :=
  let h := hdr s u
  if bit v 3 && !h.live && !liveMay s u then some 0x5
  else if bit v 0 && !h.en && decide (3 < u) && needsPins u && !s.pinLocked then some 0x8
  else if bit v 2 && freezeGuarded u && decide (ctx ≠ 0#3) then some 0x5
  else if bit v 1 && !h.frozen then some 0x5
  else none

/-- A write of BLK_CTRL (R68): LIVE, EN, SRST and FREEZE, in this order; one of which a bit is refused changes nothing (R74). -/
def ctrlWrite (s : State) (ctx : Ctx) (u : Nat) (v : Word) : State :=
  match ctrlRefused s ctx u v with
  | some code => capture s u ctx true code 0x8
  | none =>
    let s := if bit v 3 then liveSet s ctx u else if (hdr s u).live then liveClear s u else s
    let s := enWrite s ctx u (bit v 0)
    let s := if bit v 1 then softReset s ctx u else s
    freezeWrite s ctx u (bit v 2)

/-- One bit of BLK_CTRL is written, the others as they stand. -/
def ctrlRow (s : State) (ctx : Ctx) (unit : BitVec 6) (k : State → State) : Host.Outcome State Fault Refusal :=
  if unit.toNat ≤ 44 then done (ownerWrite s ctx unit.toNat 0x8 k) else .fault .illFormed

/-- LIVE_SET and LIVE_CLEAR (R84). -/
def execLiveSet (ctx : Ctx) (unit : BitVec 6) (s : State) : Host.Outcome State Fault Refusal :=
  ctrlRow s ctx unit (fun s => liveSet s ctx unit.toNat)
def execLiveClear (ctx : Ctx) (unit : BitVec 6) (s : State) : Host.Outcome State Fault Refusal :=
  ctrlRow s ctx unit (fun s => if (hdr s unit.toNat).live then liveClear s unit.toNat else s)

/-- BLK_ENABLE and BLK_DISABLE (R68, R431). -/
def execBlkEnable (ctx : Ctx) (unit : BitVec 6) (s : State) : Host.Outcome State Fault Refusal :=
  ctrlRow s ctx unit (fun s => enWrite s ctx unit.toNat true)
def execBlkDisable (ctx : Ctx) (unit : BitVec 6) (s : State) : Host.Outcome State Fault Refusal :=
  ctrlRow s ctx unit (fun s => enWrite s ctx unit.toNat false)

/-- SOFT_RESET (R69). -/
def execSoftReset (ctx : Ctx) (unit : BitVec 6) (s : State) : Host.Outcome State Fault Refusal :=
  ctrlRow s ctx unit (fun s => softReset s ctx unit.toNat)

/-- SOFT_RESET_DONE (R69, R263): BUSY falls; Echo then rebuilds its counts. -/
def execSoftResetDone (unit : BitVec 6) (s : State) : Host.Outcome State Fault Refusal :=
  let u := unit.toNat
  if u ≤ 44 then
    done (if (hdr s u).busy then
      let s := setHdr s u { hdr s u with busy := false }
      if u = lECHO && alive s lECHO then echoStart s else s
    else s)
  else .fault .illFormed

/-- FREEZE_REQUEST, FREEZE_REACHED and FREEZE_CLEAR (R70). -/
def execFreezeRequest (ctx : Ctx) (unit : BitVec 6) (s : State) : Host.Outcome State Fault Refusal :=
  ctrlRow s ctx unit (fun s => freezeWrite s ctx unit.toNat true)
def execFreezeReached (unit : BitVec 6) (s : State) : Host.Outcome State Fault Refusal :=
  let u := unit.toNat
  if u ≤ 44 then
    done (if (hdr s u).freeze && !(hdr s u).frozen && present s u && unitOn s u && workDone s u then freezeNow s u else s)
  else .fault .illFormed
def execFreezeClear (ctx : Ctx) (unit : BitVec 6) (s : State) : Host.Outcome State Fault Refusal :=
  ctrlRow s ctx unit (fun s => freezeWrite s ctx unit.toNat false)

/-- A write of OWNER (R72, R73): by the owner or CTX_0, unless LOCK is 1. -/
def ownerReg (s : State) (ctx : Ctx) (u : Nat) (v : Word) : State :=
  access s ctx u (ownerOff u) true (fun s =>
    let h := hdr s u
    if h.lock || (decide (ctx ≠ h.owner) && decide (ctx ≠ 0#3)) then capture s (pageOf u) ctx true 0x1 (rk u (ownerOff u) % 0x1000)
    else
      let c := BitVec.ofNat 3 (fld v 2 0)
      let h := { h with owner := c, readMask := BitVec.ofNat 8 (fld v 15 8), lock := bit v 31 }
      if c = (hdr s u).owner then setHdr s u h
      else liveClear (setHdr (discardStaged s u) u { h with reject := false }) u)

/-- OWNER_WRITE and OWNER_LOCK (R72, R73). -/
def execOwnerWrite (ctx : Ctx) (unit : BitVec 8) (value : Word) (s : State) : Host.Outcome State Fault Refusal :=
  if unitOk unit.toNat then done (ownerReg s ctx unit.toNat value) else .fault .illFormed
def execOwnerLock (ctx : Ctx) (unit : BitVec 8) (value : Word) (s : State) : Host.Outcome State Fault Refusal :=
  if unitOk unit.toNat then done (ownerReg s ctx unit.toNat (value ||| 0x80000000#32)) else .fault .illFormed

/-- A write of IRQ_CLR (R74, R75, R438): latched bits clear; ERR takes VALID and OVERFLOW along, IN_FAULT its VALID. -/
def irqClr (s : State) (u : Nat) (v : Word) : State :=
  let h := hdr s u
  let s := setHdr s u { h with
    latched := h.latched &&& ~~~v
    err := if bit v 31 then { h.err with valid := false, overflow := false } else h.err }
  if u = lIOMMU && bit v 0 then { s with dma := { s.dma with inFault := { s.dma.inFault with valid := false } } } else s

/-- IRQ_CLR_WRITE (R75). -/
def execIrqClrWrite (ctx : Ctx) (unit : BitVec 6) (value : Word) (s : State) : Host.Outcome State Fault Refusal :=
  if unit.toNat ≤ 44 then done (ownerWrite s ctx unit.toNat 0x1C (fun s => irqClr s unit.toNat value)) else .fault .illFormed

end Sys2Proof.Machine
end

