-- ==== Sys2Proof/Machine/Views.lean ====
section
/-! DEFINITION. What each register reads as: the common header and sub-header (R64, R68), and for every page the registers whose
value is formed from the block's state (the page maps of the chapters). Every other register reads the value in use that `act`
holds, and an RWS field its staged value. -/
namespace Sys2Proof.Machine

/-- Either half of a 64-bit register, by its offset. -/
def half64 (hi : Bool) (v : Nat) : Word := BitVec.ofNat 32 (if hi then v / 0x100000000 else v)

/-- APPLY_STAT (R68). -/
def applyStat (s : State) (u : Nat) : Word :=
  let h := hdr s u
  bitw (pendingSet s u) 0 ||| bitw h.skew 1 ||| bitw h.reject 2 ||| bitw (!(stagedOf s u).isEmpty) 3 |||
  BitVec.ofNat 32 (256 * h.reason.toNat + 0x10000 * h.rejOff.toNat)

/-- OWNER (R68). -/
def ownerWord (s : State) (u : Nat) : Word :=
  let h := hdr s u
  BitVec.ofNat 32 (h.owner.toNat + 256 * h.readMask.toNat) ||| bitw h.lock 31

/-- BLK_STAT (R68): BUSY shows a soft reset, a set on its way to its boundary, or a self-calibration. -/
def blkStat (s : State) (u : Nat) : Word :=
  let h := hdr s u
  let cal := decide (5 ≤ u) && decide (u ≤ 12) && (chm s (u - 5)).calBusy
  bitw (h.busy || pendingSet s u || cal) 0 ||| bitw s.pwr.degraded 1 ||| bitw (decide (faultSum s u ≠ 0#8)) 2 ||| bitw h.frozen 3 |||
  BitVec.ofNat 32 (256 * (faultSum s u).toNat)

/-- The common header (R68). -/
def hdrWord (s : State) (u o : Nat) : Word :=
  let h := hdr s u
  match o with
  | 0x00 => BitVec.ofNat 32 (pageType u + 0x10000 * pageInstance u)
  | 0x04 => BitVec.ofNat 32 (Config.blkVer (pageType u)).toNat
  | 0x08 => bitw h.en 0 ||| bitw h.busy 1 ||| bitw h.freeze 2 ||| bitw h.live 3
  | 0x0C => blkStat s u
  | 0x10 => irqRaw s u
  | 0x14 => h.mask
  | 0x18 => irqPend s u
  | 0x20 => BitVec.ofNat 32 h.gen.toNat
  | 0x24 => applyStat s u
  | 0x28 => ownerWord s u
  | 0x2C => errWord h.err
  | 0x30 => bitw h.tRun 0 ||| bitw h.tDone 1 ||| bitw h.tPass 2 ||| BitVec.ofNat 32 (256 * h.tSel.toNat)
  | _ => 0#32

/-- The sub-header of a loop slot or DMA queue (R64). -/
def subWord (s : State) (u o : Nat) : Word :=
  match o with
  | 0x00 => ownerWord s u
  | 0x04 => BitVec.ofNat 32 (hdr s u).gen.toNat
  | 0x08 => applyStat s u
  | _ => 0#32

/-- PWR (R40 to R62). -/
def pstateWord (s : State) : Word :=
  let c : Nat := match s.pwr.pstate with | .run => 0 | .doze => 1 | .sleep => 2
  BitVec.ofNat 32 (c + 16 * s.pwr.lastWake.toNat) ||| bitw s.pwr.goal.isSome 2 ||| bitw s.pwr.refused 3
def outStat (s : State) : Word :=
  bitw s.pwr.released 0 ||| bitw s.pwr.byDeadline 1 ||| BitVec.ofNat 32 (0x10000 * min (firstPend s) 4095)
def degrStat (s : State) : Word :=
  bitw s.pwr.degraded 0 ||| BitVec.ofNat 32 (256 * s.pwr.degrCause.toNat + 0x10000 * s.pwr.degrCount.toNat)
def lcStat (s : State) : Word :=
  BitVec.ofNat 32 (s.pwr.lcState.toNat + 0x10000 * s.otp.rollback.toNat) ||| bitw s.pwr.slot 4 ||| bitw s.pwr.trial 5 |||
  bitw s.pwr.trialFail 6 ||| bitw s.pwr.lcReject 7
def viewPwr (s : State) (o : Nat) : Option Word :=
  if 0x150 ≤ o ∧ o < 0x160 then some (BitVec.ofNat 32 (s.pwr.nonce.toNat / 2 ^ (8 * (o - 0x150))))
  else if 0x160 ≤ o ∧ o < 0x170 then some (BitVec.ofNat 32 (s.otp.devId.toNat / 2 ^ (8 * (o - 0x160))))
  else match o with
  | 0x100 => some (supplyStat s)
  | 0x104 => some s.pwr.meas
  | 0x110 => some (pstateWord s)
  | 0x114 => some (BitVec.ofNat 32 s.pwr.doms.toNat)
  | 0x118 => some (BitVec.ofNat 32 s.pwr.rstCause.toNat)
  | 0x134 => some (outStat s)
  | 0x13C => some (degrStat s)
  | 0x140 => some (lcStat s)
  | 0x144 => some (bitw s.pwr.bootPending 0 ||| bitw (cfgBit s lPWR 0x144 2) 2)
  | _ => none

/-- GROT (R95 to R108): ticks of 1/1,024 s to the next wake, the level of PWRON, the journal's checks. -/
def wakeRemain (s : State) : Nat :=
  let per := cfg s lGROT 0x120 25 0
  per - min per ((s.now - s.grot.wakeAt) * 1024 / 1000000000)
def viewGrot (s : State) (o : Nat) : Option Word :=
  match o with
  | 0x100 => some (BitVec.ofNat 32 (if s.grot.preFree then 0 else prescaler s))
  | 0x124 => some (BitVec.ofNat 32 (wakeRemain s))
  | 0x134 => some (bitw s.grot.pwron 0)
  | 0x13C => some (BitVec.ofNat 32 (jget s (4 * cfg s lGROT 0x138 11 2) 4))
  | 0x140 => some (bitw s.grot.sysOk 0 ||| bitw s.grot.calcOk 1 ||| bitw s.grot.wipeBusy 2)
  | _ => none

/-- PTP (R88 to R94). -/
def viewPtp (s : State) (o : Nat) : Option Word :=
  match o with
  | 0x100 => some (half64 false s.ptp.time.toNat)
  | 0x104 => some s.ptp.hiLatch
  | 0x110 => some (BitVec.ofInt 32 s.ptp.rate)
  | 0x120 => some (BitVec.ofNat 32 s.ptp.lock.toNat ||| bitw s.ptp.gm 2 ||| bitw (refPps s) 3 ||| bitw s.ptp.msel 4)
  | _ => none

/-- CHMB_n (R142). -/
def viewChmb (s : State) (n o : Nat) : Option Word :=
  let c := chm s n
  if 0x20C ≤ o ∧ (o - 0x20C) % 16 = 0 then
    let e := (o - 0x20C) / 16
    some (BitVec.ofNat 32 (b2n (mbit c.mergeLg e) + tget c.entFlags e 0 + 256 * tget c.convCnt e 0))
  else match o with
  | 0x118 => some (bitw c.calBusy 0 ||| bitw c.calDone 1 ||| bitw (decide (c.calFail ≠ 0#8)) 2 ||| BitVec.ofNat 32 (256 * c.calFail.toNat))
  | 0x134 => some (BitVec.ofNat 32 (b2n c.angLocked + 2 * c.angDecim + 0x10000 * c.angIdx))
  | 0x138 => some (if c.angLocked then BitVec.ofNat 32 c.angDelta else 0#32)
  | 0x13C => some (BitVec.ofNat 32 c.passUs)
  | _ => none

/-- SSNS (R150). -/
def viewSsns (s : State) (o : Nat) : Option Word :=
  if o = 0x150 then
    some (bitw s.ssns.blackout 0 ||| bitw s.ssns.freqValid 1 ||| BitVec.ofNat 32 (4 * s.ssns.sag.toNat + 32 * s.ssns.swell.toNat) |||
      bitw s.ssns.rotErr 8)
  else none

/-- INTG (R180). -/
def viewIntg (s : State) (o : Nat) : Option Word :=
  if 0x400 ≤ o then some (chan s ((o - 0x400) / 4)).pv.value
  else
    let c := chan s (cfg s lINTG 0x104 8 0)
    match o with
    | 0x114 => some (lsbTrim s (cfg s lINTG 0x110 6 4) (cfg s lINTG 0x110 3 0))
    | 0x118 => some (maskMerge 0xC0000000#32 (reg s lINTG 0x118) (bitw s.intg.noiseDone 30 ||| bitw s.intg.noise.isSome 31))
    | 0x1A4 => some (BitVec.ofNat 32 (c.qual.toNat + 16 * b2n c.strike + 32 * b2n c.ocOpen + 64 * b2n c.tmoStrike + 0x10000 * c.seq.toNat))
    | 0x1A8 => some (c.lastValid.getD f32Zero)
    | _ => none

/-- GAL (R213). -/
def viewGal (s : State) (o : Nat) : Option Word :=
  if 0x140 ≤ o ∧ o < 0x180 then
    let k := (o - 0x140) / 4
    some (maskMerge 0xFF020000#32 (reg s lGAL o) (bitw (dryOf s k).err 17 ||| BitVec.ofNat 32 (0x1000000 * (dryOf s k).reason.toNat)))
  else if 0x180 ≤ o ∧ o < 0x200 then
    let y := dryOf s ((o - 0x180) / 8)
    some (if o % 8 = 0 then BitVec.ofNat 32 y.a.toNat else BitVec.ofNat 32 (y.rises.toNat + 0x10000 * y.falls.toNat))
  else if 0x200 ≤ o ∧ o < 0x400 ∧ o % 0x40 = 0x14 then
    some (maskMerge 1#32 (reg s lGAL o) (bitw (cmdBusy s ((o - 0x200) / 0x40)) 0))
  else match o with
  | 0x118 => some (BitVec.ofNat 32 (s.gal.ready.length + 0x10000 * min (firstPend s) 4095))
  | 0x128 => some (BitVec.ofNat 32 (ptsIn s 1 + 0x10000 * ptsIn s 2))
  | 0x12C => some (BitVec.ofNat 32 (ptsIn s 3 + 0x10000 * ptsIn s 4))
  | 0x130 => some (BitVec.ofNat 32 (ptsIn s 5 + 0x10000 * ptsIn s 6))
  | 0x134 => some (BitVec.ofNat 32 (descBase s))
  | 0x138 => some (maskMerge 0x80000000#32 (reg s lGAL 0x138) (bitw s.gal.descBad 31))
  | _ => none

/-- GRP (R241). -/
def viewGrp (s : State) (o : Nat) : Option Word :=
  if 0x200 ≤ o ∧ (o - 0x200) % 0x20 = 4 then some (bitw (nackBusy s ((o - 0x200) / 0x20)) 0)
  else match o with
  | 0x11C => some (BitVec.ofNat 32 (graphBase s))
  | 0x120 => some (BitVec.ofNat 32 (mirrorBase s))
  | 0x128 => some (causeReadWord s)
  | 0x130 => some (bitw s.grp.master 0 ||| bitw (grpSynced s) 1 ||| bitw s.grp.rebuild 2 ||| bitw s.grp.yielded 3 |||
      BitVec.ofNat 32 (0x10000 * s.grp.masterNode.getD 0) ||| bitw s.grp.masterNode.isSome 31)
  | 0x134 => some (BitVec.ofNat 32 (s.grp.inq.length + 0x10000 * s.grp.peak))
  | 0x150 => some (maskMerge 0xC0000000#32 (reg s lGRP 0x150) (bitw s.grp.edgeBad 30 ||| bitw s.grp.chkBad 31))
  | _ => none

/-- ECHO (R267). -/
def viewEcho (s : State) (o : Nat) : Option Word :=
  if 0x140 ≤ o ∧ o < 0x184 then some (callSt s ((o - 0x140) / 4))
  else if 0x190 ≤ o ∧ o < 0x1D4 then some (BitVec.ofNat 32 (callTm s ((o - 0x190) / 4)))
  else match o with
  | 0x114 => some (echoStat s)
  | 0x118 => some (dmStat s)
  | 0x11C => some (loopStat s)
  | 0x120 => some s.echo.a.lost
  | 0x124 => some s.echo.b.lost
  | 0x128 => some s.echo.a.ring
  | 0x12C => some s.echo.b.ring
  | _ => none

/-- LOOP common (R297) and a slot (R298). -/
def viewLoop (s : State) (o : Nat) : Option Word :=
  let hi := decide (o % 8 = 4)
  if o = 0x110 ∨ o = 0x114 then some (slotMap s (fun l => decide (l.mode ≠ 0#3)) hi)
  else if o = 0x118 ∨ o = 0x11C then some (slotMap s slotTrip hi)
  else if o = 0x120 ∨ o = 0x124 then some (slotMap s slotNotAuto hi)
  else if o = 0x130 then some (BitVec.ofNat 32 (loopBase s))
  else none
def viewSlot (s : State) (n o : Nat) : Option Word :=
  let l := slot s n
  match o with
  | 0xA8 => some (sStat s n)
  | 0xAC => some (BitVec.ofInt 32 l.fb)
  | 0xB0 => some (BitVec.ofInt 32 l.sp)
  | 0xB4 => some (BitVec.ofInt 32 l.out)
  | 0xB8 => some (BitVec.ofInt 32 l.core.i)
  | 0xBC => some (BitVec.ofInt 32 l.err)
  | _ => none

/-- FIO (R324). -/
def viewFio (s : State) (o : Nat) : Option Word :=
  if 0x300 ≤ o ∧ o < 0x500 ∧ o % 16 = 12 then some (doStat s ((o - 0x300) / 16))
  else if 0x500 ≤ o ∧ o < 0x600 ∧ o % 16 = 12 then some (aoStat s ((o - 0x500) / 16))
  else if 0x140 ≤ o ∧ o < 0x150 then some (faultMap s ((o - 0x140) / 4))
  else match o with
  | 0x104 => some (fioStat s)
  | 0x108 => some (diWord s (·.filt) false)
  | 0x10C => some (diWord s (·.filt) true)
  | 0x110 => some (diWord s (·.raw) false)
  | 0x114 => some (diWord s (·.raw) true)
  | 0x118 => some (diWord s (·.wb) false)
  | 0x11C => some (diWord s (·.wb) true)
  | 0x124 => some (doOut s)
  | 0x128 => some (doOut s)
  | 0x12C => some (forceLockWord s)
  | 0x130 => some (BitVec.ofNat 32 (forceRemain s))
  | _ => none

/-- LANT (R348) and BIST (R349). -/
def viewLant (s : State) (o : Nat) : Option Word :=
  match o with
  | 0x110 => some (lantStat s)
  | 0x114 => some s.lant.frames
  | 0x11C => some (atReadWord s (atEntry s) (atSel s))
  | 0x124 => some (BitVec.ofNat 32 (fsReadWord s))
  | _ => none
def viewBist (s : State) (o : Nat) : Option Word :=
  if 0x200 ≤ o ∧ o % 32 = 0x18 then some (regStat s ((o - 0x200) / 32))
  else match o with
  | 0x104 => some (bistStat s)
  | 0x108 => some s.bist.dirty
  | 0x110 => some (wfReadWord s)
  | 0x114 => some (runMap s)
  | 0x118 => some (pendMap s)
  | _ => none

/-- FLOW (R369): the writer writes no record between two commands, so WRITING reads 0. -/
def nonceLeft (s : State) : Nat :=
  match s.flow.nonce with | some (_, _, t) => 60 - min 60 ((s.now - t) / 1000000000) | none => 0
def viewSnap (s : State) (x o : Nat) : Option Word :=
  let v := snap s x
  let hi := decide (o % 8 = 4)
  if o = 0x04 then some (bitw v.held 0 ||| bitw v.lost 2)
  else if o = 0x08 ∨ o = 0x0C then some (half64 hi v.first)
  else if o = 0x10 ∨ o = 0x14 then some (half64 hi v.last)
  else if o = 0x18 ∨ o = 0x1C then some (half64 hi v.cur)
  else if o = 0x20 ∨ o = 0x24 then some (half64 hi v.floor)
  else if o = 0x28 then some (BitVec.ofNat 32 v.firstAddr)
  else none
/-- FLOW (R369). What the ring holds is known once recovery has run; before, these registers read their reset value (R360). -/
def viewFlow (s : State) (o : Nat) : Option Word :=
  let f := s.flow
  let hi := decide (o % 8 = 4)
  let known (n : Nat) : Nat := if f.recovered then n else 0
  if 0x200 ≤ o then viewSnap s ((o - 0x200) / 0x40) (o % 0x40)
  else if 0x150 ≤ o ∧ o < 0x160 then some (BitVec.ofNat 32 (f.nonceReg.toNat / 2 ^ (8 * (o - 0x150))))
  else if o = 0x110 ∨ o = 0x114 then some (half64 hi (known (lastSeq s)))
  else if o = 0x118 ∨ o = 0x11C then some (half64 hi (known (match firstRec s with | some r => r.seq | none => 0)))
  else if o = 0x138 ∨ o = 0x13C then some (half64 hi f.exportedSeq)
  else if o = 0x180 ∨ o = 0x184 then some (half64 hi f.exportTime.toNat)
  else match o with
  | 0x108 => some (bitw (alive s lFLOW && f.needRecovery && !f.recovered) 1 ||| bitw f.clearing.isSome 2 ||| BitVec.ofNat 32 (known (0x10000 * f.headBlk)))
  | 0x120 => some (BitVec.ofNat 32 (known (match firstRec s with | some r => r.addr | none => 0)))
  | 0x124 => some (BitVec.ofNat 32 (known f.headAddr))
  | 0x128 => some (BitVec.ofNat 32 (f.queue.length + 0x10000 * f.peak))
  | 0x12C => some (BitVec.ofNat 32 (min f.dropCnt 0xFFFFFFFF))
  | 0x130 => some (BitVec.ofNat 32 (min f.badCnt 0xFFFFFFFF))
  | 0x144 => some (bitw (nonceNow s).isSome 0 ||| bitw f.clearing.isSome 1 ||| bitw (decide (5 ≤ f.clrFailed)) 2 |||
      BitVec.ofNat 32 (16 * f.clrResult.toNat + 256 * f.clrFails + 0x10000 * nonceLeft s))
  | _ => none

/-- NET (R397), CAN_n (R399) and SER_n (R401). -/
def viewNet (s : State) (o : Nat) : Option Word :=
  if 0x400 ≤ o then some (nvEnt s ((o - 0x400) / 4)).value
  else match o with
  | 0x120 => some (linkStat s)
  | 0x124 => some (half64 false s.otp.mac.toNat)
  | 0x128 => some (half64 true s.otp.mac.toNat)
  | 0x144 => some (mgmtStat s)
  | 0x15C => some (BitVec.ofNat 32 s.net.present.toNat)
  | 0x17C => some (nvStat s (cfg s lNET 0x170 7 0))
  | _ => none

/-- HOST common, the ports (R435), DMA common (R436), a queue (R437) and IOMMU (R438). -/
def viewHost (s : State) (o : Nat) : Option Word := if o = 0x100 then some (BitVec.ofNat 32 s.hostUp.toNat) else none
def viewPcie (s : State) (o : Nat) : Option Word := if o = 0x104 then some s.otp.pcieId else none
def viewDma (s : State) (o : Nat) : Option Word :=
  if o = 0x128 ∨ o = 0x12C then some (half64 (decide (o = 0x12C)) (qPend s))
  else if o = 0x1A0 then some (bitw s.pinLocked 0)
  else if o = 0x1A4 then some (bitw s.pinLocked 0 ||| BitVec.ofNat 32 (256 * s.pinErr.toNat))
  else none
def viewQueue (s : State) (n o : Nat) : Option Word :=
  let q := queue s n
  match o with
  | 0x20 => some (BitVec.ofNat 32 q.tail.toNat)
  | 0x24 => some (BitVec.ofNat 32 q.head.toNat)
  | 0x28 => some (BitVec.ofNat 32 (qState s n + 16 * q.cmdRes.toNat))
  | 0x30 => some (half64 false q.fAddr.toNat)
  | 0x34 => some (half64 true q.fAddr.toNat)
  | 0x38 => some q.fInfo
  | 0x3C => some (BitVec.ofNat 32 q.fProg)
  | 0x40 => some (BitVec.ofNat 32 q.irq.toNat)
  | 0x44 => some (BitVec.ofNat 32 q.mask.toNat)
  | _ => none
def viewIommu (s : State) (o : Nat) : Option Word :=
  match o with
  | 0x204 => some (bitw (!s.dma.inv.isEmpty) 0)
  | 0x210 => some (inFaultWord s)
  | 0x218 => some (half64 false s.dma.inFault.addr.toNat)
  | 0x21C => some (half64 true s.dma.inFault.addr.toNat)
  | _ => none

/-- ROPE (R457) and TEST (R468). -/
def viewRope (s : State) (o : Nat) : Option Word :=
  if 0x180 ≤ o then some (healthWord s.rope.peer ((o - 0x180) / 4))
  else if 0x140 ≤ o then some (healthWord s.rope.own ((o - 0x140) / 4))
  else if o = 0x104 then some (ropeStat s)
  else if o = 0x11C then some (BitVec.ofNat 32 (min (mirrorLag s) 65535))
  else none
def viewTest (s : State) (o : Nat) : Option Word :=
  match o with
  | 0x10C => some (injStat s)
  | 0x110 => some s.test.injValue
  | 0x114 => some (BitVec.ofNat 32 s.test.injFlags)
  | 0x118 => some (dbgStat s)
  | 0x120 => some (half64 false s.test.failMap.toNat)
  | 0x124 => some (half64 true s.test.failMap.toNat)
  | _ => none

/-- The view of a unit's register, none where `act` holds it. -/
def pageView (s : State) (u o : Nat) : Option Word :=
  if u = lSYS then (if o < 0x140 then some (half64 (decide (o % 8 = 4)) (ctxPend s (BitVec.ofNat 3 ((o - 0x100) / 8)))) else none)
  else if u = lPWR then viewPwr s o
  else if u = lGROT then viewGrot s o
  else if u = lCLK then some (bitw s.clk.xt25 0 ||| bitw s.clk.xt32 1)
  else if u = lPTP then viewPtp s o
  else if u ≤ 12 then viewChmb s (u - 5) o
  else if u = lSSNS then viewSsns s o
  else if u = lINTG then viewIntg s o
  else if u = lGAL then viewGal s o
  else if u = lGRP then viewGrp s o
  else if u = lECHO then viewEcho s o
  else if u = lLOOP then viewLoop s o
  else if u = lFIO then viewFio s o
  else if u = lLANT then viewLant s o
  else if u = lBIST then viewBist s o
  else if u = lFLOW then viewFlow s o
  else if u = lNET then viewNet s o
  else if u ≤ 29 then (if o = 0x10C then some (canStat s (u - 24)) else none)
  else if u ≤ 35 then (if o = 0x110 then some (serStat s (u - 30)) else none)
  else if u = lHOST then viewHost s o
  else if u ≤ 38 then viewPcie s o
  else if u = lDMA then viewDma s o
  else if u = lIOMMU then viewIommu s o
  else if u = lROPE then viewRope s o
  else if u = lTEST then viewTest s o
  else if decide (64 ≤ u) && decide (u < 128) then viewSlot s (u - 64) o
  else if decide (128 ≤ u) && decide (u < 192) then viewQueue s (u - 128) o
  else none

/-- The bits of a register that the spec fixes no value for at this moment: the locks of the synthesisers while the 25 MHz clock runs
(R85), the voltages at static
pins, the level of a pin that is not driven, the measured current or voltage of an AO, ticks counted on the internal oscillator. -/
def freeBits (s : State) (u o : Nat) : Word :=
  if u = lCLK then (if decide (o = 0x100) && s.clk.xt25 then 0xFF00#32 else 0#32)
  else if u = lGROT ∧ o = 0x100 then (if s.grot.preFree then 0x7FFF#32 else 0#32)
  else if u = lGROT ∧ o = 0x124 then (if !s.grot.wakeFree || decide (cfg s lGROT 0x120 25 0 = 0) then 0#32 else 0x03FFFFFF#32)
  else if decide (5 ≤ u) && decide (u ≤ 12) && decide (o = 0x130) then
    (if cfgBit s u 0x108 0 then 0xFFFF#32 else 0#32) ||| (if cfgBit s u 0x10C 0 then 0xFFFF0000#32 else 0#32)
  else if u = lFIO ∧ o = 0x128 then doPinFree s
  else if decide (u = lFIO) && decide (0x500 ≤ o) && decide (o < 0x600) && decide (o % 16 = 8) then 0xFFFF#32
  else 0#32

/-- The key of a register as its window shows it: CH_SEL and LIN_ADDR of INTG, GRP_SEL, NV_SEL, SCHED_ADDR (R180, R241, R267, R397). -/
def viewKey (s : State) (u o : Nat) : Option Nat :=
  if u = lINTG ∧ o = 0x10C then linKey s
  else if u = lINTG ∧ 0x180 ≤ o ∧ o ≤ 0x1A0 then some (wk lINTG o (cfg s lINTG 0x104 8 0))
  else if u = lGRP ∧ (o = 0x164 ∨ o = 0x168) then some (wk lGRP o (cfg s lGRP 0x160 15 0))
  else if u = lNET ∧ (o = 0x174 ∨ o = 0x178) then some (wk lNET o (cfg s lNET 0x170 7 0))
  else if u = lECHO ∧ o = 0x504 then
    (if cfg s lECHO 0x500 9 0 < 672 then some (wk lECHO o (cfg s lECHO 0x500 9 0)) else none)
  else some (rk u o)

/-- The value in use of a register's RWS bits as the active view shows it; that of a GAL slot is the descriptor in use of the point in
DST_s.INDEX (R67, R213). -/
def activeRws (s : State) (u o : Nat) : Word :=
  if decide (u = lGAL) && decide (0x400 ≤ o) then
    dw (pnt s (fld (stagedAt s (rk lGAL (0x140 + 4 * ((o - 0x400) / 64)))) 10 0)).desc ((o - 0x400) % 64 / 4)
  else match viewKey s u o with | some k => rget s k | none => 0#32

/-- What a block-specific register reads as, without the effects of reading it (R9, R67): RWS bits staged or, in the active view, in
use; the other readable bits as the page shows them; write-only and reserved bits 0. -/
def regWord (s : State) (u o : Nat) (av : Bool) : Word :=
  match regAt u o with
  | none => 0#32
  | some d =>
    let rws := if av then activeRws s u o else match viewKey s u o with | some k => stagedAt s k | none => 0#32
    let cur := (pageView s u o).getD (reg s u o)
    (rws &&& BitVec.ofNat 32 d.rws) ||| (cur &&& BitVec.ofNat 32 ((d.rw ||| d.w1c ||| d.rc ||| d.ro) &&& (0xFFFFFFFF ^^^ d.rws)))

/-- Is an offset in the common header or sub-header (R64, R67)? -/
def inHdr (u o : Nat) : Bool := if u < 64 then decide (o < 0x100) else decide (o < 0x10)

/-- A word of a unit as it reads. -/
def wordOf (s : State) (u o : Nat) (av : Bool) : Word :=
  if inHdr u o then (if u < 64 then hdrWord s u o else subWord s u o) else regWord s u o av

end Sys2Proof.Machine
end

