-- ==== Sys2Proof/Machine/Modes.lean ====
section
/-! DEFINITION. Changes of the module's state as a whole that reach into every block: power-fail and ride-through (R44, R45), device
faults and degraded mode (R58, R59, R496), the hold of the application cluster (R54), power states (R46, R47). -/
namespace Sys2Proof.Machine

/-- Domains go off (R14, R23, R372, R405, R460): what was on its way into them is dropped, their tests end, the links of PD_NET and
PD_HOST drop. -/
def domainsOff (s : State) (m : BitVec 16) : State :=
  let s := testsDomain (chmDark (dropXing (domsClear s m)))
  let s := if unitOn s lNET then s else netDown s
  if domOn s dHOST then s else { s with hostUp := 0#4 }

/-- The power-fail sequence begins (R44): the stale mark, the alarm blocks stop, provisional samples are squashed, SYSOK stops, running
queues stop, Flowstone writes POWER_FAIL, the domains of the first millisecond go off, Rope tells its partner (R446). Outputs follow
the phase. -/
def beginPowerFail (s : State) : State :=
  let s := haltQueues (squashAll (writeStale (dropUpdates s)))
  let s := if writerRuns s then
      writeRec s ⟨0#4, 2#8, leBytes 4 s.pwr.meas.toNat ++ leBytes 4 s.grot.gsec.toNat⟩ else s
  let s := { s with pwr := { s.pwr with phase := .powerFail, sysokOn := false, sysokExpectA5 := false, sysokKicks := 0 } }
  domainsOff (ropeFault s) domsFail

/-- Off: every domain but PD_BACKUP is off and every register is at its reset value (R44, R82). -/
def goOff (s : State) : State :=
  let s := volatileReset s
  { s with pwr := { s.pwr with phase := .off, doms := domsBackup, vinGood := false, dip := false, fail := false, overV := false,
                               holdReady := false, holdFault := false } }

/-- The application cluster stops (R405): its queues stop with it. -/
def appStop (s : State) : State := stopQueuesOf { s with pwr := { s.pwr with appRunning := false } } 1#3

/-- Ride-through begins: the shed domains go off, everything else runs on (R44). -/
def beginRideThrough (s : State) : State :=
  domainsOff (appStop { s with pwr := { s.pwr with shed := s.pwr.doms &&& domsShed } }) domsShed

/-- The module draws its power from VIN again (R44): the shed domains come back, the application cores restart. -/
def recoverSupply (s : State) : State :=
  let cores := s.pwr.shed.getLsbD 2
  let hold := cfgBit s lPWR 0x120 0
  let s := { s with pwr := { s.pwr with
    fail := false, vinGood := true, doms := s.pwr.doms ||| s.pwr.shed, shed := 0#16,
    appRunning := (cores && !hold) || s.pwr.appRunning } }
  supplyEvent (bistRefreshAll (resumePhases s)) 1 false

/-- VIN_GOOD (R43, R45, R49, R107): FAIL clears, with an event where it stood. -/
def execVinGood (meas : Word) (s : State) : Host.Outcome State Fault Refusal :=
  let s := measured s meas
  done (match s.pwr.phase with
    | .off => startVin { s with pwr := { s.pwr with vinGood := true, upAt := s.now } }
    | .powerFail =>
      let t := { s with pwr := { s.pwr with vinGood := true, fail := false, vinAgain := true } }
      if s.pwr.fail then supplyEvent t 1 false else t
    | _ => if s.pwr.fail then recoverSupply s else { s with pwr := { s.pwr with vinGood := true } })

/-- SUPPLY_FAIL (R43 to R45); the power-fail sequence runs on. -/
def execSupplyFail (meas : Word) (s : State) : Host.Outcome State Fault Refusal :=
  let s := measured s meas
  done (if powered s && !s.pwr.fail then
    let s := supplyEvent { s with pwr := { s.pwr with fail := true, vinGood := false } } 1 true
    if cfgBit s lPWR 0x108 8 && decide (cfg s lPWR 0x108 5 0 ≠ 0) then beginRideThrough s else beginPowerFail s
  else if decide (s.pwr.phase = .powerFail) && !s.pwr.fail then
    supplyEvent { s with pwr := { s.pwr with fail := true, vinGood := false, vinAgain := false } } 1 true
  else s)

/-- RIDE_THROUGH_RECOVERY (R43, R44): VIN is good again before HOLD_RIDE ends. -/
def execRideThroughRecovery (meas : Word) (s : State) : Host.Outcome State Fault Refusal :=
  let s := measured s meas
  done (if powered s && s.pwr.fail then recoverSupply s else s)

/-- RIDE_THROUGH_END (R44). -/
def execRideThroughEnd (s : State) : Host.Outcome State Fault Refusal :=
  done (if powered s && s.pwr.fail then beginPowerFail s else s)

/-- POWER_FAIL_COMPLETE (R44, R45, R107): the mark is written and the module is in Off; if VIN came back meanwhile it starts at once. -/
def execPowerFailComplete (s : State) : Host.Outcome State Fault Refusal :=
  done (if s.pwr.phase = .powerFail then
    let again := s.pwr.vinAgain
    let t := goOff (journalPowerFail (finishPhases s))
    if again then startVin { t with pwr := { t.pwr with vinGood := true, upAt := t.now } } else t
  else s)

/-- VHOLD_EXHAUSTED (R44, R45): all domains except PD_BACKUP off at once, with no mark. -/
def execVholdExhausted (meas : Word) (s : State) : Host.Outcome State Fault Refusal :=
  let s := measured s meas
  done (if s.pwr.fail ∨ s.pwr.phase = .powerFail then goOff s else s)

/-- Degraded mode ends all forces (R36, R318). -/
def forcesStop (s : State) : State := if s.fio.lock.isSome then forcesEnd s else s

/-- A device fault (R58, R59, R496): no effect in reset or in the power-fail sequence; a further fault in degraded mode changes
nothing; otherwise XT25_OK falls with code 0x05 (R85), degraded mode is entered, the page concerned captures it, Flowstone and the Grotto journal record it. -/
def deviceFault (s : State) (code line : Nat) (write : Bool) : State :=
  match s.pwr.phase with
  | .off => s
  | .inReset => s
  | .powerFail => s
  | _ =>
    if s.pwr.degraded then s else
    let s := if code = 5 then { s with clk := { s.clk with xt25 := false } } else s
    let page := if code ≤ 3 then line else lSYS
    let own := code ≤ 3 && page = lFLOW
    let s := if code = 1 ∧ page = lINTG then { s with intg := { s.intg with store := true } } else s
    let s := captureFault (forcesStop (testsDrop (writeStale (cutPhases s)))) page write
    let s := if own then s else flowDrain s
    let s := sysokStop s
    let s := journalDegraded s code
    let s := { s with pwr := { s.pwr with
      degraded := true, degrCause := BitVec.ofNat 8 code, degrCount := BitVec.ofNat 2 (degradedCount s),
      safeHalt := s.pwr.safeHalt || code = 4,
      phase := if s.pwr.phase = .recovery then .boot else s.pwr.phase } }
    let s := ropeFault s
    let s := if (hdr s lGRP).en && unitOn s lGRP && domOn s dNET then election s else s
    if own then { s with flow := { s.flow with stopped := true } }
    else deviceRecNow s 5#8 (leBytes 1 code ++ [0#8, 0#8, 0#8] ++ leBytes 4 (errWord (hdr s page).err).toNat)

/-- DEVICE_FAULT (R58, R59, R496), codes 0x01 to 0x08; the line names the block whose access path failed. -/
def execDeviceFault (code : BitVec 4) (line : BitVec 6) (write : Bool) (s : State) : Host.Outcome State Fault Refusal :=
  if decide (1 ≤ code.toNat) && decide (code.toNat ≤ 8) && decide (line.toNat ≤ 44) then
    done (deviceFault s code.toNat line.toNat write)
  else .fault .illFormed

/-- DEGR_DECLARE (R58 code 0x08). -/
def execDegrDeclare (ctx : Ctx) (s : State) : Host.Outcome State Fault Refusal :=
  done (ownerWrite s ctx lPWR 0x138 (fun s => deviceFault s 8 lSYS false))

/-- PINNED_GRANT_TIMEOUT (R422): a pinned-region access waited too long, which is device fault 0x02 of its block. -/
def execPinnedGrantTimeout (line : BitVec 6) (write : Bool) (s : State) : Host.Outcome State Fault Refusal :=
  if line.toNat ≤ 44 then done (deviceFault s 2 line.toNat write) else .fault .illFormed

/-- Is a point outside NORM, OOS and SHELVED (R46)? -/
def pointBusy (s : State) : Bool :=
  s.gal.pts.any (fun e => dEn e.2.desc && decide (e.2.core.st ≠ 0#3) && decide (e.2.core.st ≠ 4#3) && decide (e.2.core.st ≠ 6#3))

/-- A write of PSTATE_REQ (R46, R47): 3 is ignored; Sleep is refused while a point or Echo is busy; otherwise the transition is on its
way. -/
def pstateReq (s : State) (req : Nat) : State :=
  if 3 ≤ req then s
  else
    let s := setReg s lPWR 0x10C (BitVec.ofNat 32 req)
    let s := { s with pwr := { s.pwr with refused := false } }
    let dest : PState := match req with | 0 => .run | 1 => .doze | _ => .sleep
    if dest = .sleep && (pointBusy s || echoBusy s) then { s with pwr := { s.pwr with refused := true } }
    else { s with pwr := { s.pwr with goal := if s.pwr.pstate = dest then none else some dest } }
def pstateRow (s : State) (ctx : Ctx) (req : Nat) : State := ownerWrite s ctx lPWR 0x10C (fun s => pstateReq s req)

/-- PSTATE_REQ_RUN, PSTATE_REQ_DOZE, PSTATE_REQ_SLEEP (R46, R47). -/
def execPstateReqRun (ctx : Ctx) (s : State) : Host.Outcome State Fault Refusal := done (pstateRow s ctx 0)
def execPstateReqDoze (ctx : Ctx) (s : State) : Host.Outcome State Fault Refusal := done (pstateRow s ctx 1)
def execPstateReqSleep (ctx : Ctx) (s : State) : Host.Outcome State Fault Refusal := done (pstateRow s ctx 2)

/-- Doze: PD_APP alone goes off (R21), and does not come back with the domains that ride-through has shed. -/
def enterDoze (s : State) : State :=
  let s := domainsOff (appStop s) 0x0004#16
  { s with pwr := { s.pwr with pstate := .doze, goal := none, shed := s.pwr.shed &&& ~~~0x0004#16 } }

/-- Run: PD_APP comes on and the application cores start, unless they are held (R47); not before start-up has released them, nor in
ride-through (R44, R48). -/
def enterRun (s : State) : State :=
  let s := if s.pwr.appReleased then domsWanted s 0x0004#16 else s
  chmResume (appStart { s with pwr := { s.pwr with pstate := .run, goal := none } })

/-- Sleep (R22, R23, R37, R347): work in flight ends, the writer writes SLEEP, and what is left is PD_BACKUP and PD_AON with the dead-man
counter, the wake sense and the wake controller's copies; every register returns to its reset value (R82). SYSOK goes on until the
kicks have been missing for 1.8 ms (R57); a trial goes on over the Sleep (log entry 71). -/
def enterSleep (s : State) : State :=
  let s := haltQueues (finishUpdates (squashAll s))
  let s := deviceRecNow s 11#8 []
  let t := volatileReset s
  { t with
    echo := { t.echo with dm := s.echo.dm }
    fio := { t.fio with wakeEn := BitVec.ofNat 8 (cfg s lFIO 0x100 23 16) }
    net := { t.net with t1sCfg := s.net.t1sCfg, t1sCode := s.net.t1sCode, t1sNode := s.net.t1sNode, present := s.net.present }
    pwr := { t.pwr with
      phase := .run, pstate := .sleep, doms := domsAlways, trial := s.pwr.trial, trialApp := s.pwr.trialApp,
      sysokOn := s.pwr.sysokOn, sysokAt := s.pwr.sysokAt } }

/-- POWER_STATE_TRANSITION_DONE (R23, R47). -/
def execPowerStateTransitionDone (s : State) : Host.Outcome State Fault Refusal :=
  done (if decide (s.pwr.phase = .run) || decide (s.pwr.phase = .boot) then
    match s.pwr.goal with
    | some .doze => enterDoze s
    | some .run => enterRun s
    | some .sleep => enterSleep s
    | none => s
  else s)

/-- APP_HOLD_SET (R17, R54): the application cluster is held in reset. -/
def execAppHoldSet (ctx : Ctx) (s : State) : Host.Outcome State Fault Refusal :=
  done (ownerWrite s ctx lPWR 0x120 (fun s =>
    let s := appStop (setFld s lPWR 0x120 0 0 1)
    { s with pwr := { s.pwr with appVerify := false } }))

/-- APP_HOLD_RELEASE (R54): the cluster reloads from the active slot, which ends a trial of the application image alone, or waits for
the trial's verification. -/
def execAppHoldRelease (ctx : Ctx) (s : State) : Host.Outcome State Fault Refusal :=
  done (ownerWrite s ctx lPWR 0x120 (fun s =>
    if cfgBit s lPWR 0x120 0 then
      let s := setFld s lPWR 0x120 0 0 0
      if cfgBit s lPWR 0x144 2 then { s with pwr := { s.pwr with appVerify := true } }
      else appStart { s with pwr := { s.pwr with trial := s.pwr.trial && !s.pwr.trialApp, trialApp := false } }
    else s))

/-- APP_TRIAL_VERIFY_DONE (R54 steps 3 to 5). -/
def execAppTrialVerifyDone (s : State) : Host.Outcome State Fault Refusal :=
  done (if s.pwr.appVerify then
    let b := !s.pwr.activeSlot
    let ok := imageOk s (slotBase b) false && decide (safetyPayload s b = safetyPayload s s.pwr.slot)
    let s := setFld s lPWR 0x144 2 2 0
    let whole := s.pwr.trial && !s.pwr.trialApp
    appStart { s with pwr := { s.pwr with appVerify := false, trial := whole || ok, trialApp := !whole && ok, trialFail := !ok } }
  else s)


end Sys2Proof.Machine
end

