-- ==== Sys2Proof/Machine/Bus.lean ====
section
/-! DEFINITION. Register accesses from outside (R4, R9, R10, R64 to R67, R71, R407): where an address leads, what a read returns and
does, what a write does at each register; and values and events that arrive from another island (R13, R14). -/
namespace Sys2Proof.Machine

/-- The state that a command's own meaning leaves; the access itself goes on from there. -/
def after (s : State) (r : Host.Outcome State Fault Refusal) : State := match r with | .next t => t | _ => s

/-- An access at an address, by a context (R65, R66, R495): `k` is what the place does with it. Outside the register space a core
meets a bus error, which changes nothing; any other path meets R65. -/
def busPlace (s : State) (c : Ctx) (a : Nat) (w : Bool) (k : Place → State → State) : State :=
  let inside := decide (0x40000000 ≤ a) && decide (a < 0x40120000)
  let place := if inside then placeOf (a - 0x40000000) else none
  let retired := match place with | some p => !p.av && retiredRead s c p.unit p.off w | none => false
  if !(pathOk s c || retired) then s
  else
    if decide (c.toNat ≤ 1) && !inside then s
    else match place with
    | none => captureAt s lSYS c w 0x6 (a % 0x1000) (a / 0x1000 % 0x200)
    | some p =>
      if !present s p.unit then s
      else if !unitOn s p.unit then captureAt s lSYS c w 0x7 (a % 0x1000) (a / 0x1000 % 0x200)
      else k p s

/-- Is an access 32 bits wide and aligned, or 64 bits wide, aligned and of a 64-bit register (R10)? An aligned 64-bit access to any
other register is none R10 allows and none whose outcome R10 states: it is answered as a misaligned one (DESIGN CHOICE, log entry 67). -/
def widthOk (p : Place) (a : Nat) (wide : Bool) : Bool :=
  if wide then decide (a % 8 = 0) && (match regAt p.unit p.off with | some d => d.wide | none => false)
  else decide (a % 4 = 0)

/-- An access of a width that R10 does not allow: captured in ERR_INFO of the page. -/
def badWidth (s : State) (c : Ctx) (a : Nat) (w : Bool) (p : Place) : State := capture s (pageOf p.unit) c w 0x3 (a % 0x1000)

/-- RWS bits are written at a key: they stage, or in LIVE mode are checked and used from the next boundary (R79, R83). -/
def rwsPut (s : State) (u k : Nat) (v : Word) : State := if liveOn s u then liveWrite s u k v else stage s k v

/-- The blocks PV_x, CMD_x, ECMD_x, NACK_x and SNAP_x, which only CTX_x writes (R181, R202, R241, R267, R361): the context, and the
offset in its block. -/
def ownBlock (u o : Nat) : Option (Nat × Nat) :=
  if decide (0x200 ≤ o) then
    let d := o - 0x200
    if u = lINTG ∧ d < 0x100 then some (d / 0x20, d % 0x20)
    else if u = lGAL ∧ d < 0x200 then some (d / 0x40, d % 0x40)
    else if u = lGRP ∧ d < 0x100 then some (d / 0x20, d % 0x20)
    else if u = lECHO ∧ d < 0x80 then some (d / 0x10, d % 0x10)
    else if u = lFLOW ∧ d < 0x200 then some (d / 0x40, d % 0x40)
    else none
  else none

/-- The blocks that CTX_x may always read: PV_x, CMD_x and ECMD_x (R181, R202, R267). -/
def mayReadOwn (c : Ctx) (u o : Nat) : Bool :=
  (u = lINTG || u = lGAL || u = lECHO) && (match ownBlock u o with | some (x, _) => decide (x = c.toNat) | none => false)

/-- May a context read here (R71)? -/
def mayRead (s : State) (c : Ctx) (p : Place) : Bool :=
  let h := hdr s p.unit
  decide (s.pwr.phase = .retired) || decide (h.owner = c) || h.readMask.getLsbD c.toNat || (!p.av && (inHdr p.unit p.off || mayReadOwn c p.unit p.off))

/-- The RC fields of a register clear as they are read (R67). -/
def rcClear (s : State) (u o : Nat) : State :=
  if u = lFLOW ∧ o = 0x12C then { s with flow := { s.flow with dropCnt := 0 } }
  else if u = lFLOW ∧ o = 0x130 then { s with flow := { s.flow with badCnt := 0 } }
  else match regAt u o with
    | some d => if d.rc = 0 then s else setReg s u o (reg s u o &&& ~~~BitVec.ofNat 32 d.rc)
    | none => s

/-- A word as it reads, the bits that nothing fixes drawn afresh. -/
def readPlain (s : State) (u o : Nat) (av : Bool) : State :=
  let v := wordOf s u o av
  let m := freeBits s u o
  if m = 0#32 then answer s v.toNat
  else
    let d := draw s
    answer d.2 (maskMerge m v d.1).toNat

/-- A read of SCHED_DATA (R267): the staged value; under AUTOINC the address moves, from 671 to 0. -/
def schedNext (s : State) : State :=
  if cfgBit s lECHO 0x500 31 then
    setFld s lECHO 0x500 9 0 (if 671 ≤ cfg s lECHO 0x500 9 0 then 0 else cfg s lECHO 0x500 9 0 + 1) else s

/-- LIN_DATA (R180): a write stages the store word, a read returns the staged value. -/
def linWrite (s : State) (v : Word) : State := linNext (match linKey s with | some k => rwsPut s lINTG k v | none => s)
def linRead (s : State) : State := linNext (answer s (match linKey s with | some k => (stagedAt s k).toNat | none => 0))

/-- LIN_DATA_ACCESS (R180). -/
def execLinDataAccess (ctx : Ctx) (write : Bool) (value : Word) (s : State) : Host.Outcome State Fault Refusal :=
  done (if write then ownerWrite s ctx lINTG 0x10C (fun s => linWrite s value) else readAccess s ctx lINTG 0x10C linRead)

/-- A 32-bit read of a register that the context may read, with what reading does. -/
def readWord (s : State) (c : Ctx) (u o : Nat) : State :=
  if inHdr u o then readPlain s u o false
  else if u = lPTP ∧ o = 0x100 then after s (execPtpTimeRead c false s)
  else if u = lGROT ∧ o = 0x100 then after s (execTimeSnapRead c s)
  else if u = lGROT ∧ o = 0x13C then after s (execJrnlDataRead c s)
  else if u = lINTG ∧ o = 0x10C then linRead s
  else if decide (u = lGAL) && decide (0x200 ≤ o) && decide (o < 0x400) && decide (o % 0x40 = 0x34) then statTRead s ((o - 0x200) / 0x40)
  else if u = lGRP ∧ o = 0x128 then causeRead s
  else if u = lECHO ∧ o = 0x504 then schedNext (readPlain s u o false)
  else if u = lLANT ∧ o = 0x11C then atRead s
  else if u = lLANT ∧ o = 0x124 then fsRead s
  else if u = lBIST ∧ o = 0x110 then wfRead s
  else rcClear (readPlain s u o false) u o

/-- A 64-bit read: both halves, of one instant. -/
def readWide (s : State) (c : Ctx) (u o : Nat) (av : Bool) : State :=
  let s1 := if av then readPlain s u o true else readWord s c u o
  let s2 := if av then readPlain s1 u (o + 4) true else readWord s1 c u (o + 4)
  { s2 with rdata := BitVec.ofNat 64 (s1.rdata.toNat + 0x100000000 * s2.rdata.toNat) }

/-- A register read on a context's path. -/
def busRead (s : State) (c : Ctx) (a : Nat) (wide : Bool) : State :=
  busPlace { s with rdata := 0#64 } c a false (fun p s =>
    if !widthOk p a wide then badWidth s c a false p
    else if !mayRead s c p then capture s (pageOf p.unit) c false 0x2 (a % 0x1000)
    else if wide then
      (if decide (p.unit = lPTP) && decide (p.off = 0x100) then
         (if p.av then answer s s.ptp.time.toNat else after s (execPtpTimeRead c true s))
       else readWide s c p.unit p.off p.av)
    else if p.av then readPlain s p.unit p.off true
    else readWord s c p.unit p.off)

/-- A write of a register without an effect of its own: RWS bits stage, RW bits are stored, W1C bits clear, and reserved, read-only
and write-only bits take nothing (R9, R79). A slot of the Gallery restarts its dry run (R209). -/
def plainWrite (s : State) (u o : Nat) (v : Word) : State :=
  match regAt u o, viewKey s u o with
  | some d, some k =>
    let s := if d.rws = 0 then s else rwsPut s u k (v &&& BitVec.ofNat 32 d.rws)
    let s := if d.rw = 0 then s else rset s k (maskMerge (BitVec.ofNat 32 d.rw) (rget s k) v)
    let s := if d.w1c = 0 then s else rset s k (rget s k &&& ~~~(v &&& BitVec.ofNat 32 d.w1c))
    if decide (u = lGAL) && decide (0x400 ≤ o) then dryRestart s ((o - 0x400) / 64) else s
  | _, _ => s

/-- A write of DST_s: INDEX and VALID stage, DRY starts, restarts or ends the dry run (R209, R213). -/
def dstWrite (s : State) (k : Nat) (value : Word) : State :=
  let key := rk lGAL (0x140 + 4 * k)
  let s := rset s key (maskMerge 0x10000#32 (rget s key) value)
  let s := rwsPut s lGAL key (value &&& 0x87FF#32)
  if bit value 16 then dryStart s k else setDry s k {}

/-- DRY_RUN_START and DRY_RUN_END (R209): a write of DST_s with DRY = 1, with DRY = 0. -/
def execDryRunStart (ctx : Ctx) (slot : BitVec 4) (value : Word) (s : State) : Host.Outcome State Fault Refusal :=
  done (ownerWrite s ctx lGAL (0x140 + 4 * slot.toNat) (fun s => dstWrite s slot.toNat (value ||| 0x10000#32)))
def execDryRunEnd (ctx : Ctx) (slot : BitVec 4) (value : Word) (s : State) : Host.Outcome State Fault Refusal :=
  done (ownerWrite s ctx lGAL (0x140 + 4 * slot.toNat) (fun s => dstWrite s slot.toNat (value &&& ~~~0x10000#32)))

/-- A write of a header register by the owner (R68); OWNER has rules of its own. -/
def hdrWrite (s : State) (c : Ctx) (u o : Nat) (v : Word) : State :=
  if o = ownerOff u then ownerReg s c u v
  else ownerWrite s c u o (fun s =>
    if o = applyOff u then applyWrite s c u (fld v 7 0)
    else if 64 ≤ u then s
    else match o with
      | 0x08 => ctrlWrite s c u v
      | 0x14 => setHdr s u { hdr s u with mask := v }
      | 0x1C => irqClr s u v
      | 0x30 => if bit v 0 then testRun s c u (fld v 15 8) else setHdr s u { hdr s u with tSel := BitVec.ofNat 8 (fld v 15 8) }
      | _ => s)

/-- A write in a block that only CTX_x writes. -/
def ownBlockWrite (s : State) (c : Ctx) (u o x r : Nat) (v : Word) : State :=
  let y : Ctx := BitVec.ofNat 3 x
  let quiet := ctxWrite s y c u o id
  let store := ctxWrite s y c u o (fun s => plainWrite s u o v)
  if u = lINTG then (if r = 0 then after s (execPvSel y c v s) else quiet)
  else if u = lGAL then
    if r = 0x10 then after s (match fld v 3 0 with
      | 1 => execAckPoint y c v s
      | 2 => execAckGroup y c v s
      | 3 => execAckAll y c v s
      | 4 => execShelve y c v s
      | 5 => execUnshelve y c v s
      | 6 => execOosSet y c v s
      | 7 => execOosClr y c v s
      | 8 => execSoftWrite y c v s
      | _ => execCmdUnknown y c v s)
    else if r = 0x18 then after s (execStatSel y c v s)
    else store
  else if u = lGRP then
    if r = 0 then (match fld v 1 0 with | 1 => nackWrite s y c 1 v | 2 => nackWrite s y c 2 v | _ => quiet) else store
  else if u = lECHO then
    if r = 0 then after s (match fld v 3 0 with
      | 1 => execEchoAccept y c v s
      | 2 => execDmResetCmd y c v s
      | 3 => execDmArmCmd y c v s
      | 4 => execDmDisarmCmd y c v s
      | 5 => execTestCu y c v s
      | _ => execEcmdUnknown y c v s)
    else quiet
  else
    if r = 0 then
      if bit v 0 || bit v 1 then
        let s := if bit v 0 then after s (execSnapTake y c s) else s
        if bit v 1 then after s (execSnapRelease y c (bit v 2) s) else s
      else quiet
    else if r = 0x18 then after s (execSnapCurWrite y c (BitVec.ofNat 64 (v.toNat + 0x100000000 * ((snap s x).cur / 0x100000000))) s)
    else if r = 0x1C then after s (execSnapCurWrite y c (BitVec.ofNat 64 ((snap s x).cur % 0x100000000 + 0x100000000 * v.toNat)) s)
    else quiet

/-- Writes of the PWR page with an effect of their own (R40 to R62). -/
def writePwr (s : State) (c : Ctx) (o : Nat) (v : Word) : Option State :=
  if decide (0x200 ≤ o) && decide (o < 0x240) then some (ownerWrite s c lPWR o (fun s => setReg s lPWR o v))
  else match o with
  | 0x10C => some (pstateRow s c (fld v 1 0))
  | 0x118 => some (ownerWrite s c lPWR o (fun s => { s with pwr := { s.pwr with rstCause := s.pwr.rstCause &&& ~~~BitVec.ofNat 7 v.toNat } }))
  | 0x11C => some (after s (execSwReset c v s))
  | 0x120 => some (after s (if bit v 0 then execAppHoldSet c s else execAppHoldRelease c s))
  | 0x128 => some (after s (execWdtKick c v s))
  | 0x12C => some (after s (execSysokKick c v s))
  | 0x138 => some (ownerWrite s c lPWR o (fun s =>
      let s := plainWrite s lPWR o v
      if bit v 31 then deviceFault s 8 lSYS false else s))
  | 0x144 => some (ownerWrite s c lPWR o (fun s =>
      let s := setFld { s with pwr := { s.pwr with bootPending := bit v 0 } } lPWR 0x144 2 2 (b2n (bit v 2))
      if bit v 1 then after s (execBootConfirm c s) else s))
  | 0x148 => some (lcRequest s c (fld v 2 0))
  | _ => none

/-- Writes of the GROT and PTP pages with an effect of their own (R89, R99, R101, R105, R108). -/
def writeGrot (s : State) (c : Ctx) (o : Nat) (v : Word) : Option State :=
  match o with
  | 0x118 => some (after s (execCalSetSec c v s))
  | 0x11C => some (after s (execWdaySet c v s))
  | 0x134 => some (after s (execPwronOffReq c v s))
  | 0x13C => some (after s (execJrnlDataWrite c v s))
  | _ => none
def writePtp (s : State) (c : Ctx) (o : Nat) (v : Word) : Option State :=
  match o with
  | 0x108 => some (ownerWrite s c lPTP o (fun s => { s with ptp := { s.ptp with stepLo := v } }))
  | 0x10C => some (after s (execPtpStep c (BitVec.ofNat 64 (s.ptp.stepLo.toNat + 0x100000000 * v.toNat)) s))
  | 0x110 => some (ownerWrite s c lPTP o (fun s =>
      if cfgBit s lPTP 0x114 3 then { s with ptp := { s.ptp with rate := clampRate (sInt32 v) } } else s))
  | 0x128 => some (ownerWrite s c lPTP o (fun s => if s.ptp.msel then s else plainWrite s lPTP o v))
  | _ => none

/-- Writes of the INTG, GAL, GRP and ECHO pages with an effect of their own. -/
def writeIntg (s : State) (c : Ctx) (o : Nat) (v : Word) : Option State :=
  match o with
  | 0x104 => some (after s (execChSel c v s))
  | 0x10C => some (ownerWrite s c lINTG o (fun s => linWrite s v))
  | 0x118 => some (after s (execNoiseRun c v s))
  | _ => none
def writeGrp (s : State) (c : Ctx) (o : Nat) (v : Word) : Option State :=
  match o with
  | 0x128 => some (ownerWrite s c lGRP o (fun s => causeWrite s c v))
  | 0x12C => some (ownerWrite s c lGRP o (fun s =>
      match fld v 1 0 with | 1 => masterYield s | 2 => masterRejoin s | 3 => masterResync s | _ => s))
  | 0x160 => some (after s (execGrpSel c v s))
  | 0x188 => some (after s (execNodeSel c v s))
  | 0x198 => some (after s (execLsupSel c v s))
  | _ => none

/-- Writes of the FIO, LANT, BIST and NET pages with an effect of their own. -/
def writeFio (s : State) (c : Ctx) (o : Nat) (v : Word) : Option State :=
  if o = 0x12C then some (access s c lFIO o true (fun s => forceLock s c v))
  else if 0x300 ≤ o ∧ o < 0x500 ∧ o % 16 = 12 then some (ownerWrite s c lFIO o (fun s => doStatClear s ((o - 0x300) / 16) v))
  else if 0x600 ≤ o ∧ o < 0x680 then some (forceWrite s c o 0x3#32 v)
  else if 0x680 ≤ o ∧ o < 0x6C0 then some (forceWrite s c o 0x1FFFF#32 v)
  else none
def writeLant (s : State) (c : Ctx) (o : Nat) (v : Word) : Option State :=
  match o with
  | 0x10C => some (ownerWrite s c lLANT o (fun s => lantCmd s v))
  | 0x11C => some (ownerWrite s c lLANT o (fun s => atWrite s c v))
  | 0x124 => some (ownerWrite s c lLANT o (fun s => fsWrite s v))
  | _ => none
def writeBist (s : State) (c : Ctx) (o : Nat) (v : Word) : Option State :=
  if o = 0x110 then some (ownerWrite s c lBIST o (fun s => wfWrite s c v))
  else if 0x200 ≤ o ∧ o < 0x600 ∧ o % 32 = 0x14 then some (ownerWrite s c lBIST o (fun s => regCmdWrite s c ((o - 0x200) / 32) v))
  else none
def writeNet (s : State) (c : Ctx) (o : Nat) (v : Word) : Option State :=
  if o = 0x158 then some (ownerWrite s c lNET o (fun s => t1sCmd s v))
  else if 0x400 ≤ o ∧ o < 0x800 then some (ownerWrite s c lNET o (fun s => nvValueWrite s c ((o - 0x400) / 4) v))
  else none

/-- Writes of the FLOW page that the contexts of CLR_CTX make (R364, R366). -/
def writeFlow (s : State) (c : Ctx) (o : Nat) (v : Word) : Option State :=
  if o = 0x140 then
    let s1 := if bit v 0 then after s (execClrNonce c s) else s
    some (if bit v 1 then after s1 (execClrGo c s1) else if bit v 0 then s1 else clrWrite s c o id)
  else if o = 0x148 ∨ o = 0x14C then some (clrWrite s c o (fun s => setReg s lFLOW o v))
  else if 0x160 ≤ o ∧ o < 0x180 then some (clrWrite s c o (fun s => setReg s lFLOW o v))
  else none

/-- Writes of the DMA, host port, IOMMU and queue registers with an effect or a writer of their own (R404, R412, R426, R431, R435). -/
def writeDma (s : State) (c : Ctx) (o : Nat) (v : Word) : Option State :=
  if 0x104 ≤ o ∧ o < 0x124 then some (ctxWrite s 0#3 c lDMA o (fun s => plainWrite s lDMA o v))
  else if 0x180 ≤ o ∧ o < 0x194 then some (pinWrite s c o (fun s => setReg s lDMA o v))
  else if o = 0x1A0 then some (after s (execPinLock c v s))
  else none
def writePort (s : State) (c : Ctx) (u o : Nat) (v : Word) : Option State :=
  if o = 0x100 ∨ o = 0x110 ∨ o = 0x114 then some (ctxWrite s 0#3 c u o (fun s => plainWrite s u o v)) else none
def writeQueue (s : State) (c : Ctx) (u o : Nat) (v : Word) : Option State :=
  let n := u - 128
  let k (f : State → State) : Option State := some (ownerWrite s c u o f)
  match o with
  | 0x20 => k (fun s => qTailWrite s c n (BitVec.ofNat 16 v.toNat))
  | 0x24 => k (fun s => qHeadWrite s c n (BitVec.ofNat 16 v.toNat))
  | 0x2C => k (fun s => qCmd s n (fld v 1 0))
  | 0x40 => k (fun s => setQueue s n { queue s n with irq := (queue s n).irq &&& ~~~BitVec.ofNat 5 v.toNat })
  | 0x44 => k (fun s => setQueue s n { queue s n with mask := BitVec.ofNat 5 v.toNat })
  | _ => none

/-- A write of a register with an effect of its own, or that others than the owner may write. -/
def specialWrite (s : State) (c : Ctx) (u o : Nat) (v : Word) : Option State :=
  match ownBlock u o with
  | some (x, r) => some (ownBlockWrite s c u o x r v)
  | none =>
    if u = lPWR then writePwr s c o v
    else if u = lGROT then writeGrot s c o v
    else if u = lPTP then writePtp s c o v
    else if decide (5 ≤ u) && decide (u ≤ 12) then
      (if o = 0x118 then (if bit v 0 then some (after s (execCalRun c (BitVec.ofNat 3 (u - 5)) s)) else none) else none)
    else if u = lINTG then writeIntg s c o v
    else if u = lGAL then
      (if 0x140 ≤ o ∧ o < 0x180 then some (ownerWrite s c lGAL o (fun s => dstWrite s ((o - 0x140) / 4) v)) else none)
    else if u = lGRP then writeGrp s c o v
    else if u = lECHO then
      (if o = 0x504 then some (ownerWrite s c lECHO o (fun s => schedNext (plainWrite s lECHO o v))) else none)
    else if u = lFIO then writeFio s c o v
    else if u = lLANT then writeLant s c o v
    else if u = lBIST then writeBist s c o v
    else if u = lFLOW then writeFlow s c o v
    else if u = lNET then writeNet s c o v
    else if decide (24 ≤ u) && decide (u ≤ 29) then
      (if o = 0x110 then some (ownerWrite s c u o (fun s => if bit v 0 then canRestart s (u - 24) else s)) else none)
    else if decide (37 ≤ u) && decide (u ≤ 40) then writePort s c u o v
    else if u = lDMA then writeDma s c o v
    else if u = lIOMMU then
      (if o = 0x200 then some (ownerWrite s c lIOMMU o (fun s => invCmd s (fld v 1 0) (fld v 7 4))) else none)
    else if u = lROPE then (if o = 0x108 then some (ownerWrite s c lROPE o (fun s => ropeCmdWrite s c v)) else none)
    else if decide (64 ≤ u) && decide (u < 128) then
      (if o = 0xA4 then some (slotCmdWrite s c (u - 64) (BitVec.ofNat 2 v.toNat)) else none)
    else if decide (128 ≤ u) && decide (u < 192) then writeQueue s c u o v
    else none

/-- A 32-bit write of a unit's register. -/
def writeWord (s : State) (c : Ctx) (u o : Nat) (v : Word) : State :=
  if inHdr u o then hdrWrite s c u o v
  else match specialWrite s c u o v with
    | some t => t
    | none => ownerWrite s c u o (fun s => plainWrite s u o v)

/-- A 64-bit write: the low word, then the high word; SNAP_CUR takes both at once (R361). -/
def writeWide (s : State) (c : Ctx) (u o : Nat) (v : DWord) : State :=
  match (if u = lFLOW then ownBlock u o else none) with
  | some (x, 0x18) => after s (execSnapCurWrite (BitVec.ofNat 3 x) c v s)
  | _ => writeWord (writeWord s c u o (BitVec.ofNat 32 v.toNat)) c u (o + 4) (BitVec.ofNat 32 (v.toNat / 0x100000000))

/-- A register write on a context's path; the active view takes none (R67, R71). -/
def busWrite (s : State) (c : Ctx) (a : Nat) (wide : Bool) (v : DWord) : State :=
  busPlace s c a true (fun p s =>
    if !widthOk p a wide then badWidth s c a true p
    else if p.av then (if (hdr s p.unit).owner = c then s else capture s (pageOf p.unit) c true 0x1 (a % 0x1000))
    else if wide then writeWide s c p.unit p.off v
    else writeWord s c p.unit p.off (BitVec.ofNat 32 v.toNat))

/-- REGISTER_WRITE (R71, R79). -/
def execRegisterWrite (ctx : Ctx) (addr : Word) (wide : Bool) (value : DWord) (s : State) : Host.Outcome State Fault Refusal :=
  done (busWrite s ctx addr.toNat wide value)

/-- NARROW_ACCESS (R10): reads 0, writes nothing, and is captured with code 0x3. -/
def execNarrowAccess (ctx : Ctx) (addr : Word) (write : Bool) (s : State) : Host.Outcome State Fault Refusal :=
  let s := if write then s else { s with rdata := 0#64 }
  done (busPlace s ctx addr.toNat write (fun p s => badWidth s ctx addr.toNat write p))

/-- UNMAPPED_ACCESS (R65): reads 0, and is captured on SYS. -/
def execUnmappedAccess (ctx : Ctx) (addr : Word) (write : Bool) (s : State) : Host.Outcome State Fault Refusal :=
  let s := if write then s else { s with rdata := 0#64 }
  done (busPlace s ctx addr.toNat write (fun _ s => s))

/-- RC_COUNTER_READ (R67): a read of a register; RC fields clear, but not through the active view. -/
def execRcCounterRead (ctx : Ctx) (addr : Word) (wide : Bool) (s : State) : Host.Outcome State Fault Refusal :=
  done (busRead s ctx addr.toNat wide)

/-- LIVE_WRITE (R83): a 32-bit write, which a page in LIVE mode checks and uses from its next boundary. -/
def execLiveWrite (ctx : Ctx) (addr value : Word) (s : State) : Host.Outcome State Fault Refusal :=
  done (busWrite s ctx addr.toNat false (BitVec.ofNat 64 value.toNat))

/-- What a value that has crossed does where it arrives. -/
def arrive (s : State) (p : Payload) : State :=
  match p with
  | .item i =>
    let s := toGal s (.item i)
    if i.srcType = 1#3 then echoDi s i.idx.toNat (decide (i.value = f32One)) (decide (i.qual = 10#4)) else s
  | .grotto slot => if slot && alive s lECHO then slotChange s else s
  | .sample x => { s with intg := { s.intg with inq := s.intg.inq ++ [.sample x] } }
  | .ssns c v t => { s with intg := { s.intg with inq := s.intg.inq ++ [.ssns c v t] } }
  | .feedback n x => loopSample s n x
  | .noSample n => loopNoSample s n
  | .fbResolved c q r => loopResolution s c q r
  | .fbStatus c q => loopStatus s c q

/-- CROSSING_ARRIVAL (R13, R14): the oldest value on its way arrives, or is dropped and counted where the domain of its destination
is off. -/
def execCrossingArrival (s : State) : Host.Outcome State Fault Refusal :=
  done (match s.xing with
    | [] => s
    | x :: rest =>
      let s := { s with xing := rest }
      if unitOn s x.dst then arrive s x.what else dropAbsent s x.src)

end Sys2Proof.Machine
end

