-- ==== Sys2Proof/Machine/Remote.lean ====
section
/-! DEFINITION. Authenticated network management and the service port (R381 to R383), and the QSPI command protocol (R409 to R411):
register accesses that arrive as messages. -/
namespace Sys2Proof.Machine

/-- The context of a management port: CTX_6 of the network, CTX_7 of the service port (R66). -/
def mgmtCtx (svc : Bool) : Ctx := if svc then 7#3 else 6#3

/-- The session of a management port. -/
def mgmtSess (s : State) (svc : Bool) : Option MgmtSess := if svc then s.net.sess7 else s.net.sess6
def setSess (s : State) (svc : Bool) (m : MgmtSess) : State :=
  if svc then { s with net := { s.net with sess7 := some m } } else { s with net := { s.net with sess6 := some m } }

/-- Is the port served: MGMT_EN, or SVC_MGMT_EN with the link of the service port up, and a key programmed (R381, R383)? -/
def mgmtServed (s : State) (svc : Bool) : Bool :=
  netOn s && cfgBit s lNET 0x100 (if svc then 5 else 4) && !s.otp.mgmtKey.isEmpty && (!svc || s.net.svcUp)

/-- A message with its TAG (R382). -/
def mgmtBytes (s : State) (typ addr ctr : Nat) (nonce : BitVec 128) (data : List Word) : List Byte :=
  let b := [1#8] ++ leBytes 1 typ ++ leBytes 2 data.length ++ leBytes 4 addr ++ leBytes 8 ctr ++ leBytes 16 nonce.toNat ++
    data.flatMap (fun w => leBytes 4 w.toNat)
  b ++ hmacSha256 s.otp.mgmtKey b

/-- Send a management message. -/
def mgmtSend (s : State) (svc : Bool) (peer : BitVec 48) (b : List Byte) : State := { s with out := s.out ++ [.mgmt svc peer b] }

/-- MGMT_HELLO (R381): a new NONCE, which ends an earlier session; the NOTIFY target stays. ADDR and CTR of HELLO_RSP are not stated:
free values. -/
def execMgmtHello (svc : Bool) (peer : BitVec 48) (s : State) : Host.Outcome State Fault Refusal :=
  done (if mgmtServed s svc then
    let n := Config.freeNonce s.fresh
    let a := (Config.freeWord s.fresh).toNat
    let c := (Config.freeWord (s.fresh + 1)).toNat + 0x100000000 * (Config.freeWord (s.fresh + 2)).toNat
    let target := (mgmtSess s svc).bind (·.peer)
    mgmtSend (setSess { s with fresh := s.fresh + 3 } svc { nonce := n, peer := target }) svc peer (mgmtBytes s 2 a c n [])
  else s)

/-- Field of a message, little-endian. -/
def msgField (b : MgmtMsg) (o n : Nat) : Nat := leNat ((b.drop o).take n)

/-- Has a request the form of its type: VER, TYPE, COUNT and length (R382)? -/
def requestOk (b : MgmtMsg) (typ : Nat) : Bool :=
  decide (msgField b 0 1 = 1) && decide (msgField b 1 1 = typ) && decide (msgField b 2 2 ≤ 256) &&
  decide (b.length = 64 + (if typ = 4 then 4 * msgField b 2 2 else 0))

/-- The failed checks of a request by their status: 1 TAG, 2 CTR, 3 NONCE (R381, R382). -/
def requestFails (s : State) (svc : Bool) (b : MgmtMsg) : List Nat :=
  let sess := mgmtSess s svc
  (if b.drop (b.length - 32) = hmacSha256 s.otp.mgmtKey (b.take (b.length - 32)) then [] else [1]) ++
  (match sess with
    | some m => (if m.ctr.all (fun c => decide (c < msgField b 8 8)) then [] else [2]) ++ (if m.nonce.toNat = msgField b 16 16 then [] else [3])
    | none => [3])

/-- The words that a READ returns, one access after the other. -/
def readWords (s : State) (c : Ctx) (a : Nat) : Nat → State × List Word
  | 0 => (s, [])
  | n + 1 =>
    let t := busRead s c a false
    let r := readWords t c (a + 4) n
    (r.1, BitVec.ofNat 32 t.rdata.toNat :: r.2)

/-- The words of a WRITE, one access after the other. -/
def writeWords (s : State) (c : Ctx) (a : Nat) : List Word → State
  | [] => s
  | w :: r => writeWords (busWrite s c a false (BitVec.ofNat 64 w.toNat)) c (a + 4) r

/-- The 32-bit words of a byte list. -/
def wordsOf : Nat → List Byte → List Word
  | 0, _ => []
  | n + 1, b => BitVec.ofNat 32 (leNat (b.take 4)) :: wordsOf n (b.drop 4)

/-- A RESP to a request: its status, its CTR, the session's NONCE. With no session the NONCE is not stated: a free value. -/
def respond (s : State) (svc : Bool) (peer : BitVec 48) (status : Nat) (b : MgmtMsg) (data : List Word) : State :=
  match mgmtSess s svc with
  | some m => mgmtSend s svc peer (mgmtBytes s 5 status (msgField b 8 8) m.nonce data)
  | none => mgmtSend { s with fresh := s.fresh + 1 } svc peer (mgmtBytes s 5 status (msgField b 8 8) (Config.freeNonce s.fresh) data)

/-- A READ or WRITE (R381, R382). One that reaches outside the register space does nothing and is answered RANGE; which of several
failed checks gives the status is not stated. -/
def mgmtRequest (s : State) (svc : Bool) (peer : BitVec 48) (typ : Nat) (b : MgmtMsg) : State :=
  if !(mgmtServed s svc && requestOk b typ) then s
  else
    let a := msgField b 4 4
    let n := msgField b 2 2
    match requestFails s svc b with
    | [] =>
      if a < 0x40000000 ∨ 0x40120000 < a + 4 * n then respond s svc peer 4 b []
      else
        let s := match mgmtSess s svc with
          | some m => setSess s svc { m with ctr := some (msgField b 8 8), peer := some peer }
          | none => s
        if typ = 3 then
          let r := readWords s (mgmtCtx svc) a n
          respond r.1 svc peer 0 b r.2
        else respond (writeWords s (mgmtCtx svc) a (wordsOf n (b.drop 32))) svc peer 0 b []
    | f :: rest =>
      let pick := (Config.freeWord s.fresh).toNat % (rest.length + 1)
      let s := { s with fresh := s.fresh + 1 }
      raise (countUp (respond s svc peer ((f :: rest).getD pick f) b []) lNET 0x148 0 32) lNET 2

/-- MGMT_READ and MGMT_WRITE (R382). -/
def execMgmtRead (svc : Bool) (peer : BitVec 48) (msg : MgmtMsg) (s : State) : Host.Outcome State Fault Refusal :=
  done (mgmtRequest s svc peer 3 msg)
def execMgmtWrite (svc : Bool) (peer : BitVec 48) (msg : MgmtMsg) (s : State) : Host.Outcome State Fault Refusal :=
  done (mgmtRequest s svc peer 4 msg)

/-- MGMT_NOTIFY (R382): CTX_PEND_6 has become non-zero, and is told once. ADDR of a NOTIFY is not stated: a free value. -/
def execMgmtNotify (s : State) : Host.Outcome State Fault Refusal :=
  let p := ctxPend s 6#3
  done (if mgmtServed s false && decide (p ≠ 0) && !s.net.notified then
    match s.net.sess6 with
    | some m =>
      match m.peer with
      | some peer =>
        let a := (Config.freeWord s.fresh).toNat
        let t := { s with fresh := s.fresh + 1, net := { s.net with notified := true, notifyCtr := s.net.notifyCtr + 1 } }
        mgmtSend t false peer (mgmtBytes s 6 a s.net.notifyCtr m.nonce [BitVec.ofNat 32 p, BitVec.ofNat 32 (p / 0x100000000)])
      | none => s
    | none => s
  else s)

/-- A QSPI port, its context and its line (R66). -/
def qspiCtx (p : BitVec 1) : Ctx := BitVec.ofNat 3 (4 + p.toNat)
def qspiPort (s : State) (p : BitVec 1) : QspiPort := if p = 0#1 then s.dma.qspi0 else s.dma.qspi1
def setQspi (s : State) (p : BitVec 1) (q : QspiPort) : State :=
  if p = 0#1 then { s with dma := { s.dma with qspi0 := q } } else { s with dma := { s.dma with qspi1 := q } }

/-- Note an error; the first one since the last STATUS stands (R411). -/
def qspiErr (s : State) (p : BitVec 1) (code : Nat) : State :=
  if (qspiPort s p).err = 0#3 then setQspi s p { qspiPort s p with err := BitVec.ofNat 3 code } else s

/-- The IOVA of a memory address (R409). -/
def qspiIova (s : State) (p : BitVec 1) (addr : BitVec 40) : Nat := winBase s (39 + p.toNat) + addr.toNat % 2 ^ 39

/-- One posted word, as an access of the port's context (R409, R411). -/
def qspiPut (s : State) (p : BitVec 1) (addr : BitVec 40) (k : Nat) (b : List Byte) : State :=
  if addr.getLsbD 39 then
    let r := windowWrite s (qspiCtx p) (qspiIova s p addr + 4 * k) b
    if r.2 then r.1 else qspiErr r.1 p 3
  else busWrite s (qspiCtx p) ((addr.toNat + 4 * k) % 2 ^ 32) false (BitVec.ofNat 64 (leNat b))

/-- The posted words, in order. -/
def qspiPuts (s : State) (p : BitVec 1) (addr : BitVec 40) (k : Nat) : List Word → State
  | [] => s
  | w :: r => qspiPuts (qspiPut s p addr k (leBytes 4 w.toNat)) p addr (k + 1) r

/-- QSPI_WRITE (R411): the port's buffer holds 512 bytes; what does not fit, and a partial last word, is discarded. -/
def execQspiWrite (port : BitVec 1) (addr : BitVec 40) (bytes : List Byte) (s : State) : Host.Outcome State Fault Refusal :=
  done (if !pathOk s (qspiCtx port) then s
  else
    let s := if 512 < bytes.length then qspiErr s port 1 else s
    let s := if bytes.length % 4 ≠ 0 then qspiErr s port 2 else s
    qspiPuts s port addr 0 (wordsOf (min bytes.length 512 / 4) bytes))

/-- One word of a READ: none where it faults in translation. -/
def qspiGet (s : State) (p : BitVec 1) (addr : BitVec 40) (k : Nat) : State × Option (List Byte) :=
  if addr.getLsbD 39 then windowRead s (qspiCtx p) (qspiIova s p addr + 4 * k) 4
  else
    let t := busRead s (qspiCtx p) ((addr.toNat + 4 * k) % 2 ^ 32) false
    (t, some (leBytes 4 t.rdata.toNat))

/-- The words of a READ in address order, none where one of them faults. -/
def qspiGets (s : State) (p : BitVec 1) (addr : BitVec 40) (k : Nat) : Nat → State × Option (List Byte)
  | 0 => (s, some [])
  | n + 1 =>
    match qspiGet s p addr k with
    | (t, none) => (t, none)
    | (t, some b) =>
      match qspiGets t p addr (k + 1) n with
      | (t, none) => (t, none)
      | (t, some r) => (t, some (b ++ r))

/-- QSPI_READ (R409, R410): 0x5A and the words, or 0xE1; N = 0 means 64 words. -/
def execQspiRead (port : BitVec 1) (addr : BitVec 40) (n : Nat) (s : State) : Host.Outcome State Fault Refusal :=
  if 64 ≤ n then .fault .illFormed
  else done (if !pathOk s (qspiCtx port) then s
  else
    match qspiGets s port addr 0 (if n = 0 then 64 else n) with
    | (t, some b) => { t with out := t.out ++ [.qspi port.toNat (0x5A#8 :: b)] }
    | (t, none) => { qspiErr t port 3 with out := t.out ++ [.qspi port.toNat [0xE1#8]] })

/-- The status byte (R411): posted writes are executed by the end of their command, so WBUSY is 0. -/
def qspiStatus (s : State) (p : BitVec 1) : Byte :=
  let e := (qspiPort s p).err
  BitVec.ofNat 8 (2 * b2n (decide (e ≠ 0#3)) + 4 * e.toNat + 128 * b2n (decide (ctxPend s (qspiCtx p) ≠ 0)))

/-- QSPI_STATUS (R411): the turnaround byte, the status byte, and the error clears. -/
def execQspiStatus (port : BitVec 1) (s : State) : Host.Outcome State Fault Refusal :=
  done (if !pathOk s (qspiCtx port) then s
  else { setQspi s port { qspiPort s port with err := 0#3 } with out := s.out ++ [.qspi port.toNat [0#8, qspiStatus s port]] })

/-- QSPI_UNKNOWN_OPCODE (R411). -/
def execQspiUnknownOpcode (port : BitVec 1) (op : Byte) (s : State) : Host.Outcome State Fault Refusal :=
  if op = 0x02#8 ∨ op = 0x0B#8 ∨ op = 0x05#8 then .fault .illFormed
  else done (if pathOk s (qspiCtx port) then qspiErr s port 5 else s)

end Sys2Proof.Machine
end

