-- ==== Sys2Proof/Machine/Startup.lean ====
section
/-! DEFINITION. The later steps of the start-up timeline: the configuration is loaded, and outputs are released (R48 to R50, R52, R53). -/
namespace Sys2Proof.Machine

/-- The blocks whose bit is set are enabled, as boot firmware sets EN when it loads the configuration (R68). -/
def enableBlocks (s : State) (en : BitVec 45) : State :=
  (List.range 45).foldl (fun t u => if en.getLsbD u then enWrite t 0#3 u true else t) s

/-- BOOT_CONFIG_LOAD (R48 step 4, R49, R52, R53): the configuration verifies, OUT_CFG holds its deadline, the domains come on, and the
safety firmware makes the register writes of the configuration as CTX_0, then enables blocks. PCIE_SSID comes from the configuration
region, at no stated place: a free value (R406). -/
def execBootConfigLoad (outDeadline : BitVec 14) (writes : List (Word × Word)) (en : BitVec 45) (s : State) :
    Host.Outcome State Fault Refusal :=
  if outDeadline.toNat < 1200 ∨ 10000 < outDeadline.toNat then .fault .illFormed
  else done (if s.pwr.phase = .boot ∧ s.pwr.safeRunning = true ∧ s.pwr.dramWiped = true ∧ s.pwr.cfgLoaded = false ∧
      imageOk s configBase true = true ∧ (mgetLE s.mem (configBase + 7) 1).testBit 0 = true then
    let s := domsSet (setReg s lPWR 0x130 (outDeadline.zeroExtend 32)) domsConfig
    let w := draw s
    let x := draw w.2
    let s := setReg (setReg x.2 (lPCIE 0) 0x108 w.1) (lPCIE 1) 0x108 x.1
    let s := { s with pwr := { s.pwr with cfgLoaded := true } }
    let s := writes.foldl (fun t e => busWrite t 0#3 e.1.toNat false (BitVec.ofNat 64 e.2.toNat)) s
    enableBlocks s en
  else s)

/-- May module-wide release take place: start-up has come so far, it has not yet, and the module is not degraded (R49, R50, R59)? -/
def releaseDue (s : State) : Bool :=
  (decide (s.pwr.phase = .boot) || decide (s.pwr.phase = .run)) && s.pwr.cfgLoaded && !s.pwr.released && !s.pwr.degraded

/-- Module-wide output release (R50): SYSOK (R57), call frames, publication and the outputs that firmware writes start. -/
def release (s : State) (byDeadline : Bool) : State :=
  let s := { s with pwr := { s.pwr with
    phase := .run, released := true, byDeadline := byDeadline,
    sysokOn := s.pwr.sysokOn || (decide (2 ≤ s.pwr.sysokKicks) && decide (s.now ≤ s.pwr.sysokAt + 1800000)) } }
  let s := if byDeadline then intgDeadlineTmo s else s
  let s := bistRefreshAll (echoRelease (refreshRel s))
  if alive s lGRP then election s else s

/-- OUTPUT_RELEASE (R50): every enabled point has had its first confirmed evaluation. -/
def execOutputRelease (s : State) : Host.Outcome State Fault Refusal :=
  done (if releaseDue s && decide (firstPend s = 0) then release s false else s)

/-- OUT_DEADLINE_EXPIRY (R50, R163, R452): OUT_DEADLINE after VIN good; a second release has no deadline. -/
def execOutDeadlineExpiry (s : State) : Host.Outcome State Fault Refusal :=
  done (if releaseDue s && !s.pwr.noDeadline then release s true else s)

end Sys2Proof.Machine
end

