-- ==== Sys2Proof/Machine/Dispatch.lean ====
section
/-! DEFINITION. One arm per command of the opcode table: the arm calls that command's meaning. -/
namespace Sys2Proof.Machine
open Sys2Proof

/-- The effect of one command on everything but the queue. -/
def exec (i : Instr) (s : State) : Host.Outcome State Fault Refusal :=
  match i with
  | .vinGood meas => Sys2Proof.Machine.execVinGood meas s
  | .sramWipeDone => Sys2Proof.Machine.execSramWipeDone s
  | .dramWipeDone => Sys2Proof.Machine.execDramWipeDone s
  | .bootSafetyImageVerify => Sys2Proof.Machine.execBootSafetyImageVerify s
  | .bootConfigLoad outDeadline writes en => Sys2Proof.Machine.execBootConfigLoad outDeadline writes en s
  | .bootAppRelease => Sys2Proof.Machine.execBootAppRelease s
  | .outputRelease => Sys2Proof.Machine.execOutputRelease s
  | .outDeadlineExpiry => Sys2Proof.Machine.execOutDeadlineExpiry s
  | .supplyDip meas => Sys2Proof.Machine.execSupplyDip meas s
  | .supplyDipClear meas => Sys2Proof.Machine.execSupplyDipClear meas s
  | .supplyOver meas => Sys2Proof.Machine.execSupplyOver meas s
  | .supplyOverClear meas => Sys2Proof.Machine.execSupplyOverClear meas s
  | .supplyFail meas => Sys2Proof.Machine.execSupplyFail meas s
  | .rideThroughRecovery meas => Sys2Proof.Machine.execRideThroughRecovery meas s
  | .rideThroughEnd => Sys2Proof.Machine.execRideThroughEnd s
  | .powerFailComplete => Sys2Proof.Machine.execPowerFailComplete s
  | .vholdExhausted meas => Sys2Proof.Machine.execVholdExhausted meas s
  | .holdReady meas => Sys2Proof.Machine.execHoldReady meas s
  | .holdFault meas => Sys2Proof.Machine.execHoldFault meas s
  | .pstateReqRun ctx => Sys2Proof.Machine.execPstateReqRun ctx s
  | .pstateReqDoze ctx => Sys2Proof.Machine.execPstateReqDoze ctx s
  | .pstateReqSleep ctx => Sys2Proof.Machine.execPstateReqSleep ctx s
  | .powerStateTransitionDone => Sys2Proof.Machine.execPowerStateTransitionDone s
  | .rstNLow => Sys2Proof.Machine.execRstNLow s
  | .resetRelease => Sys2Proof.Machine.execResetRelease s
  | .wdtTimeout => Sys2Proof.Machine.execWdtTimeout s
  | .wdtKick ctx value => Sys2Proof.Machine.execWdtKick ctx value s
  | .sysokKick ctx value => Sys2Proof.Machine.execSysokKick ctx value s
  | .sysokKickTimeout => Sys2Proof.Machine.execSysokKickTimeout s
  | .swReset ctx value => Sys2Proof.Machine.execSwReset ctx value s
  | .fenceInReset => Sys2Proof.Machine.execFenceInReset s
  | .deviceFault code line write => Sys2Proof.Machine.execDeviceFault code line write s
  | .degrDeclare ctx => Sys2Proof.Machine.execDegrDeclare ctx s
  | .degrHoldExpiry => Sys2Proof.Machine.execDegrHoldExpiry s
  | .pinnedGrantTimeout line write => Sys2Proof.Machine.execPinnedGrantTimeout line write s
  | .coreBusError app addr write => Sys2Proof.Machine.execCoreBusError app addr write s
  | .bootConfirm ctx => Sys2Proof.Machine.execBootConfirm ctx s
  | .appHoldSet ctx => Sys2Proof.Machine.execAppHoldSet ctx s
  | .appHoldRelease ctx => Sys2Proof.Machine.execAppHoldRelease ctx s
  | .appTrialVerifyDone => Sys2Proof.Machine.execAppTrialVerifyDone s
  | .lcReqProvisioned ctx => Sys2Proof.Machine.execLcReqProvisioned ctx s
  | .lcReqOperational ctx => Sys2Proof.Machine.execLcReqOperational ctx s
  | .lcReqService ctx => Sys2Proof.Machine.execLcReqService ctx s
  | .lcReqRetired ctx => Sys2Proof.Machine.execLcReqRetired ctx s
  | .crossingArrival => Sys2Proof.Machine.execCrossingArrival s
  | .registerWrite ctx addr wide value => Sys2Proof.Machine.execRegisterWrite ctx addr wide value s
  | .narrowAccess ctx addr write => Sys2Proof.Machine.execNarrowAccess ctx addr write s
  | .unmappedAccess ctx addr write => Sys2Proof.Machine.execUnmappedAccess ctx addr write s
  | .rcCounterRead ctx addr wide => Sys2Proof.Machine.execRcCounterRead ctx addr wide s
  | .applyCommit ctx unit => Sys2Proof.Machine.execApplyCommit ctx unit s
  | .applyDiscard ctx unit => Sys2Proof.Machine.execApplyDiscard ctx unit s
  | .applyBadKey ctx unit key => Sys2Proof.Machine.execApplyBadKey ctx unit key s
  | .applyBoundary unit => Sys2Proof.Machine.execApplyBoundary unit s
  | .liveWrite ctx addr value => Sys2Proof.Machine.execLiveWrite ctx addr value s
  | .liveSet ctx unit => Sys2Proof.Machine.execLiveSet ctx unit s
  | .liveClear ctx unit => Sys2Proof.Machine.execLiveClear ctx unit s
  | .blkEnable ctx unit => Sys2Proof.Machine.execBlkEnable ctx unit s
  | .blkDisable ctx unit => Sys2Proof.Machine.execBlkDisable ctx unit s
  | .softReset ctx unit => Sys2Proof.Machine.execSoftReset ctx unit s
  | .softResetDone unit => Sys2Proof.Machine.execSoftResetDone unit s
  | .freezeRequest ctx unit => Sys2Proof.Machine.execFreezeRequest ctx unit s
  | .freezeReached unit => Sys2Proof.Machine.execFreezeReached unit s
  | .freezeClear ctx unit => Sys2Proof.Machine.execFreezeClear ctx unit s
  | .ownerWrite ctx unit value => Sys2Proof.Machine.execOwnerWrite ctx unit value s
  | .ownerLock ctx unit value => Sys2Proof.Machine.execOwnerLock ctx unit value s
  | .irqClrWrite ctx unit value => Sys2Proof.Machine.execIrqClrWrite ctx unit value s
  | .xt32Fail => Sys2Proof.Machine.execXt32Fail s
  | .xt32Back => Sys2Proof.Machine.execXt32Back s
  | .ptpTimeRead ctx wide => Sys2Proof.Machine.execPtpTimeRead ctx wide s
  | .ptpStep ctx time => Sys2Proof.Machine.execPtpStep ctx time s
  | .ptpMessageRx msg => Sys2Proof.Machine.execPtpMessageRx msg s
  | .ptpLoss => Sys2Proof.Machine.execPtpLoss s
  | .ptpHoldoverExpiry => Sys2Proof.Machine.execPtpHoldoverExpiry s
  | .ppsInEdge => Sys2Proof.Machine.execPpsInEdge s
  | .ppsInMiss => Sys2Proof.Machine.execPpsInMiss s
  | .ppsOutPulse => Sys2Proof.Machine.execPpsOutPulse s
  | .ppsOutEnd => Sys2Proof.Machine.execPpsOutEnd s
  | .grottoSecondTick => Sys2Proof.Machine.execGrottoSecondTick s
  | .timeSnapRead ctx => Sys2Proof.Machine.execTimeSnapRead ctx s
  | .calSetSec ctx value => Sys2Proof.Machine.execCalSetSec ctx value s
  | .calCommit => Sys2Proof.Machine.execCalCommit s
  | .wdaySet ctx value => Sys2Proof.Machine.execWdaySet ctx value s
  | .grottoColdStart => Sys2Proof.Machine.execGrottoColdStart s
  | .periodicWake => Sys2Proof.Machine.execPeriodicWake s
  | .calendarAlarm => Sys2Proof.Machine.execCalendarAlarm s
  | .pwronOffReq ctx value => Sys2Proof.Machine.execPwronOffReq ctx value s
  | .jrnlDataRead ctx => Sys2Proof.Machine.execJrnlDataRead ctx s
  | .jrnlDataWrite ctx value => Sys2Proof.Machine.execJrnlDataWrite ctx value s
  | .scanGridPoint chmb => Sys2Proof.Machine.execScanGridPoint chmb s
  | .entryStart chmb src => Sys2Proof.Machine.execEntryStart chmb src s
  | .samplingStrobe chmb => Sys2Proof.Machine.execSamplingStrobe chmb s
  | .conversionDone chmb conv => Sys2Proof.Machine.execConversionDone chmb conv s
  | .scanEntrySkip chmb => Sys2Proof.Machine.execScanEntrySkip chmb s
  | .fbStrobeList chmb => Sys2Proof.Machine.execFbStrobeList chmb s
  | .tachoEdge chmb di stamp => Sys2Proof.Machine.execTachoEdge chmb di stamp s
  | .angleLockLost chmb => Sys2Proof.Machine.execAngleLockLost chmb s
  | .calRun ctx chmb => Sys2Proof.Machine.execCalRun ctx chmb s
  | .chmbSelfCalDone chmb results => Sys2Proof.Machine.execChmbSelfCalDone chmb results s
  | .calTrackUpdate chmb result => Sys2Proof.Machine.execCalTrackUpdate chmb result s
  | .servoSettled chmb => Sys2Proof.Machine.execServoSettled chmb s
  | .chmbSupplyFault chmb which => Sys2Proof.Machine.execChmbSupplyFault chmb which s
  | .chmbFaultClear chmb which => Sys2Proof.Machine.execChmbFaultClear chmb which s
  | .ssnsSample va vb vc vn => Sys2Proof.Machine.execSsnsSample va vb vc vn s
  | .ssnsWindowEnd w => Sys2Proof.Machine.execSsnsWindowEnd w s
  | .ssnsCycleEnd mHz phase => Sys2Proof.Machine.execSsnsCycleEnd mHz phase s
  | .ssnsHalfCycle a b c => Sys2Proof.Machine.execSsnsHalfCycle a b c s
  | .blackoutOn => Sys2Proof.Machine.execBlackoutOn s
  | .blackoutOff => Sys2Proof.Machine.execBlackoutOff s
  | .intgSampleAccept => Sys2Proof.Machine.execIntgSampleAccept s
  | .sampleResolve ch => Sys2Proof.Machine.execSampleResolve ch s
  | .confWinDeadline ch => Sys2Proof.Machine.execConfWinDeadline ch s
  | .noiseRun ctx value => Sys2Proof.Machine.execNoiseRun ctx value s
  | .noiseDone => Sys2Proof.Machine.execNoiseDone s
  | .pvSel ctx x value => Sys2Proof.Machine.execPvSel ctx x value s
  | .chSel ctx value => Sys2Proof.Machine.execChSel ctx value s
  | .linDataAccess ctx write value => Sys2Proof.Machine.execLinDataAccess ctx write value s
  | .galItemArrival => Sys2Proof.Machine.execGalItemArrival s
  | .galReady p => Sys2Proof.Machine.execGalReady p s
  | .galEvaluate => Sys2Proof.Machine.execGalEvaluate s
  | .galEvaluationCommit p => Sys2Proof.Machine.execGalEvaluationCommit p s
  | .galResolution p => Sys2Proof.Machine.execGalResolution p s
  | .galDelayExpiry p k => Sys2Proof.Machine.execGalDelayExpiry p k s
  | .shelfExpiry p => Sys2Proof.Machine.execShelfExpiry p s
  | .galVerdict p => Sys2Proof.Machine.execGalVerdict p s
  | .galVerdictTimeout p => Sys2Proof.Machine.execGalVerdictTimeout p s
  | .galSupChange => Sys2Proof.Machine.execGalSupChange s
  | .ackPoint x ctx value => Sys2Proof.Machine.execAckPoint x ctx value s
  | .ackGroup x ctx value => Sys2Proof.Machine.execAckGroup x ctx value s
  | .ackAll x ctx value => Sys2Proof.Machine.execAckAll x ctx value s
  | .shelve x ctx value => Sys2Proof.Machine.execShelve x ctx value s
  | .unshelve x ctx value => Sys2Proof.Machine.execUnshelve x ctx value s
  | .oosSet x ctx value => Sys2Proof.Machine.execOosSet x ctx value s
  | .oosClr x ctx value => Sys2Proof.Machine.execOosClr x ctx value s
  | .softWrite x ctx value => Sys2Proof.Machine.execSoftWrite x ctx value s
  | .cmdUnknown x ctx value => Sys2Proof.Machine.execCmdUnknown x ctx value s
  | .statSel x ctx value => Sys2Proof.Machine.execStatSel x ctx value s
  | .statTReadAutoinc x ctx => Sys2Proof.Machine.execStatTReadAutoinc x ctx s
  | .galDescriptorEffect p => Sys2Proof.Machine.execGalDescriptorEffect p s
  | .descRegionWrite ctx word value => Sys2Proof.Machine.execDescRegionWrite ctx word value s
  | .dryRunStart ctx slot value => Sys2Proof.Machine.execDryRunStart ctx slot value s
  | .dryRunEnd ctx slot value => Sys2Proof.Machine.execDryRunEnd ctx slot value s
  | .grpIngestRecord => Sys2Proof.Machine.execGrpIngestRecord s
  | .causeHoldExpiry cause => Sys2Proof.Machine.execCauseHoldExpiry cause s
  | .foWindowClose group => Sys2Proof.Machine.execFoWindowClose group s
  | .grpVerdictRequest => Sys2Proof.Machine.execGrpVerdictRequest s
  | .pointChgRx msg => Sys2Proof.Machine.execPointChgRx msg s
  | .groupFoRx msg => Sys2Proof.Machine.execGroupFoRx msg s
  | .netAckRx msg => Sys2Proof.Machine.execNetAckRx msg s
  | .syncReqRx msg => Sys2Proof.Machine.execSyncReqRx msg s
  | .syncDataRx msg => Sys2Proof.Machine.execSyncDataRx msg s
  | .syncEndRx msg => Sys2Proof.Machine.execSyncEndRx msg s
  | .nodeHbRx msg => Sys2Proof.Machine.execNodeHbRx msg s
  | .claimRx msg => Sys2Proof.Machine.execClaimRx msg s
  | .yieldRx msg => Sys2Proof.Machine.execYieldRx msg s
  | .lonievoSend => Sys2Proof.Machine.execLonievoSend s
  | .nodeHbSend => Sys2Proof.Machine.execNodeHbSend s
  | .syncReqRetry => Sys2Proof.Machine.execSyncReqRetry s
  | .syncSnapshotSend => Sys2Proof.Machine.execSyncSnapshotSend s
  | .nodeLost node => Sys2Proof.Machine.execNodeLost node s
  | .syncTmoExpiry => Sys2Proof.Machine.execSyncTmoExpiry s
  | .masterClaimWaitExpiry => Sys2Proof.Machine.execMasterClaimWaitExpiry s
  | .masterYield ctx => Sys2Proof.Machine.execMasterYield ctx s
  | .masterRejoin ctx => Sys2Proof.Machine.execMasterRejoin ctx s
  | .masterResync ctx => Sys2Proof.Machine.execMasterResync ctx s
  | .nackAckPoint x ctx value => Sys2Proof.Machine.execNackAckPoint x ctx value s
  | .nackAckGroup x ctx value => Sys2Proof.Machine.execNackAckGroup x ctx value s
  | .causeDataAccess ctx write value => Sys2Proof.Machine.execCauseDataAccess ctx write value s
  | .graphRegionWrite ctx edge value => Sys2Proof.Machine.execGraphRegionWrite ctx edge value s
  | .mirrorWriteAttempt ctx word value => Sys2Proof.Machine.execMirrorWriteAttempt ctx word value s
  | .grpRebuildDone => Sys2Proof.Machine.execGrpRebuildDone s
  | .grpSel ctx value => Sys2Proof.Machine.execGrpSel ctx value s
  | .nodeSel ctx value => Sys2Proof.Machine.execNodeSel ctx value s
  | .lsupSel ctx value => Sys2Proof.Machine.execLsupSel ctx value s
  | .echoItem => Sys2Proof.Machine.execEchoItem s
  | .echoGroupTerm => Sys2Proof.Machine.execEchoGroupTerm s
  | .echoStageEnd call => Sys2Proof.Machine.execEchoStageEnd call s
  | .callFrameStart => Sys2Proof.Machine.execCallFrameStart s
  | .callReply loop reply => Sys2Proof.Machine.execCallReply loop reply s
  | .callLineOpen loop => Sys2Proof.Machine.execCallLineOpen loop s
  | .callLineShort loop => Sys2Proof.Machine.execCallLineShort loop s
  | .callLineRetry loop => Sys2Proof.Machine.execCallLineRetry loop s
  | .callLineOk loop => Sys2Proof.Machine.execCallLineOk loop s
  | .dmPrewarn => Sys2Proof.Machine.execDmPrewarn s
  | .dmExpiry => Sys2Proof.Machine.execDmExpiry s
  | .echoAccept x ctx value => Sys2Proof.Machine.execEchoAccept x ctx value s
  | .dmResetCmd x ctx value => Sys2Proof.Machine.execDmResetCmd x ctx value s
  | .dmArmCmd x ctx value => Sys2Proof.Machine.execDmArmCmd x ctx value s
  | .dmDisarmCmd x ctx value => Sys2Proof.Machine.execDmDisarmCmd x ctx value s
  | .testCu x ctx value => Sys2Proof.Machine.execTestCu x ctx value s
  | .testCuEnd unit => Sys2Proof.Machine.execTestCuEnd unit s
  | .ecmdUnknown x ctx value => Sys2Proof.Machine.execEcmdUnknown x ctx value s
  | .loopFrameStart => Sys2Proof.Machine.execLoopFrameStart s
  | .loopFbArrival slot => Sys2Proof.Machine.execLoopFbArrival slot s
  | .loopSlotExecute slot => Sys2Proof.Machine.execLoopSlotExecute slot s
  | .loopFbDeadline slot => Sys2Proof.Machine.execLoopFbDeadline slot s
  | .loopFbResolution slot => Sys2Proof.Machine.execLoopFbResolution slot s
  | .loopOutputLatch slot => Sys2Proof.Machine.execLoopOutputLatch slot s
  | .loopCmdAuto ctx slot => Sys2Proof.Machine.execLoopCmdAuto ctx slot s
  | .loopCmdManual ctx slot => Sys2Proof.Machine.execLoopCmdManual ctx slot s
  | .loopCmdTripClr ctx slot => Sys2Proof.Machine.execLoopCmdTripClr ctx slot s
  | .gainTableWrite ctx word value => Sys2Proof.Machine.execGainTableWrite ctx word value s
  | .nvMessageSend => Sys2Proof.Machine.execNvMessageSend s
  | .diFilteredChange di mv stamp => Sys2Proof.Machine.execDiFilteredChange di mv stamp s
  | .diWireBreak di stamp => Sys2Proof.Machine.execDiWireBreak di stamp s
  | .diWireBreakClear di stamp => Sys2Proof.Machine.execDiWireBreakClear di stamp s
  | .diCounterEdge di rising stamp => Sys2Proof.Machine.execDiCounterEdge di rising stamp s
  | .diGateEnd di => Sys2Proof.Machine.execDiGateEnd di s
  | .diWake di => Sys2Proof.Machine.execDiWake di s
  | .doPwmPeriodEnd o => Sys2Proof.Machine.execDoPwmPeriodEnd o s
  | .doLevelWrite ctx value => Sys2Proof.Machine.execDoLevelWrite ctx value s
  | .aoSetWrite ctx ao value => Sys2Proof.Machine.execAoSetWrite ctx ao value s
  | .doReadbackError o => Sys2Proof.Machine.execDoReadbackError o s
  | .doReadbackOk o => Sys2Proof.Machine.execDoReadbackOk o s
  | .doProtectTrip o therm => Sys2Proof.Machine.execDoProtectTrip o therm s
  | .doFaultClear ctx o value => Sys2Proof.Machine.execDoFaultClear ctx o value s
  | .doAutoretry o => Sys2Proof.Machine.execDoAutoretry o s
  | .doOpenLoad o => Sys2Proof.Machine.execDoOpenLoad o s
  | .doOpenLoadClear o => Sys2Proof.Machine.execDoOpenLoadClear o s
  | .fioSupplyFault bank => Sys2Proof.Machine.execFioSupplyFault bank s
  | .fioSupplyFaultClear bank => Sys2Proof.Machine.execFioSupplyFaultClear bank s
  | .aoFault ao short => Sys2Proof.Machine.execAoFault ao short s
  | .aoFaultClear ao => Sys2Proof.Machine.execAoFaultClear ao s
  | .forceLockTake ctx value => Sys2Proof.Machine.execForceLockTake ctx value s
  | .forceLockRelease ctx value => Sys2Proof.Machine.execForceLockRelease ctx value s
  | .forceLockExpiry => Sys2Proof.Machine.execForceLockExpiry s
  | .doForceWrite ctx o value => Sys2Proof.Machine.execDoForceWrite ctx o value s
  | .aoForceWrite ctx ao value => Sys2Proof.Machine.execAoForceWrite ctx ao value s
  | .lantFrameBoundary => Sys2Proof.Machine.execLantFrameBoundary s
  | .lantUpdate ctx value => Sys2Proof.Machine.execLantUpdate ctx value s
  | .lantUpdateAll ctx value => Sys2Proof.Machine.execLantUpdateAll ctx value s
  | .atDataWrite ctx value => Sys2Proof.Machine.execAtDataWrite ctx value s
  | .fsDataWrite ctx value => Sys2Proof.Machine.execFsDataWrite ctx value s
  | .bistUpdateStart region => Sys2Proof.Machine.execBistUpdateStart region s
  | .bistPhaseEnd region => Sys2Proof.Machine.execBistPhaseEnd region s
  | .bistRegCmdGo ctx region value => Sys2Proof.Machine.execBistRegCmdGo ctx region value s
  | .wfDataWrite ctx value => Sys2Proof.Machine.execWfDataWrite ctx value s
  | .bistRecoveryStart => Sys2Proof.Machine.execBistRecoveryStart s
  | .bistRecoveryDone => Sys2Proof.Machine.execBistRecoveryDone s
  | .bistStaleClear => Sys2Proof.Machine.execBistStaleClear s
  | .flowRecordIn => Sys2Proof.Machine.execFlowRecordIn s
  | .flowRecordWrite => Sys2Proof.Machine.execFlowRecordWrite s
  | .flowBlockErase => Sys2Proof.Machine.execFlowBlockErase s
  | .flowRecovery => Sys2Proof.Machine.execFlowRecovery s
  | .flowRegionWrite ctx addr value => Sys2Proof.Machine.execFlowRegionWrite ctx addr value s
  | .snapTake x ctx => Sys2Proof.Machine.execSnapTake x ctx s
  | .snapRelease x ctx exported => Sys2Proof.Machine.execSnapRelease x ctx exported s
  | .snapCurWrite x ctx value => Sys2Proof.Machine.execSnapCurWrite x ctx value s
  | .clrNonce ctx => Sys2Proof.Machine.execClrNonce ctx s
  | .clrNonceExpiry => Sys2Proof.Machine.execClrNonceExpiry s
  | .clrGo ctx => Sys2Proof.Machine.execClrGo ctx s
  | .clearDone => Sys2Proof.Machine.execClearDone s
  | .ringLinkUp port => Sys2Proof.Machine.execRingLinkUp port s
  | .ringLinkDown port => Sys2Proof.Machine.execRingLinkDown port s
  | .ringFrameRx port frame => Sys2Proof.Machine.execRingFrameRx port frame s
  | .hsrSupervisionSend => Sys2Proof.Machine.execHsrSupervisionSend s
  | .nvMessageRx msg => Sys2Proof.Machine.execNvMessageRx msg s
  | .nvStale nv => Sys2Proof.Machine.execNvStale nv s
  | .nvValueWrite ctx nv value => Sys2Proof.Machine.execNvValueWrite ctx nv value s
  | .mgmtHello svc peer => Sys2Proof.Machine.execMgmtHello svc peer s
  | .mgmtRead svc peer msg => Sys2Proof.Machine.execMgmtRead svc peer msg s
  | .mgmtWrite svc peer msg => Sys2Proof.Machine.execMgmtWrite svc peer msg s
  | .mgmtNotify => Sys2Proof.Machine.execMgmtNotify s
  | .t1sPresentSend => Sys2Proof.Machine.execT1sPresentSend s
  | .t1sPresentRx plca => Sys2Proof.Machine.execT1sPresentRx plca s
  | .t1sAbsent plca => Sys2Proof.Machine.execT1sAbsent plca s
  | .t1sWakeSend ctx value => Sys2Proof.Machine.execT1sWakeSend ctx value s
  | .t1sWakeRx mask code => Sys2Proof.Machine.execT1sWakeRx mask code s
  | .canFrameRx n frame => Sys2Proof.Machine.execCanFrameRx n frame s
  | .canFrameTxDone n errors ago => Sys2Proof.Machine.execCanFrameTxDone n errors ago s
  | .canBusOff n => Sys2Proof.Machine.execCanBusOff n s
  | .canBusOffRecovery n => Sys2Proof.Machine.execCanBusOffRecovery n s
  | .canRestart ctx n => Sys2Proof.Machine.execCanRestart ctx n s
  | .serRawRecord n bytes lineErr ago => Sys2Proof.Machine.execSerRawRecord n bytes lineErr ago s
  | .serSentence n bytes parity framing ago => Sys2Proof.Machine.execSerSentence n bytes parity framing ago s
  | .serTxDone n ago => Sys2Proof.Machine.execSerTxDone n ago s
  | .spiTransferDone q rx => Sys2Proof.Machine.execSpiTransferDone q rx s
  | .pmbTransactionDone q rx nack pecOk => Sys2Proof.Machine.execPmbTransactionDone q rx nack pecOk s
  | .pmbTimeout q => Sys2Proof.Machine.execPmbTimeout q s
  | .pmbAlert level => Sys2Proof.Machine.execPmbAlert level s
  | .hostLinkLoss port => Sys2Proof.Machine.execHostLinkLoss port s
  | .hostLinkUp port => Sys2Proof.Machine.execHostLinkUp port s
  | .hostWindowAccess ctx addr write size value => Sys2Proof.Machine.execHostWindowAccess ctx addr write size value s
  | .qspiWrite port addr bytes => Sys2Proof.Machine.execQspiWrite port addr bytes s
  | .qspiRead port addr n => Sys2Proof.Machine.execQspiRead port addr n s
  | .qspiStatus port => Sys2Proof.Machine.execQspiStatus port s
  | .qspiUnknownOpcode port op => Sys2Proof.Machine.execQspiUnknownOpcode port op s
  | .qTailWrite ctx q value => Sys2Proof.Machine.execQTailWrite ctx q value s
  | .qHeadWrite ctx q value => Sys2Proof.Machine.execQHeadWrite ctx q value s
  | .dmaDescriptorStart q ring => Sys2Proof.Machine.execDmaDescriptorStart q ring s
  | .dmaBeat q ans => Sys2Proof.Machine.execDmaBeat q ans s
  | .dmaDescriptorDone q => Sys2Proof.Machine.execDmaDescriptorDone q s
  | .qResume ctx q => Sys2Proof.Machine.execQResume ctx q s
  | .qSkip ctx q => Sys2Proof.Machine.execQSkip ctx q s
  | .qStop ctx q => Sys2Proof.Machine.execQStop ctx q s
  | .eventEntryWrite ctx => Sys2Proof.Machine.execEventEntryWrite ctx s
  | .agePromotion q => Sys2Proof.Machine.execAgePromotion q s
  | .invIova ctx value => Sys2Proof.Machine.execInvIova ctx value s
  | .invDomain ctx value => Sys2Proof.Machine.execInvDomain ctx value s
  | .invAll ctx => Sys2Proof.Machine.execInvAll ctx s
  | .invDone => Sys2Proof.Machine.execInvDone s
  | .pinLock ctx value => Sys2Proof.Machine.execPinLock ctx value s
  | .ropeHeartbeatSend => Sys2Proof.Machine.execRopeHeartbeatSend s
  | .ropeHeartbeatRx crcOk hb => Sys2Proof.Machine.execRopeHeartbeatRx crcOk hb s
  | .ropeHbMiss => Sys2Proof.Machine.execRopeHbMiss s
  | .ropeInitTimeout => Sys2Proof.Machine.execRopeInitTimeout s
  | .ropeDaWindowEnd => Sys2Proof.Machine.execRopeDaWindowEnd s
  | .ropeFenceTestPulse => Sys2Proof.Machine.execRopeFenceTestPulse s
  | .ropeFenceSeen => Sys2Proof.Machine.execRopeFenceSeen s
  | .ropeLinkUp => Sys2Proof.Machine.execRopeLinkUp s
  | .ropeLinkDown => Sys2Proof.Machine.execRopeLinkDown s
  | .ropeMirrorSend => Sys2Proof.Machine.execRopeMirrorSend s
  | .ropeMirrorRx crcOk mseq recs => Sys2Proof.Machine.execRopeMirrorRx crcOk mseq recs s
  | .ropeMirrorResend => Sys2Proof.Machine.execRopeMirrorResend s
  | .ropeSnapRx crcOk mseq recs => Sys2Proof.Machine.execRopeSnapRx crcOk mseq recs s
  | .ropeShadowSend => Sys2Proof.Machine.execRopeShadowSend s
  | .ropeShadowRx crcOk msg => Sys2Proof.Machine.execRopeShadowRx crcOk msg s
  | .ropeHealthSend => Sys2Proof.Machine.execRopeHealthSend s
  | .ropeHealthRx crcOk bytes => Sys2Proof.Machine.execRopeHealthRx crcOk bytes s
  | .ropeSelftestCycle step => Sys2Proof.Machine.execRopeSelftestCycle step s
  | .ropeHandover ctx => Sys2Proof.Machine.execRopeHandover ctx s
  | .ropeFenceCmd ctx => Sys2Proof.Machine.execRopeFenceCmd ctx s
  | .ropeResync ctx => Sys2Proof.Machine.execRopeResync ctx s
  | .chmbRefCheck ctx chmb => Sys2Proof.Machine.execChmbRefCheck ctx chmb s
  | .chmbSrcCheck ctx chmb => Sys2Proof.Machine.execChmbSrcCheck ctx chmb s
  | .ssnsRefCheck ctx => Sys2Proof.Machine.execSsnsRefCheck ctx s
  | .intgStoreScrub ctx => Sys2Proof.Machine.execIntgStoreScrub ctx s
  | .galDescScan ctx => Sys2Proof.Machine.execGalDescScan ctx s
  | .grpGraphScan ctx => Sys2Proof.Machine.execGrpGraphScan ctx s
  | .echoLineCheck ctx => Sys2Proof.Machine.execEchoLineCheck ctx s
  | .loopArith ctx => Sys2Proof.Machine.execLoopArith ctx s
  | .fioWbCheck ctx => Sys2Proof.Machine.execFioWbCheck ctx s
  | .lantLamp ctx => Sys2Proof.Machine.execLantLamp ctx s
  | .bistSweep ctx => Sys2Proof.Machine.execBistSweep ctx s
  | .flowWriteTest ctx => Sys2Proof.Machine.execFlowWriteTest ctx s
  | .netPhyLoop ctx => Sys2Proof.Machine.execNetPhyLoop ctx s
  | .ropeFenceTest ctx => Sys2Proof.Machine.execRopeFenceTest ctx s
  | .blockTestDone unit pass => Sys2Proof.Machine.execBlockTestDone unit pass s
  | .injTimeExpiry => Sys2Proof.Machine.execInjTimeExpiry s
  | .dbgAttach app => Sys2Proof.Machine.execDbgAttach app s
  | .vcolFault ok => Sys2Proof.Machine.execVcolFault ok s
  | .driveFault level => Sys2Proof.Machine.execDriveFault level s
  | .svcLinkChange up => Sys2Proof.Machine.execSvcLinkChange up s
  | .appHalt halt => Sys2Proof.Machine.execAppHalt halt s
  | .dbgDetach => Sys2Proof.Machine.execDbgDetach s

end Sys2Proof.Machine
end

