-- ==== Sys2Proof/Machine/Step.lean ====
section
/-! DEFINITION. One step: the command at the front of the queue has its effect; on an empty queue time passes. -/
namespace Sys2Proof.Machine

/-- One step. The queue is first in, first out; the command runs with the rest of the queue. On an empty queue one 8 ns clock period
passes: uptime and TIME64 advance (R88), and a dry run is served at a Gallery tick (R209; log entry 5). -/
def step (s : State) : Host.Outcome State Fault Refusal :=
  match s.pending with
  | [] => done (galDryTick (tick s))
  | c :: rest => exec c { s with pending := rest }

/-- The state with the command that a word spells at the front of its queue; no word spells one. -/
def State.withFetchWord (s : State) (nbits w : Nat) : State :=
  match decodeTableWord nbits w with
  | some c => { s with pending := c :: s.pending }
  | none => s

end Sys2Proof.Machine
end

