-- ==== Sys2Proof/Safety.lean ====
section
/-! DEFINITION. The terms in which statements speak: when an access of a context reaches a page, what a settled state is, what a safe
step is. -/
namespace Sys2Proof.Machine

/-- An access of a context reaches a unit: its path runs, the page is present and powered (R4, R65, R66). -/
def reaches (s : State) (c : Ctx) (u : Nat) : Bool := pathOk s c && present s u && unitOn s u

/-- An access of the context that owns the unit reaches it (R71). -/
def owns (s : State) (c : Ctx) (u : Nat) : Bool := reaches s c u && decide ((hdr s u).owner = c)

/-- A read by a context that may read the block-specific registers reaches the unit (R71). -/
def mayRd (s : State) (c : Ctx) (u : Nat) : Bool :=
  reaches s c u && (decide ((hdr s u).owner = c) || (hdr s u).readMask.getLsbD c.toNat)

/-- The interrupts of the state are settled (R76, R77, R382, R408, R433): what is on record as asserted toward PCIE_0 and PCIE_1 is what
is asserted, and a NOTIFY is on record only while CTX_PEND_6 is not zero. -/
def Settled (s : State) : Prop :=
  s.msi0 = vectorsOf s 0 ∧ s.msi1 = vectorsOf s 1 ∧ (s.net.notified = true → ctxPend s 6#3 ≠ 0)

/-- A step that is safe: it answers a next state, neither a fault nor a refusal. -/
def SafeStep (s : State) : Prop := ∃ t, step s = .next t

/-- The commands that write a register which only the owner of its unit writes (R71): the context, the unit, the register's offset. -/
def ownerOnly : Instr → Option (Ctx × Nat × Nat)
  | .pstateReqRun c => some (c, lPWR, 0x10C)
  | .pstateReqDoze c => some (c, lPWR, 0x10C)
  | .pstateReqSleep c => some (c, lPWR, 0x10C)
  | .wdtKick c _ => some (c, lPWR, 0x128)
  | .sysokKick c _ => some (c, lPWR, 0x12C)
  | .degrDeclare c => some (c, lPWR, 0x138)
  | .bootConfirm c => some (c, lPWR, 0x144)
  | .appHoldSet c => some (c, lPWR, 0x120)
  | .appHoldRelease c => some (c, lPWR, 0x120)
  | .lcReqProvisioned c => some (c, lPWR, 0x148)
  | .lcReqOperational c => some (c, lPWR, 0x148)
  | .lcReqService c => some (c, lPWR, 0x148)
  | .lcReqRetired c => some (c, lPWR, 0x148)
  | .applyCommit c u => some (c, u.toNat, applyOff u.toNat)
  | .applyDiscard c u => some (c, u.toNat, applyOff u.toNat)
  | .applyBadKey c u _ => some (c, u.toNat, applyOff u.toNat)
  | .liveSet c u => some (c, u.toNat, 0x08)
  | .liveClear c u => some (c, u.toNat, 0x08)
  | .blkEnable c u => some (c, u.toNat, 0x08)
  | .blkDisable c u => some (c, u.toNat, 0x08)
  | .softReset c u => some (c, u.toNat, 0x08)
  | .freezeRequest c u => some (c, u.toNat, 0x08)
  | .freezeClear c u => some (c, u.toNat, 0x08)
  | .irqClrWrite c u _ => some (c, u.toNat, 0x1C)
  | .ptpStep c _ => some (c, lPTP, 0x108)
  | .calSetSec c _ => some (c, lGROT, 0x118)
  | .wdaySet c _ => some (c, lGROT, 0x11C)
  | .pwronOffReq c _ => some (c, lGROT, 0x134)
  | .jrnlDataWrite c _ => some (c, lGROT, 0x13C)
  | .calRun c k => some (c, lCHMB k.toNat, 0x118)
  | .noiseRun c _ => some (c, lINTG, 0x118)
  | .chSel c _ => some (c, lINTG, 0x104)
  | .linDataAccess c true _ => some (c, lINTG, 0x10C)
  | .dryRunStart c n _ => some (c, lGAL, 0x140 + 4 * n.toNat)
  | .dryRunEnd c n _ => some (c, lGAL, 0x140 + 4 * n.toNat)
  | .masterYield c => some (c, lGRP, 0x12C)
  | .masterRejoin c => some (c, lGRP, 0x12C)
  | .masterResync c => some (c, lGRP, 0x12C)
  | .causeDataAccess c true _ => some (c, lGRP, 0x128)
  | .grpSel c _ => some (c, lGRP, 0x160)
  | .nodeSel c _ => some (c, lGRP, 0x188)
  | .lsupSel c _ => some (c, lGRP, 0x198)
  | .loopCmdAuto c n => some (c, uSLOT n.toNat, 0xA4)
  | .loopCmdManual c n => some (c, uSLOT n.toNat, 0xA4)
  | .loopCmdTripClr c n => some (c, uSLOT n.toNat, 0xA4)
  | .doLevelWrite c _ => some (c, lFIO, 0x120)
  | .aoSetWrite c n _ => some (c, lFIO, 0x504 + 16 * n.toNat)
  | .doFaultClear c n _ => some (c, lFIO, 0x30C + 16 * n.toNat)
  | .lantUpdate c _ => some (c, lLANT, 0x10C)
  | .lantUpdateAll c _ => some (c, lLANT, 0x10C)
  | .atDataWrite c _ => some (c, lLANT, 0x11C)
  | .fsDataWrite c _ => some (c, lLANT, 0x124)
  | .bistRegCmdGo c r _ => some (c, lBIST, 0x214 + 32 * r.toNat)
  | .wfDataWrite c _ => some (c, lBIST, 0x110)
  | .nvValueWrite c v _ => some (c, lNET, 0x400 + 4 * v.toNat)
  | .t1sWakeSend c _ => some (c, lNET, 0x158)
  | .canRestart c n => some (c, lCAN n.val, 0x110)
  | .qTailWrite c q _ => some (c, uQUEUE q.toNat, 0x20)
  | .qHeadWrite c q _ => some (c, uQUEUE q.toNat, 0x24)
  | .qResume c q => some (c, uQUEUE q.toNat, 0x2C)
  | .qSkip c q => some (c, uQUEUE q.toNat, 0x2C)
  | .qStop c q => some (c, uQUEUE q.toNat, 0x2C)
  | .invIova c _ => some (c, lIOMMU, 0x200)
  | .invDomain c _ => some (c, lIOMMU, 0x200)
  | .invAll c => some (c, lIOMMU, 0x200)
  | .ropeHandover c => some (c, lROPE, 0x108)
  | .ropeFenceCmd c => some (c, lROPE, 0x108)
  | .ropeResync c => some (c, lROPE, 0x108)
  | .chmbRefCheck c k => some (c, lCHMB k.toNat, 0x30)
  | .chmbSrcCheck c k => some (c, lCHMB k.toNat, 0x30)
  | .ssnsRefCheck c => some (c, lSSNS, 0x30)
  | .intgStoreScrub c => some (c, lINTG, 0x30)
  | .galDescScan c => some (c, lGAL, 0x30)
  | .grpGraphScan c => some (c, lGRP, 0x30)
  | .echoLineCheck c => some (c, lECHO, 0x30)
  | .loopArith c => some (c, lLOOP, 0x30)
  | .fioWbCheck c => some (c, lFIO, 0x30)
  | .lantLamp c => some (c, lLANT, 0x30)
  | .bistSweep c => some (c, lBIST, 0x30)
  | .flowWriteTest c => some (c, lFLOW, 0x30)
  | .netPhyLoop c => some (c, lNET, 0x30)
  | .ropeFenceTest c => some (c, lROPE, 0x30)
  | _ => none

/-- The commands that write a register of a block which only CTX_x writes, whoever owns the page (R181, R202, R241, R267, R361): CTX_x, the
context of the access, the unit, the register's offset. -/
def blockOnly : Instr → Option (Ctx × Ctx × Nat × Nat)
  | .pvSel x c _ => some (x, c, lINTG, 0x200 + 0x20 * x.toNat)
  | .ackPoint x c _ => some (x, c, lGAL, 0x210 + 0x40 * x.toNat)
  | .ackGroup x c _ => some (x, c, lGAL, 0x210 + 0x40 * x.toNat)
  | .ackAll x c _ => some (x, c, lGAL, 0x210 + 0x40 * x.toNat)
  | .shelve x c _ => some (x, c, lGAL, 0x210 + 0x40 * x.toNat)
  | .unshelve x c _ => some (x, c, lGAL, 0x210 + 0x40 * x.toNat)
  | .oosSet x c _ => some (x, c, lGAL, 0x210 + 0x40 * x.toNat)
  | .oosClr x c _ => some (x, c, lGAL, 0x210 + 0x40 * x.toNat)
  | .softWrite x c _ => some (x, c, lGAL, 0x210 + 0x40 * x.toNat)
  | .cmdUnknown x c _ => some (x, c, lGAL, 0x210 + 0x40 * x.toNat)
  | .statSel x c _ => some (x, c, lGAL, 0x218 + 0x40 * x.toNat)
  | .nackAckPoint x c _ => some (x, c, lGRP, 0x200 + 0x20 * x.toNat)
  | .nackAckGroup x c _ => some (x, c, lGRP, 0x200 + 0x20 * x.toNat)
  | .echoAccept x c _ => some (x, c, lECHO, 0x200 + 0x10 * x.toNat)
  | .dmResetCmd x c _ => some (x, c, lECHO, 0x200 + 0x10 * x.toNat)
  | .dmArmCmd x c _ => some (x, c, lECHO, 0x200 + 0x10 * x.toNat)
  | .dmDisarmCmd x c _ => some (x, c, lECHO, 0x200 + 0x10 * x.toNat)
  | .testCu x c _ => some (x, c, lECHO, 0x200 + 0x10 * x.toNat)
  | .ecmdUnknown x c _ => some (x, c, lECHO, 0x200 + 0x10 * x.toNat)
  | .snapTake x c => some (x, c, lFLOW, 0x200 + 0x40 * x.toNat)
  | .snapRelease x c _ => some (x, c, lFLOW, 0x200 + 0x40 * x.toNat)
  | .snapCurWrite x c _ => some (x, c, lFLOW, 0x218 + 0x40 * x.toNat)
  | _ => none

/-- The state after `n` steps on an empty queue; none where one of them does not answer a next state. -/
def idle : Nat → State → Option State
  | 0, s => some s
  | n + 1, s => match step s with | .next t => idle n t | _ => none

end Sys2Proof.Machine
end

