-- ==== Sys2Proof/WellFormed.lean ====
section
/-! DEFINITION. Which operands a command has: the checks that a term of `Instr` must pass to be a command at all. Every other operand
value is one that the command's type admits whole. -/
namespace Sys2Proof

/-- A unit with a header or a sub-header (R63, R64). -/
def wfUnit (u : BitVec 8) : Bool := Machine.unitOk u.toNat

/-- A page, by its interrupt line (R63). -/
def wfPage (u : BitVec 6) : Bool := decide (u.toNat ≤ 44)

/-- One supply-sense window: 3 times 49 harmonics (R150). -/
def wfWindow (w : SsnsWindow) : Bool := decide (w.harm.length = 147)

/-- A CAN frame whose data have the length its DLC gives (R390). -/
def wfCan (f : CanFrame) : Bool := decide (f.data.length = Machine.canDataLen f)

/-- A raw serial record holds 1 to 256 bytes (R392). -/
def wfRaw (b : List Byte) : Bool := !b.isEmpty && decide (b.length ≤ 256)

/-- Does the term spell a command? -/
def Instr.wf : Instr → Bool
  | .bootConfigLoad d _ _ => decide (1200 ≤ d.toNat) && decide (d.toNat ≤ 10000)
  | .deviceFault c l _ => decide (1 ≤ c.toNat) && decide (c.toNat ≤ 8) && wfPage l
  | .pinnedGrantTimeout l _ => wfPage l
  | .applyCommit _ u => wfUnit u
  | .applyDiscard _ u => wfUnit u
  | .applyBadKey _ u k => wfUnit u && decide (k ≠ 0xA5#8) && decide (k ≠ 0x5A#8)
  | .applyBoundary u => wfUnit u
  | .ownerWrite _ u _ => wfUnit u
  | .ownerLock _ u _ => wfUnit u
  | .liveSet _ u => wfPage u
  | .liveClear _ u => wfPage u
  | .blkEnable _ u => wfPage u
  | .blkDisable _ u => wfPage u
  | .softReset _ u => wfPage u
  | .softResetDone u => wfPage u
  | .freezeRequest _ u => wfPage u
  | .freezeReached u => wfPage u
  | .freezeClear _ u => wfPage u
  | .irqClrWrite _ u _ => wfPage u
  | .ssnsWindowEnd w => wfWindow w
  | .canFrameRx _ f => wfCan f
  | .serRawRecord _ b _ _ => wfRaw b
  | .hostWindowAccess c _ _ n _ => decide (2 ≤ c.toNat) && decide (c.toNat ≤ 5) && decide (1 ≤ n.toNat) && decide (n.toNat ≤ 8)
  | .qspiRead _ _ n => decide (n < 64)
  | .qspiUnknownOpcode _ o => decide (o ≠ 0x02#8) && decide (o ≠ 0x0B#8) && decide (o ≠ 0x05#8)
  | _ => true

end Sys2Proof
end

