-- ==== Sys2Proof/Certificates/Slice0/Obligations.lean ====
section
/-! DEFINITION. The statements for the provers. The statements `...Complete` say, command by command, in which states and for which
operands the command has its own effect, and the whole state that it then leaves; `settle` is the settling of interrupts that ends every
command (`EveryStepSettlesInterrupts`). -/
open Sys2Proof Sys2Proof.Machine

/-- R43 to R45, R49: each change of a supply flag is one event, and loss and return of the supply; SUPPLY_DIP, SUPPLY_DIP_CLEAR, SUPPLY_OVER,
SUPPLY_OVER_CLEAR, HOLD_READY, HOLD_FAULT, VIN_GOOD, SUPPLY_FAIL, RIDE_THROUGH_RECOVERY, RIDE_THROUGH_END, POWER_FAIL_COMPLETE, VHOLD_EXHAUSTED. -/
def Obligations.SupplyCommandsComplete : Prop :=
  (∀ (s : State) (m : Word), domOn s dAON = true → s.pwr.dip = false →
    exec (.supplyDip m) s = .next (settle (supplyEvent { s with pwr := { s.pwr with meas := m, dip := true } } 0 true))) ∧
  (∀ (s : State) (m : Word), domOn s dAON = true → s.pwr.dip = true →
    exec (.supplyDipClear m) s = .next (settle (supplyEvent { s with pwr := { s.pwr with meas := m, dip := false } } 0 false))) ∧
  (∀ (s : State) (m : Word), domOn s dAON = true → s.pwr.overV = false →
    exec (.supplyOver m) s = .next (settle (supplyEvent { s with pwr := { s.pwr with meas := m, overV := true } } 2 true))) ∧
  (∀ (s : State) (m : Word), domOn s dAON = true → s.pwr.overV = true →
    exec (.supplyOverClear m) s = .next (settle (supplyEvent { s with pwr := { s.pwr with meas := m, overV := false } } 2 false))) ∧
  (∀ (s : State) (m : Word), domOn s dAON = true →
    exec (.holdReady m) s = .next (settle (bistRefreshAll { s with pwr := { s.pwr with meas := m, holdReady := true } }))) ∧
  (∀ (s : State) (m : Word), domOn s dAON = true → s.pwr.holdFault = false →
    exec (.holdFault m) s = .next (settle (send { s with pwr := { s.pwr with meas := m, holdFault := true } } lPWR lGAL
      (.item { srcType := 4#3, idx := 3#9, value := f32One, stamp := time64 s })))) ∧
  (∀ (s : State) (m : Word), s.pwr.phase = .off →
    exec (.vinGood m) s = .next (settle (startVin { s with pwr := { s.pwr with meas := m, vinGood := true, upAt := s.now } }))) ∧
  (∀ (s : State) (m : Word), s.pwr.phase = .powerFail → s.pwr.fail = true →
    exec (.vinGood m) s = .next (settle (supplyEvent
      { s with pwr := { s.pwr with meas := m, vinGood := true, fail := false, vinAgain := true } } 1 false))) ∧
  (∀ (s : State) (m : Word), powered s = true → s.pwr.fail = false →
    (cfgBit s lPWR 0x108 8 = false ∨ cfg s lPWR 0x108 5 0 = 0) →
    exec (.supplyFail m) s = .next (settle (beginPowerFail
      (supplyEvent { s with pwr := { s.pwr with meas := m, fail := true, vinGood := false } } 1 true)))) ∧
  (∀ (s : State) (m : Word), powered s = true → s.pwr.fail = false →
    cfgBit s lPWR 0x108 8 = true → cfg s lPWR 0x108 5 0 ≠ 0 →
    exec (.supplyFail m) s = .next (settle (beginRideThrough
      (supplyEvent { s with pwr := { s.pwr with meas := m, fail := true, vinGood := false } } 1 true)))) ∧
  (∀ (s : State) (m : Word), powered s = true → s.pwr.fail = true →
    exec (.rideThroughRecovery m) s = .next (settle (recoverSupply { s with pwr := { s.pwr with meas := m } }))) ∧
  (∀ s : State, powered s = true → s.pwr.fail = true → exec .rideThroughEnd s = .next (settle (beginPowerFail s))) ∧
  (∀ s : State, s.pwr.phase = .powerFail → s.pwr.vinAgain = false →
    exec .powerFailComplete s = .next (settle (goOff (journalPowerFail (finishPhases s))))) ∧
  (∀ s : State, s.pwr.phase = .powerFail → s.pwr.vinAgain = true →
    let t := goOff (journalPowerFail (finishPhases s))
    exec .powerFailComplete s = .next (settle (startVin { t with pwr := { t.pwr with vinGood := true, upAt := t.now } }))) ∧
  (∀ (s : State) (m : Word), s.pwr.fail = true ∨ s.pwr.phase = .powerFail →
    exec (.vholdExhausted m) s = .next (settle (goOff { s with pwr := { s.pwr with meas := m } })))

/-- R48 to R54: the start-up timeline; SRAM_WIPE_DONE, DRAM_WIPE_DONE, BOOT_SAFETY_IMAGE_VERIFY, BOOT_APP_RELEASE, BOOT_CONFIRM,
APP_HOLD_SET, APP_HOLD_RELEASE, APP_TRIAL_VERIFY_DONE. -/
def Obligations.BootCommandsComplete : Prop :=
  (∀ s : State, wiping s = true → s.pwr.sramWiped = false →
    exec .sramWipeDone s = .next (settle { s with mem := mwipe s.mem 0x20000000 0x20400000, pwr := { s.pwr with sramWiped := true } })) ∧
  (∀ s : State, wiping s = true → s.pwr.dramWiped = false →
    exec .dramWipeDone s = .next (settle { s with mem := mwipe s.mem 0x80000000 0xBC000000, pwr := { s.pwr with dramWiped := true } })) ∧
  (∀ s : State, s.pwr.phase = .boot → s.pwr.sramWiped = true → s.pwr.safeRunning = false → s.pwr.lcState ≠ 0#3 → s.pwr.byWake = false →
    (s.pwr.bootPending = false → imageOk s (slotBase s.pwr.activeSlot) false = true →
      exec .bootSafetyImageVerify s = .next (settle { s with pwr := { s.pwr with slot := s.pwr.activeSlot, trial := false, safeRunning := true } })) ∧
    (s.pwr.bootPending = true → imageOk s (slotBase (!s.pwr.activeSlot)) false = true →
      exec .bootSafetyImageVerify s = .next (settle { s with pwr := { s.pwr with
        bootPending := false, trialFail := false, trialApp := false, slot := !s.pwr.activeSlot, trial := true, safeRunning := true } })) ∧
    (s.pwr.bootPending = false → imageOk s (slotBase s.pwr.activeSlot) false = false → imageOk s (slotBase (!s.pwr.activeSlot)) false = true →
      exec .bootSafetyImageVerify s = .next (settle { s with pwr := { s.pwr with slot := !s.pwr.activeSlot, trial := false, safeRunning := true } })) ∧
    (s.pwr.bootPending = false → imageOk s (slotBase s.pwr.activeSlot) false = false → imageOk s (slotBase (!s.pwr.activeSlot)) false = false →
      exec .bootSafetyImageVerify s = .next (settle { s with pwr := { s.pwr with phase := .recovery } }))) ∧
  (∀ s : State, s.pwr.phase = .boot ∨ s.pwr.phase = .run → s.pwr.cfgLoaded = true → s.pwr.appReleased = false → s.pwr.fail = false →
    s.pwr.pstate ≠ .doze →
    exec .bootAppRelease s = .next (settle { s with pwr := { s.pwr with
      doms := s.pwr.doms ||| domsLast s, appReleased := true, appRunning := !cfgBit s lPWR 0x120 0 } })) ∧
  (∀ (s : State) (c : Ctx), owns s c lPWR = true → s.pwr.trial = false → exec (.bootConfirm c) s = .next (settle s)) ∧
  (∀ (s : State) (c : Ctx), owns s c lPWR = true → s.pwr.trial = true → s.pwr.trialApp = false →
    s.otp.rollback.toNat < mgetLE s.mem (slotBase s.pwr.slot + 8) 4 →
    exec (.bootConfirm c) s = .next (settle { s with
      pwr := { s.pwr with activeSlot := s.pwr.slot, trial := false, trialApp := false },
      otp := { s.otp with rollback := BitVec.ofNat 16 (mgetLE s.mem (slotBase s.pwr.slot + 8) 4) } })) ∧
  (∀ (s : State) (c : Ctx), owns s c lPWR = true →
    let t := appStop (setFld s lPWR 0x120 0 0 1)
    exec (.appHoldSet c) s = .next (settle { t with pwr := { t.pwr with appVerify := false } })) ∧
  (∀ (s : State) (c : Ctx), owns s c lPWR = true → cfgBit s lPWR 0x120 0 = true → cfgBit s lPWR 0x144 2 = true →
    exec (.appHoldRelease c) s = .next (settle { setFld s lPWR 0x120 0 0 0 with pwr := { s.pwr with appVerify := true } })) ∧
  (∀ (s : State) (c : Ctx), owns s c lPWR = true → cfgBit s lPWR 0x120 0 = true → cfgBit s lPWR 0x144 2 = false →
    exec (.appHoldRelease c) s = .next (settle { setFld s lPWR 0x120 0 0 0 with pwr := { s.pwr with
      appRunning := domOn s dAPP, trial := s.pwr.trial && !s.pwr.trialApp, trialApp := false } })) ∧
  (∀ s : State, s.pwr.appVerify = true →
    (imageOk s (slotBase (!s.pwr.activeSlot)) false = false ∨
      safetyPayload s (!s.pwr.activeSlot) ≠ safetyPayload s s.pwr.slot) →
    exec .appTrialVerifyDone s = .next (settle { setFld s lPWR 0x144 2 2 0 with pwr := { s.pwr with
      appVerify := false, appRunning := domOn s dAPP && !cfgBit s lPWR 0x120 0, trial := s.pwr.trial && !s.pwr.trialApp,
      trialApp := false, trialFail := true } })) ∧
  (∀ s : State, s.pwr.appVerify = true → imageOk s (slotBase (!s.pwr.activeSlot)) false = true →
    safetyPayload s (!s.pwr.activeSlot) = safetyPayload s s.pwr.slot →
    exec .appTrialVerifyDone s = .next (settle { setFld s lPWR 0x144 2 2 0 with pwr := { s.pwr with
      appVerify := false, appRunning := domOn s dAPP && !cfgBit s lPWR 0x120 0, trial := true,
      trialApp := !(s.pwr.trial && !s.pwr.trialApp), trialFail := false } }))

/-- R46, R47: PSTATE_REQ_RUN, PSTATE_REQ_DOZE, PSTATE_REQ_SLEEP, POWER_STATE_TRANSITION_DONE. A request for Sleep while a point or Echo is
busy sets REFUSED. -/
def Obligations.PowerStateCommandsComplete : Prop :=
  (∀ (s : State) (c : Ctx), owns s c lPWR = true → s.pwr.pstate = .doze →
    exec (.pstateReqRun c) s = .next (settle { setReg s lPWR 0x10C 0#32 with pwr := { s.pwr with refused := false, goal := some .run } })) ∧
  (∀ (s : State) (c : Ctx), owns s c lPWR = true → s.pwr.pstate = .run →
    exec (.pstateReqDoze c) s = .next (settle { setReg s lPWR 0x10C 1#32 with pwr := { s.pwr with refused := false, goal := some .doze } })) ∧
  (∀ (s : State) (c : Ctx), owns s c lPWR = true → s.pwr.pstate = .run → pointBusy s = false → echoBusy s = false →
    exec (.pstateReqSleep c) s = .next (settle { setReg s lPWR 0x10C 2#32 with pwr := { s.pwr with refused := false, goal := some .sleep } })) ∧
  (∀ (s : State) (c : Ctx), owns s c lPWR = true → pointBusy s = true ∨ echoBusy s = true →
    exec (.pstateReqSleep c) s = .next (settle { setReg s lPWR 0x10C 2#32 with pwr := { s.pwr with refused := true } })) ∧
  (∀ s : State, s.pwr.phase = .run ∨ s.pwr.phase = .boot → s.pwr.goal = some .doze →
    exec .powerStateTransitionDone s = .next (settle (enterDoze s))) ∧
  (∀ s : State, s.pwr.phase = .run ∨ s.pwr.phase = .boot → s.pwr.goal = some .run → s.pwr.fail = false → s.pwr.appReleased = true →
    exec .powerStateTransitionDone s = .next (settle (chmResume { s with pwr := { s.pwr with
      doms := s.pwr.doms ||| 0x0004#16, pstate := .run, goal := none, appRunning := !cfgBit s lPWR 0x120 0 } }))) ∧
  (∀ s : State, s.pwr.phase = .run ∨ s.pwr.phase = .boot → s.pwr.goal = some .sleep →
    ∃ t, exec .powerStateTransitionDone s = .next (settle t) ∧ t.pwr.phase = .run ∧ t.pwr.pstate = .sleep ∧ t.pwr.doms = domsAlways ∧
      t.echo = { State.reset.echo with dm := s.echo.dm } ∧ t.ptp = { State.reset.ptp with ppsIn := s.ptp.ppsIn } ∧
      t.net = { State.reset.net with t1sCfg := s.net.t1sCfg, t1sCode := s.net.t1sCode, t1sNode := s.net.t1sNode, present := s.net.present } ∧
      { t with 
        pending := [], now := 0, fresh := 0, mem := [], otp := {}, out := [], grot := {}, act := [], clk := {}, ptp := {}, bist := {}, flow := {}, pwr := {},
        echo := {}, fio := { t.fio with wakeEn := State.reset.fio.wakeEn }, net := {} } = State.reset)

/-- R55: the reset sources; RST_N_LOW, FENCE_IN_RESET, RESET_RELEASE, WDT_TIMEOUT, SW_RESET. What a module reset leaves: `ModuleResetEffect`. -/
def Obligations.ResetCommandsComplete : Prop :=
  (∀ s : State, s.pwr.phase ≠ .off →
    exec .rstNLow s = .next (settle { moduleReset s causeExt with pwr := { (moduleReset s causeExt).pwr with rstN := true } })) ∧
  (∀ s : State, s.pwr.phase ≠ .off →
    exec .fenceInReset s = .next (settle { moduleReset s causeFence with pwr := { (moduleReset s causeFence).pwr with fenceIn := true } })) ∧
  (∀ s : State, wdtRuns s = true → s.pwr.trial = false → exec .wdtTimeout s = .next (settle (moduleReset s causeWdt))) ∧
  (∀ s : State, wdtRuns s = true → s.pwr.trial = true →
    exec .wdtTimeout s = .next (settle (moduleReset { s with pwr := { s.pwr with trialFail := true } } causeWdt))) ∧
  (∀ s : State, reaches s 0#3 lPWR = true → exec (.swReset 0#3 0x5A5A#32) s = .next (settle (moduleReset s causeSoft))) ∧
  (∀ (s : State) (v : Word), reaches s 0#3 lPWR = true → v ≠ 0x5A5A#32 → exec (.swReset 0#3 v) s = .next (settle s)) ∧
  (∀ s : State, s.pwr.phase = .inReset →
    exec .resetRelease s = .next (settle (start { s with pwr := { s.pwr with rstN := false, fenceIn := false, upAt := s.now } } false)))

/-- R45, R55: what a module reset leaves; in a power-fail sequence, which always runs to its end, it leaves its cause alone. RST_CAUSE keeps its bits and gains the cause, PD_BACKUP and PD_AON stay on, the Grotto's retained fields stay, and
every piece of state that is not named here is at its reset value. -/
def Obligations.ModuleResetEffect : Prop :=
  (∀ (s : State) (c : BitVec 7), s.pwr.phase = .powerFail →
    moduleReset s c = { s with pwr := { s.pwr with rstCause := s.pwr.rstCause ||| c } }) ∧
  ∀ (s : State) (c : BitVec 7), s.pwr.phase ≠ .powerFail →
    let t := moduleReset s c
    t.pwr.phase = .inReset ∧ t.pwr.rstCause = s.pwr.rstCause ||| c ∧ t.pwr.doms = domsAlways ∧ t.act = s.act.filter (fun e => grotRetained e.1) ∧
    t.ptp = { State.reset.ptp with ppsIn := s.ptp.ppsIn } ∧ t.otp = s.otp ∧ t.pending = s.pending ∧ t.now = s.now ∧ t.pwr.lcState = s.pwr.lcState ∧ t.pwr.degraded = false ∧ t.pwr.released = false ∧
    { t with
      pending := [], now := 0, fresh := 0, mem := [], otp := {}, out := [], grot := {}, act := [], clk := {}, ptp := {}, bist := {}, flow := {}, pwr := {} } = State.reset

/-- R56 to R59, R422, R495: the two service timers, and degraded mode; WDT_KICK, SYSOK_KICK, SYSOK_KICK_TIMEOUT, DEVICE_FAULT, DEGR_DECLARE,
PINNED_GRANT_TIMEOUT, DEGR_HOLD_EXPIRY, CORE_BUS_ERROR. CORE_BUS_ERROR changes nothing outside the core. -/
def Obligations.TimerAndDegradedCommandsComplete : Prop :=
  (∀ (s : State) (c : Ctx), owns s c lPWR = true → s.pwr.wdtExpectA5 = false →
    exec (.wdtKick c 0x5A5A#32) s = .next (settle { s with pwr := { s.pwr with wdtExpectA5 := true, wdtAt := s.now, wdtMs := cfg s lPWR 0x124 9 0 } })) ∧
  (∀ (s : State) (c : Ctx), owns s c lPWR = true → s.pwr.wdtExpectA5 = true →
    exec (.wdtKick c 0xA5A5#32) s = .next (settle { s with pwr := { s.pwr with wdtExpectA5 := false, wdtAt := s.now, wdtMs := cfg s lPWR 0x124 9 0 } })) ∧
  (∀ (s : State) (c : Ctx) (v : Word), owns s c lPWR = true → v ≠ (if s.pwr.wdtExpectA5 then 0xA5A5#32 else 0x5A5A#32) →
    exec (.wdtKick c v) s = .next (settle (wdtReset s))) ∧
  (∀ (s : State) (c : Ctx), owns s c lPWR = true → s.pwr.sysokExpectA5 = false → s.pwr.sysokKicks = 0 →
    exec (.sysokKick c 0x5A5A#32) s = .next (settle { s with pwr := { s.pwr with sysokExpectA5 := true, sysokKicks := 1, sysokAt := s.now } })) ∧
  (∀ (s : State) (c : Ctx), owns s c lPWR = true → s.pwr.sysokExpectA5 = true → s.pwr.sysokKicks = 1 → s.pwr.released = true →
    s.pwr.phase = .run → s.pwr.degraded = false →
    exec (.sysokKick c 0xA5A5#32) s = .next (settle { s with pwr := { s.pwr with
      sysokExpectA5 := false, sysokKicks := 2, sysokAt := s.now, sysokOn := true } })) ∧
  (∀ (s : State) (c : Ctx) (v : Word), owns s c lPWR = true → v ≠ (if s.pwr.sysokExpectA5 then 0xA5A5#32 else 0x5A5A#32) →
    exec (.sysokKick c v) s = .next (settle { s with pwr := { s.pwr with sysokOn := false, sysokExpectA5 := false, sysokKicks := 0 } })) ∧
  (∀ s : State, s.pwr.sysokOn = true →
    exec .sysokKickTimeout s = .next (settle { s with pwr := { s.pwr with sysokOn := false, sysokExpectA5 := false, sysokKicks := 0 } })) ∧
  (∀ (s : State) (k : BitVec 4) (l : BitVec 6) (w : Bool), 1 ≤ k.toNat → k.toNat ≤ 8 → l.toNat ≤ 44 →
    exec (.deviceFault k l w) s = .next (settle (Sys2Proof.Machine.deviceFault s k.toNat l.toNat w))) ∧
  (∀ (s : State) (c : Ctx), owns s c lPWR = true → exec (.degrDeclare c) s = .next (settle (Sys2Proof.Machine.deviceFault s 8 lSYS false))) ∧
  (∀ (s : State) (l : BitVec 6) (w : Bool), l.toNat ≤ 44 →
    exec (.pinnedGrantTimeout l w) s = .next (settle (Sys2Proof.Machine.deviceFault s 2 l.toNat w))) ∧
  (∀ s : State, s.pwr.degraded = true → cfg s lPWR 0x138 7 0 ≠ 0 → degradedCount s < 3 →
    exec .degrHoldExpiry s = .next (settle (moduleReset s causeDegr))) ∧
  (∀ (s : State) (a w : Bool) (d : Word), exec (.coreBusError a d w) s = .next (settle s))

/-- R61, R62: LC_REQ_PROVISIONED, LC_REQ_OPERATIONAL, LC_REQ_SERVICE, LC_REQ_RETIRED. A request that is not allowed sets LC_REJECT, draws a
new nonce and changes nothing else; an allowed one commits, erases the backup SRAM and ends in a module reset. -/
def Obligations.LifecycleCommandsComplete : Prop :=
  ∀ s : State, owns s 0#3 lPWR = true →
    (∀ (i : Instr) (n : Nat), (i = .lcReqProvisioned 0#3 ∧ n = 1) ∨ (i = .lcReqOperational 0#3 ∧ n = 2) ∨ (i = .lcReqService 0#3 ∧ n = 3) ∨
        (i = .lcReqRetired 0#3 ∧ n = 4) →
      (lcAllowed s n = false → exec i s = .next (settle { s with
        fresh := s.fresh + 1, pwr := { s.pwr with lcReject := true, nonce := Config.freeNonce s.fresh } })) ∧
      (lcAllowed s n = true → s.pwr.phase ≠ .powerFail → ∃ t, exec i s = .next (settle t) ∧ t.pwr.lcState = BitVec.ofNat 3 n ∧ t.pwr.phase = .inReset ∧ t.grot.sram = [] ∧
        t.pwr.retireWipe = decide (n = 4) ∧ t.pwr.rstCause = s.pwr.rstCause ∧ t.otp = s.otp ∧
        { t with
          pending := [], now := 0, fresh := 0, mem := [], otp := {}, out := [], grot := {}, act := [], clk := {}, ptp := {}, bist := {}, flow := {}, pwr := {} } = State.reset))

/-- R86, R97 to R105, R108: the clock and calendar commands of firmware and crystals, and the Grotto's own events; XT32_FAIL, XT32_BACK, TIME_SNAP_READ, CAL_SET_SEC,
CAL_COMMIT, WDAY_SET, PWRON_OFF_REQ, JRNL_DATA_READ, JRNL_DATA_WRITE, GROTTO_SECOND_TICK, GROTTO_COLD_START, PERIODIC_WAKE, CALENDAR_ALARM. The value of the
prescaler is free on the internal oscillator. -/
def Obligations.GrottoCommandsComplete : Prop :=
  (∀ s : State, s.clk.xt32 = true → unitOn s lCLK = true →
    exec .xt32Fail s = .next (settle (raise { s with
      clk := { s.clk with xt32 := false }, grot := { s.grot with preFree := true, wakeFree := true } } lCLK 0))) ∧
  (∀ s : State, s.clk.xt32 = false → unitOn s lCLK = true →
    exec .xt32Back s = .next (settle (raise { s with clk := { s.clk with xt32 := true } } lCLK 1))) ∧
  (∀ (s : State) (c : Ctx), mayRd s c lGROT = true → ∃ t, exec (.timeSnapRead c) s = .next (settle t) ∧
    t.rdata = BitVec.ofNat 64 (prescaler s) ∧ reg t lGROT 0x104 = dateWord s.grot ∧ reg t lGROT 0x108 = timeWord s.grot ∧
    reg t lGROT 0x10C = s.grot.gsec ∧ { t with rdata := s.rdata, fresh := s.fresh, act := s.act } = s) ∧
  (∀ (s : State) (c : Ctx) (v : Word), owns s c lGROT = true → grotPending s = false → (hdr s lGROT).frozen = false →
    exec (.calSetSec c v) s = .next (settle { s with grot := { s.grot with
      commit := some (reg s lGROT 0x110, reg s lGROT 0x114, v &&& 0x3F#32) } })) ∧
  (∀ (s : State) (c : Ctx) (v : Word), owns s c lGROT = true → grotPending s = false → (hdr s lGROT).frozen = true →
    exec (.calSetSec c v) s = exec .calCommit { s with grot := { s.grot with
      commit := some (reg s lGROT 0x110, reg s lGROT 0x114, v &&& 0x3F#32) } }) ∧
  (∀ (s : State) (d t sec : Word), s.grot.commit = some (d, t, sec) → calReason d t sec = none →
    ∃ u, exec .calCommit s = .next (settle u) ∧ u.grot = { s.grot with
      commit := none, year := fld d 11 0, month := fld d 19 16, day := fld d 28 24, hour := fld t 20 16, min := fld t 13 8, sec := fld sec 5 0,
      preAt := s.now, preFree := !s.clk.xt32 } ∧ (hdr u lGROT).gen = (hdr s lGROT).gen + 1 ∧
      { u with grot := s.grot, hdr := s.hdr, act := s.act, xing := s.xing } = s) ∧
  (∀ (s : State) (d t sec : Word) (r o : Nat), s.grot.commit = some (d, t, sec) → calReason d t sec = some (r, o) →
    exec .calCommit s = .next (settle (rejectSet { s with grot := { s.grot with commit := none } } lGROT r o))) ∧
  (∀ (s : State) (c : Ctx) (v : Word), owns s c lGROT = true → fld v 2 0 ≠ 7 →
    exec (.wdaySet c v) s = .next (settle { s with grot := { s.grot with wday := fld v 2 0 } })) ∧
  (∀ (s : State) (c : Ctx) (v : Word), owns s c lGROT = true → fld v 2 0 = 7 →
    exec (.wdaySet c v) s = .next (settle (rejectSet s lGROT 0x01 0x11C))) ∧
  (∀ (s : State) (c : Ctx) (v : Word), owns s c lGROT = true → bit v 1 = true →
    exec (.pwronOffReq c v) s = .next (settle { s with grot := { s.grot with pwron := false } })) ∧
  (∀ (s : State) (c : Ctx), mayRd s c lGROT = true → cfgBit s lGROT 0x138 31 = false →
    exec (.jrnlDataRead c) s = .next (settle { s with rdata := BitVec.ofNat 64 (jget s (4 * cfg s lGROT 0x138 11 2) 4) })) ∧
  (∀ (s : State) (c : Ctx) (v : Word), owns s c lGROT = true → 0x100 ≤ 4 * cfg s lGROT 0x138 11 2 → cfgBit s lGROT 0x138 31 = false →
    exec (.jrnlDataWrite c v) s = .next (settle (jset s (4 * cfg s lGROT 0x138 11 2) 4 v.toNat))) ∧
  (∀ (s : State) (c : Ctx) (v : Word), owns s c lGROT = true → 4 * cfg s lGROT 0x138 11 2 < 0x100 →
    exec (.jrnlDataWrite c v) s = .next (settle (capture s lGROT c true 0x8 0x13C))) ∧
  (∀ s : State, ∃ t, exec .grottoSecondTick s = .next (settle t) ∧ t.grot.gsec = s.grot.gsec + 1#32 ∧
    t.grot.sec = (calendarNext s.grot).sec ∧ t.grot.min = (calendarNext s.grot).min ∧ t.grot.hour = (calendarNext s.grot).hour ∧
    t.grot.day = (calendarNext s.grot).day ∧ t.grot.month = (calendarNext s.grot).month ∧ t.grot.year = (calendarNext s.grot).year ∧
    t.grot.wday = (calendarNext s.grot).wday ∧ t.grot.preAt = s.now ∧ t.grot.preFree = !s.clk.xt32 ∧
    (unitOn s lGAL = true → t.xing = s.xing ++ [⟨lGROT, lGAL, .grotto (decide (t.grot.sec = 0) && decide (t.grot.min % 15 = 0))⟩]) ∧
    { t with grot := s.grot, hdr := s.hdr, act := s.act, xing := s.xing } = s) ∧
  (∀ s : State, s.pwr.phase = .off → ∃ t, exec .grottoColdStart s = .next (settle t) ∧ t.grot.gsec = 0#32 ∧
    (t.grot.year, t.grot.month, t.grot.day, t.grot.hour, t.grot.min, t.grot.sec, t.grot.wday) = (2000, 1, 1, 0, 0, 0, 0) ∧
    t.grot.pwron = true ∧ t.grot.sysOk = false ∧ t.grot.calcOk = false ∧ t.grot.sram = coldSram s.fresh ∧
    { t with grot := s.grot, act := s.act, fresh := s.fresh } = s) ∧
  (∀ s : State, cfg s lGROT 0x120 25 0 ≠ 0 → s.pwr.pstate = .run → domOn s dAON = true →
    let g := { s.grot with wakeAt := s.now, wakeFree := !s.clk.xt32 }
    exec .periodicWake s = .next (settle { send (raise { s with grot := g } lGROT 0) lGROT lGAL (.grotto false) with
      grot := { g with pwron := s.grot.pwron || cfgBit s lGROT 0x120 31 } })) ∧
  (∀ s : State, s.grot.almDue = true → s.pwr.pstate = .run → domOn s dAON = true →
    exec .calendarAlarm s = .next (settle { send (raise { s with grot := { s.grot with almDue := false } } lGROT 1) lGROT lGAL (.grotto false) with
      grot := { s.grot with almDue := false, pwron := s.grot.pwron || cfgBit s lGROT 0x130 8 } }))

/-- R88 to R94: the PTP clock; PTP_TIME_READ, PTP_STEP, PTP_MESSAGE_RX, PTP_LOSS, PTP_HOLDOVER_EXPIRY, PPS_IN_EDGE, PPS_IN_MISS,
PPS_OUT_PULSE, PPS_OUT_END. -/
def Obligations.PtpCommandsComplete : Prop :=
  (∀ (s : State) (c : Ctx), mayRd s c lPTP = true →
    exec (.ptpTimeRead c false) s = .next (settle { s with
      rdata := BitVec.ofNat 64 (s.ptp.time.toNat % 0x100000000),
      ptp := { s.ptp with hiLatch := BitVec.ofNat 32 (s.ptp.time.toNat / 0x100000000) } })) ∧
  (∀ (s : State) (c : Ctx), mayRd s c lPTP = true → exec (.ptpTimeRead c true) s = .next (settle { s with rdata := s.ptp.time })) ∧
  (∀ (s : State) (c : Ctx) (d : DWord), owns s c lPTP = true → ∃ t, exec (.ptpStep c d) s = .next (settle t) ∧
    t.ptp.time = s.ptp.time + d ∧ t.ptp.lock = 0#2 ∧ t.ptp.rate = s.ptp.rate ∧
    { t with ptp := s.ptp, hdr := s.hdr, flow := s.flow, act := s.act } = s) ∧
  (∀ (s : State) (o : DWord), works s lPTP = true → cfgBit s lPTP 0x114 3 = false → s.ptp.gm = false → s.ptp.lock = 0#2 →
    100000 < (sInt64 o).natAbs →
    ∃ t, exec (.ptpMessageRx (.update o)) s = .next (settle t) ∧ t.ptp.lock = 1#2 ∧ t.ptp.time = s.ptp.time - BitVec.ofInt 64 (sInt64 o) ∧
      { t with ptp := s.ptp, hdr := s.hdr, flow := s.flow, act := s.act } = s) ∧
  (∀ (s : State) (gm v : Bool) (utc : BitVec 16), works s lPTP = true →
    exec (.ptpMessageRx (.announce true gm utc v)) s = .next (settle (setReg
      { s with ptp := { s.ptp with msel := true, gm := gm && !cfgBit s lPTP 0x114 2 } } lPTP 0x128
      (BitVec.ofNat 32 (utc.toNat + 0x10000 * b2n v))))) ∧
  (∀ s : State, servoOn s = true → s.ptp.lock = 2#2 → cfg s lPTP 0x11C 15 0 ≠ 0 →
    ∃ t, exec .ptpLoss s = .next (settle t) ∧ t.ptp.lock = 3#2 ∧ t.ptp.time = s.ptp.time ∧
    { t with ptp := s.ptp, hdr := s.hdr, flow := s.flow, act := s.act } = s) ∧
  (∀ s : State, servoOn s = true → s.ptp.lock = 1#2 → ∃ t, exec .ptpLoss s = .next (settle t) ∧ t.ptp.lock = 0#2 ∧ t.ptp.time = s.ptp.time ∧
    { t with ptp := s.ptp, hdr := s.hdr, flow := s.flow, act := s.act } = s) ∧
  (∀ s : State, servoOn s = true → s.ptp.lock = 3#2 → ∃ t, exec .ptpHoldoverExpiry s = .next (settle t) ∧ t.ptp.lock = 0#2 ∧ t.ptp.time = s.ptp.time ∧
    { t with ptp := s.ptp, hdr := s.hdr, flow := s.flow, act := s.act } = s) ∧
  (∀ s : State, unitOn s lPTP = true → cfgBit s lPTP 0x130 0 = true → servoOn s = false →
    let t := { s with ptp := { s.ptp with ppsIn := !s.ptp.ppsIn } }
    (s.ptp.ppsIn = cfgBit s lPTP 0x130 1 → exec .ppsInEdge s = .next (settle (raise (setReg64 t lPTP 0x138 (time64 s)) lPTP 1))) ∧
    (s.ptp.ppsIn = !cfgBit s lPTP 0x130 1 → exec .ppsInEdge s = .next (settle t))) ∧
  (∀ s : State, unitOn s lPTP = true → cfgBit s lPTP 0x130 0 = true → servoOn s = false →
    exec .ppsInMiss s = .next (settle (raise s lPTP 3))) ∧
  (∀ s : State, unitOn s lPTP = true → cfgBit s lPTP 0x130 2 = true → (cfgBit s lPTP 0x130 3 = false ∨ s.ptp.lock = 2#2) →
    exec .ppsOutPulse s = .next (settle { s with ptp := { s.ptp with ppsOut := true } })) ∧
  (∀ s : State, exec .ppsOutEnd s = .next (settle { s with ptp := { s.ptp with ppsOut := false } }))

/-- R351 to R356, R358, R360 to R362, R364, R365, R499: FLOW_RECORD_IN, FLOW_RECORD_WRITE, FLOW_BLOCK_ERASE, FLOW_REGION_WRITE, FLOW_RECOVERY, SNAP_TAKE,
SNAP_RELEASE, SNAP_CUR_WRITE, CLR_NONCE, CLR_NONCE_EXPIRY, CLR_GO, CLEAR_DONE. A record of a source that Flowstone takes joins the queue; the writer writes the oldest
one behind the head with the next SEQ; a full queue drops and counts; a write of a processor into the region is captured with code 0x8. A clear that passes every check
writes the CLEAR record and starts; one that fails reports its RESULT, counts, and uses the nonce up. -/
def Obligations.FlowstoneCommandsComplete : Prop :=
  (∀ (s : State) (r : FlowRec) (rest : List FlowRec), s.flow.arriving = r :: rest → flowTakes s r.src = true → s.flow.queue.length < 1024 →
    exec .flowRecordIn s = .next (settle { s with flow := { s.flow with
      arriving := rest, queue := s.flow.queue ++ [r], peak := max s.flow.peak (s.flow.queue.length + 1) } })) ∧
  (∀ (s : State) (r : FlowRec) (rest : List FlowRec), s.flow.arriving = r :: rest → flowTakes s r.src = true → 1024 ≤ s.flow.queue.length →
    1 ≤ r.src.toNat → r.src.toNat ≤ 5 →
    exec .flowRecordIn s = .next (settle (raise { s with flow := { s.flow with
      arriving := rest, drops := tset s.flow.drops r.src.toNat (satInc 16 (tget s.flow.drops r.src.toNat 0)) 0,
      lossDue := true, dropCnt := satInc 32 s.flow.dropCnt } } lFLOW 0))) ∧
  (∀ (s : State) (r : FlowRec) (rest : List FlowRec), writerRuns s = true → s.flow.queue = r :: rest → s.flow.lossDue = false →
    s.flow.closed = false → s.flow.headAddr - blkBase s.flow.headBlk + recSize r.payload.length ≤ 0x10000 →
    exec .flowRecordWrite s = .next (settle { s with
      mem := msetBytes s.mem s.flow.headAddr (recBytes s.flow.nextSeq (time64 s) r)
      flow := { s.flow with
        queue := rest, nextSeq := s.flow.nextSeq + 1, headAddr := s.flow.headAddr + recSize r.payload.length,
        closed := decide (0x10000 ≤ s.flow.headAddr + recSize r.payload.length - blkBase s.flow.headBlk) } })) ∧
  (∀ (s : State) (b : Nat), writerRuns s = true → s.flow.clearing = none → reserveBlock s = some b →
    exec .flowBlockErase s = .next (settle { s with mem := mwipe s.mem (blkBase b) (blkBase b + 0x10000) })) ∧
  (∀ (s : State) (q b : Nat) (rest : List Nat), writerRuns s = true → s.flow.clearing = some q → clearBlocks s q = b :: rest →
    exec .flowBlockErase s = .next (settle { s with
      mem := mwipe s.mem (blkBase b) (blkBase b + 0x10000), flow := { s.flow with clearErased := s.flow.clearErased + 1 } })) ∧
  (∀ (s : State) (c : Ctx) (a : BitVec 27) (v : Word), pathOk s c = true → unitOn s lFLOW = true →
    exec (.flowRegionWrite c a v) s = .next (settle (capture s lFLOW c true 0x8 0))) ∧
  (∀ s : State, works s lFLOW = true → s.flow.needRecovery = true → s.flow.stopped = false → s.pwr.phase ≠ .powerFail →
    exec .flowRecovery s = .next (settle (recover s))) ∧
  (∀ (s : State) (x : Ctx), reaches s x lFLOW = true → cfgBit s lFLOW 0x104 (8 + x.toNat) = true →
    let first := ((firstRec s).map (·.seq)).getD s.flow.nextSeq
    exec (.snapTake x x) s = .next (settle (setSnap s x.toNat
      ⟨true, false, first, s.flow.nextSeq - 1, first, first, ((firstRec s).map (·.addr)).getD 0⟩))) ∧
  (∀ (s : State) (x : Ctx), reaches s x lFLOW = true → (snap s x.toNat).held = true →
    let t := setSnap s x.toNat { snap s x.toNat with held := false }
    exec (.snapRelease x x true) s = .next (settle { t with flow := { t.flow with
      exportedSeq := (snap s x.toNat).last, exportTime := time64 s, exportAt := some s.now } })) ∧
  (∀ (s : State) (x : Ctx) (v : DWord), reaches s x lFLOW = true → (snap s x.toNat).cur ≤ v.toNat → v.toNat ≤ (snap s x.toNat).last + 1 →
    exec (.snapCurWrite x x v) s = .next (settle (setSnap s x.toNat { snap s x.toNat with cur := v.toNat }))) ∧
  (∀ (s : State) (x : Ctx) (v : DWord), reaches s x lFLOW = true → v.toNat < (snap s x.toNat).cur ∨ (snap s x.toNat).last + 1 < v.toNat →
    exec (.snapCurWrite x x v) s = .next (settle (capture s lFLOW x true 0x8 (0x218 + 0x40 * x.toNat)))) ∧
  (∀ (s : State) (c : Ctx), reaches s c lFLOW = true → cfgBit s lFLOW 0x104 (16 + c.toNat) = true →
    exec (.clrNonce c) s = .next (settle { s with
      fresh := s.fresh + 1, flow := { s.flow with nonce := some (Config.freeNonce s.fresh, c, s.now), nonceReg := Config.freeNonce s.fresh } })) ∧
  (∀ s : State, exec .clrNonceExpiry s = .next (settle { s with flow := { s.flow with nonce := none } })) ∧
  (∀ (s : State) (c : Ctx), reaches s c lFLOW = true → cfgBit s lFLOW 0x104 (16 + c.toNat) = true → clrCheck s c = 1 →
    writerRuns s = true → s.flow.queue = [] →
    ∃ t, exec (.clrGo c) s = .next (settle t) ∧ t.flow.clearing = some s.flow.nextSeq ∧ t.flow.clrResult = 1#4 ∧ t.flow.nonce = none ∧
      t.flow.nextSeq = s.flow.nextSeq + 1 ∧ { t with flow := s.flow, mem := s.mem, hdr := s.hdr } = s) ∧
  (∀ (s : State) (c : Ctx), reaches s c lFLOW = true → cfgBit s lFLOW 0x104 (16 + c.toNat) = true → clrCheck s c = 1 → writerRuns s = false →
    exec (.clrGo c) s = .next (settle { s with flow := { s.flow with
      nonce := none, clrResult := 1#4, clearAsked := some (c, clrSeq s, s.flow.nonceReg) } })) ∧
  (∀ (s : State) (c : Ctx), reaches s c lFLOW = true → cfgBit s lFLOW 0x104 (16 + c.toNat) = true → clrCheck s c ≠ 1 →
    ∃ t, exec (.clrGo c) s = .next (settle t) ∧ t.flow.clrResult = BitVec.ofNat 4 (clrCheck s c) ∧ t.flow.nonce = none ∧
      t.flow.clearing = s.flow.clearing ∧ t.flow.clrFailed = s.flow.clrFailed + 1 ∧ { t with flow := s.flow, hdr := s.hdr } = s) ∧
  (∀ (s : State) (q : Nat), s.flow.clearing = some q → writerRuns s = true → clearBlocks s q = [] → s.flow.queue = [] →
    ∃ t, exec .clearDone s = .next (settle t) ∧ t.flow.clearing = none ∧ t.flow.nextSeq = s.flow.nextSeq + 1 ∧
      (hdr t lFLOW).latched.getLsbD 2 = true ∧ { t with flow := s.flow, mem := s.mem, hdr := s.hdr } = s)

/-- R114 to R118, R121 to R123, R130, R135: the conversions of a Chamber; SCAN_GRID_POINT, ENTRY_START, SAMPLING_STROBE, CONVERSION_DONE,
SCAN_ENTRY_SKIP. -/
def Obligations.ChamberConversionCommandsComplete : Prop :=
  (∀ (s : State) (n : BitVec 3), chmStarts s n.toNat = true → backToBack s n.toNat = false → (chm s n.toNat).passOn = false →
    exec (.scanGridPoint n) s = .next (settle (startPass s n.toNat))) ∧
  (∀ (s : State) (n : BitVec 3), chmStarts s n.toNat = true → backToBack s n.toNat = false → (chm s n.toNat).passOn = true →
    exec (.scanGridPoint n) s = .next (settle (raise (countUp (setChm s n.toNat { chm s n.toNat with again := true })
      (lCHMB n.toNat) 0x120 0 16) (lCHMB n.toNat) 0))) ∧
  (∀ (s : State) (n : BitVec 3) (e : Nat) (rest : List (Nat × Bool)), chmStarts s n.toNat = true → (chm s n.toNat).cur = none →
    (hdr s (lCHMB n.toNat)).pend = none → (chm s n.toNat).scan = (e, false) :: rest → entMode s n.toNat e 0 = true → s.test.inj = false →
    (scanWaits s n.toNat e = false →
      exec (.entryStart n .scan) s = .next (settle (setChm s n.toNat { chm s n.toNat with
        scan := rest, swapNext := mput (chm s n.toNat).swapNext e (!mbit (chm s n.toNat).swapNext e),
        cur := some { ent := e, src := .scan, swapped := bit (entSel s n.toNat e) 28 && mbit (chm s n.toNat).swapNext e,
                      sel := entSel s n.toNat e, exc := entExc s n.toNat e, tim := entTim s n.toNat e, t0 := (time64 s).toNat,
                      gain := reg s (lCHMB n.toNat) (0x180 + 16 * fld (entSel s n.toNat e) 18 16 + 4),
                      ofs := reg s (lCHMB n.toNat) (0x180 + 16 * fld (entSel s n.toNat e) 18 16 + 8) } }))) ∧
    (scanWaits s n.toNat e = true → exec (.entryStart n .scan) s = .next (settle s))) ∧
  (∀ (s : State) (n : BitVec 3) (f : Strobe) (rest : List Strobe), chmStarts s n.toNat = true → (chm s n.toNat).cur = none →
    (hdr s (lCHMB n.toNat)).pend = none → (chm s n.toNat).fbList = f :: rest →
    (entMode s n.toNat f.ent 1 = true →
      exec (.entryStart n .feedback) s = .next (settle (beginEntry (setChm s n.toNat { chm s n.toNat with fbList := rest }) n.toNat f.ent
        .feedback f.slot false ⟨0, 0, 0, 0, false, false⟩))) ∧
    (entMode s n.toNat f.ent 1 = false →
      exec (.entryStart n .feedback) s = .next (settle (noSample (setChm s n.toNat { chm s n.toNat with fbList := rest }) n.toNat f)))) ∧
  (∀ (s : State) (n : BitVec 3) (a : AngStrobe) (rest : List AngStrobe) (e : Nat), chmStarts s n.toNat = true → (chm s n.toNat).cur = none →
    (hdr s (lCHMB n.toNat)).pend = none → (chm s n.toNat).angQ = a :: rest → angleEntry s n.toNat = some e →
    exec (.entryStart n .angle) s = .next (settle (beginEntry (setChm s n.toNat { chm s n.toNat with angQ := rest, angIdx := a.idx }) n.toNat e
      .angle 0 false a))) ∧
  (∀ (s : State) (n : BitVec 3) (r : EntRun), alive s (lCHMB n.toNat) = true → (chm s n.toNat).cur = some r → (chm s n.toNat).conv = none →
    exec (.samplingStrobe n) s = .next (settle (setChm s n.toNat { chm s n.toNat with
      cur := none, conv := some { r with stamp := time64 s } }))) ∧
  (∀ (s : State) (n : BitVec 3) (r : EntRun) (v : ConvResult), alive s (lCHMB n.toNat) = true → (chm s n.toNat).conv = some r →
    s.test.injOn = false →
    let x := (mergeSample s n.toNat r v).1
    let t := send (raiseIf (x.complA || x.complB) (setChm s n.toNat (mergeSample s n.toNat r v).2) (lCHMB n.toNat) 5) (lCHMB n.toNat) lINTG
      (.sample x)
    (r.src ≠ .feedback → exec (.conversionDone n v) s = .next (settle (endPassIf t n.toNat))) ∧
    (r.src = .feedback → loopGets s x = true →
      exec (.conversionDone n v) s = .next (settle (endPassIf (send t (lCHMB n.toNat) lLOOP (.feedback r.slot x)) n.toNat))) ∧
    (r.src = .feedback → loopGets s x = false → exec (.conversionDone n v) s = .next (settle (endPassIf t n.toNat)))) ∧
  (∀ (s : State) (n : BitVec 3) (e : Nat) (b : Bool) (x : Nat × Bool) (rest : List (Nat × Bool)), chmStarts s n.toNat = true →
    (chm s n.toNat).cur = none → (chm s n.toNat).scan = (e, b) :: x :: rest →
    exec (.scanEntrySkip n) s = .next (settle (raise (countUp (setChm s n.toNat { chm s n.toNat with
      scan := x :: rest, entFlags := tset (chm s n.toNat).entFlags e (tget (chm s n.toNat).entFlags e 0 ||| 0x10) 0 })
      (lCHMB n.toNat) 0x124 0 16) (lCHMB n.toNat) 1)))

/-- R121, R123, R133 to R138, R140: FB_STROBE_LIST, TACHO_EDGE, ANGLE_LOCK_LOST, CAL_RUN, CHMB_SELF_CAL_DONE, CAL_TRACK_UPDATE,
SERVO_SETTLED, CHMB_SUPPLY_FAULT, CHMB_FAULT_CLEAR. -/
def Obligations.ChamberServiceCommandsComplete : Prop :=
  (∀ (s : State) (n : BitVec 3) (f : Strobe), chmStarts s n.toNat = true → (chm s n.toNat).fbSent = [f] → (chm s n.toNat).fbList = [] →
    (chm s n.toNat).angQ = [] → entMode s n.toNat f.ent 1 = true →
    ∃ t, exec (.fbStrobeList n) s = .next (settle t) ∧ (chm t n.toNat).fbList = [f] ∧ (chm t n.toNat).fbSent = [] ∧
      { t with chmb := s.chmb } = s) ∧
  (∀ (s : State) (n : BitVec 3), unitOn s (lCHMB n.toNat) = true → chmStarts s n.toNat = false →
    exec (.fbStrobeList n) s = .next (settle ((strobeSort (chm s n.toNat).fbSent).foldl (fun t f => noSample t n.toNat f)
      (setChm s n.toNat { chm s n.toNat with fbSent := [] })))) ∧
  (∀ (s : State) (n d : BitVec 3) (t : DWord), chmStarts s n.toNat = true →
    (cfg s (lCHMB n.toNat) 0x110 2 0 = d.toNat → cfg s (lCHMB n.toNat) 0x110 7 4 ≠ d.toNat →
      exec (.tachoEdge n d t) s = .next (settle (toothEdge s n.toNat t))) ∧
    (cfg s (lCHMB n.toNat) 0x110 2 0 ≠ d.toNat → cfg s (lCHMB n.toNat) 0x110 7 4 = d.toNat →
      exec (.tachoEdge n d t) s = .next (settle (setChm s n.toNat { chm s n.toNat with
        angRef := true, angQ := (chm s n.toNat).angQ.map (fun a => if a.next then { a with idx := a.place } else a) })))) ∧
  (∀ (s : State) (n : BitVec 3), chmStarts s n.toNat = true → (chm s n.toNat).angLocked = true →
    exec (.angleLockLost n) s = .next (settle (setChm s n.toNat { chm s n.toNat with
      angLocked := false, angLost := true, angGap := true, angQ := [], angEdges := 0, angLast := none, angDecim := 0 }))) ∧
  (∀ (s : State) (c : Ctx) (n : BitVec 3), owns s c (lCHMB n.toNat) = true → (hdr s (lCHMB n.toNat)).frozen = true →
    exec (.calRun c n) s = .next (settle (setChm s n.toNat { chm s n.toNat with
      calBusy := true, calDone := false, cur := none, conv := none }))) ∧
  (∀ (s : State) (c : Ctx) (n : BitVec 3), owns s c (lCHMB n.toNat) = true → (hdr s (lCHMB n.toNat)).frozen = false →
    exec (.calRun c n) s = .next (settle (capture s (pageOf (lCHMB n.toNat)) c true 0x8 0x118))) ∧
  (∀ (s : State) (n : BitVec 3), (chm s n.toNat).calBusy = true → cfg s (lCHMB n.toNat) 0x100 19 0 ≠ 0 →
    exec (.chmbSelfCalDone n []) s = .next (settle (raise (setChm s n.toNat { chm s n.toNat with
      calBusy := false, calibrated := true, calDone := true, calFail := 0#8 }) (lCHMB n.toNat) 6))) ∧
  (∀ (s : State) (n : BitVec 3) (r : CalResult), cfgBit s (lCHMB n.toNat) 0x104 8 = true → 4096 ≤ tget (chm s n.toNat).track r.set.toNat 0 →
    trackSmall s n.toNat r = true →
    exec (.calTrackUpdate n r) s = .next (settle (putCal (setChm s n.toNat { chm s n.toNat with
      track := tset (chm s n.toNat).track r.set.toNat (tget (chm s n.toNat).track r.set.toNat 0 - 4096) 0 }) n.toNat r))) ∧
  (∀ (s : State) (n : BitVec 3), exec (.servoSettled n) s = .next (settle (setChm s n.toNat { chm s n.toNat with servo := false }))) ∧
  (∀ (s : State) (n : BitVec 3), unitOn s (lCHMB n.toNat) = true → s.test.inj = false → (chm s n.toNat).fbList = [] →
    (∀ r, (chm s n.toNat).cur = some r ∨ (chm s n.toNat).conv = some r → r.src ≠ .feedback) →
    exec (.chmbSupplyFault n 0) s = .next (settle (setChm s n.toNat { dropQueue (chm s n.toNat) with
      chvp := true, cur := none, conv := none, angLocked := false, angEdges := 0, angLast := none, scan := [], passOn := false,
      again := false, calBusy := false }))) ∧
  (∀ (s : State) (n : BitVec 3) (f : Strobe), unitOn s (lCHMB n.toNat) = true → s.test.inj = false → (chm s n.toNat).fbList = [f] →
    (chm s n.toNat).cur = none → (chm s n.toNat).conv = none →
    let t := noSample s n.toNat f
    exec (.chmbSupplyFault n 0) s = .next (settle (setChm t n.toNat { dropQueue (chm t n.toNat) with
      chvp := true, cur := none, conv := none, fbList := [], angLocked := false, angEdges := 0, angLast := none, scan := [], passOn := false,
      again := false, calBusy := false }))) ∧
  (∀ (s : State) (n : BitVec 3), alive s (lCHMB n.toNat) = true → (chm s n.toNat).chvp = true → (chm s n.toNat).chvl = false →
    (chm s n.toNat).coupler = false →
    ∃ t, exec (.chmbFaultClear n 0) s = .next (settle t) ∧ (chm t n.toNat).chvp = false ∧ (chm t n.toNat).calBusy = true ∧
      { t with chmb := s.chmb } = s)

/-- R144 to R149: SSNS_SAMPLE, SSNS_WINDOW_END, SSNS_CYCLE_END, SSNS_HALF_CYCLE, BLACKOUT_ON, BLACKOUT_OFF. What the converter's die finds (the
harmonics, the rotation, a cycle's length) is an operand; the RMS and THD values are computed. -/
def Obligations.SupplySenseCommandsComplete : Prop :=
  (∀ (s : State) (a b c n : BitVec 20), works s lSSNS = true → (hdr s lSSNS).pend = none →
    exec (.ssnsSample a b c n) s = .next (settle { s with ssns := { s.ssns with
      win := sumSample s.ssns.win (code20 a) (code20 b) (code20 c) (code20 n)
      halfA := halfSample s.ssns.halfA (code20 a), halfB := halfSample s.ssns.halfB (code20 b), halfC := halfSample s.ssns.halfC (code20 c)
      last := time64 s
      boRun := if exceedsBo s a || exceedsBo s b || exceedsBo s c then none else some (s.ssns.boRun.getD (time64 s)) } })) ∧
  (∀ (s : State) (w : SsnsWindow), wfWindow w = true → works s lSSNS = true → s.ssns.win.n ≠ 0 → unitOn s lINTG = true →
    ∃ t, exec (.ssnsWindowEnd w) s = .next (settle t) ∧ reg t lSSNS 0x154 = reg s lSSNS 0x154 + 1#32 ∧ t.ssns.rotErr = w.rotErr ∧
      t.ssns.win = {} ∧ t.ssns.windowed = true ∧
      (∀ i, i < 7 → reg t lSSNS (0x120 + 4 * i) = (windowVolts s).getD i 0#32) ∧
      (∀ i, i < 3 → reg t lSSNS (0x140 + 4 * i) = (windowThd w).getD i 0#32) ∧
      (∀ i, i < 147 → reg t lSSNS (0x200 + 4 * i) = w.harm.getD i 0#32) ∧
      t.xing = s.xing ++ (if standby s then [] else
        (windowVolts s).zipIdx.map (fun e => ⟨lSSNS, lINTG, .ssns (256 + e.2) e.1 s.ssns.last⟩) ++
        (windowThd w).zipIdx.map (fun e => ⟨lSSNS, lINTG, .ssns (256 + (8 + e.2)) e.1 s.ssns.last⟩)) ∧ (∀ v, v ≠ lSSNS → hdr t v = hdr s v) ∧
      (∀ k, (∀ o, o < 0x800 → k ≠ rk lSSNS o) → rget t k = rget s k) ∧
      { t with act := s.act, ssns := { t.ssns with rotErr := s.ssns.rotErr, win := s.ssns.win, windowed := s.ssns.windowed },
               hdr := s.hdr, xing := s.xing } = s) ∧
  (∀ (s : State) (w : SsnsWindow), wfWindow w = true → works s lSSNS = true → s.ssns.win.n = 0 →
    exec (.ssnsWindowEnd w) s = .next (settle s)) ∧
  (∀ (s : State) (f : BitVec 20) (p : Bool), works s lSSNS = true → freqOk f p = false →
    exec (.ssnsCycleEnd f p) s = .next (settle { s with ssns := { s.ssns with freqValid := false } })) ∧
  (∀ (s : State) (f : BitVec 20) (p : Bool), works s lSSNS = true → freqOk f p = true →
    let hz := f32RoundRat f.toNat 1000 0 64 false
    let t := { s with ssns := { s.ssns with freqValid := true } }
    (s.ssns.windowed = true → exec (.ssnsCycleEnd f p) s = .next (settle (ssnsSend (setReg t lSSNS 0x13C hz) 7 hz (time64 s)))) ∧
    (s.ssns.windowed = false → exec (.ssnsCycleEnd f p) s = .next (settle (ssnsSend t 7 hz (time64 s))))) ∧
  (∀ s : State, works s lSSNS = true → s.ssns.halfA.n ≠ 0 → s.ssns.halfB.n ≠ 0 → s.ssns.halfC.n ≠ 0 → s.ssns.sag = 0#3 →
    s.ssns.swell = 0#3 →
    (∀ m, m = s.ssns.halfA ∨ m = s.ssns.halfB ∨ m = s.ssns.halfC → halfLow s m = false ∧ halfHigh s m = false) →
    exec (.ssnsHalfCycle true true true) s = .next (settle { s with ssns := { s.ssns with above := 7#3, halfA := {}, halfB := {}, halfC := {} } })) ∧
  (∀ s : State, works s lSSNS = true → s.ssns.halfA.n ≠ 0 → s.ssns.sag.getLsbD 0 = false → s.ssns.swell.getLsbD 0 = false →
    halfLow s s.ssns.halfA = true → halfHigh s s.ssns.halfA = false →
    ∃ t, exec (.ssnsHalfCycle true false false) s = .next (settle t) ∧ t.ssns.sag = s.ssns.sag ||| 1#3 ∧ t.ssns.swell = s.ssns.swell ∧
      t.ssns.above = s.ssns.above &&& 6#3 ∧ t.ssns.halfA = {} ∧ t.ssns.halfB = s.ssns.halfB ∧ t.ssns.halfC = s.ssns.halfC ∧
      (hdr t lSSNS).latched.getLsbD 2 = true ∧
      (s.ssns.sag = 0#3 → standby s = false → unitOn s lINTG = true →
        t.xing = s.xing ++ [{ src := lSSNS, dst := lINTG, what := .ssns 268 f32One (time64 s) }]) ∧
      { t with ssns := s.ssns, hdr := s.hdr, xing := s.xing, act := s.act } = s) ∧
  (∀ (s : State) (a b c : Bool), works s lSSNS = true → (a = true → s.ssns.halfA.n = 0) → (b = true → s.ssns.halfB.n = 0) →
    (c = true → s.ssns.halfC.n = 0) → exec (.ssnsHalfCycle a b c) s = .next (settle s)) ∧
  (∀ (s : State) (d : DWord), works s lSSNS = true → s.ssns.boRun = some d → s.ssns.blackout = false →
    exec .blackoutOn s = .next (settle (ssnsSend (raise (setReg64 { s with ssns := { s.ssns with blackout := true, above := 0#3 } }
      lSSNS 0x158 d) lSSNS 0) 11 f32One d))) ∧
  (∀ s : State, works s lSSNS = true → s.ssns.blackout = true → s.ssns.above = 7#3 →
    exec .blackoutOff s = .next (settle (ssnsSend (raise { s with ssns := { s.ssns with blackout := false } } lSSNS 1) 11 f32Zero (time64 s))))

/-- R151, R157 to R160, R178, R180, R181: INTG_SAMPLE_ACCEPT, SAMPLE_RESOLVE, CONF_WIN_DEADLINE, NOISE_RUN, NOISE_DONE, PV_SEL, CH_SEL. A
sample is resolved by the strike rule: the first failure squashes it, the second is confirmed with the quality of its failed check. -/
def Obligations.IntegrityCommandsComplete : Prop :=
  (∀ (s : State) (x : Sample) (rest : List IntgIn), s.intg.inq = .sample x :: rest → alive s lINTG = true → (hdr s lINTG).freeze = false →
    bit (chReg s 0x180 x.ch) 0 = true → x.oc = false →
    exec .intgSampleAccept s = .next (settle (acceptSample { s with intg := { s.intg with inq := rest } } x.ch x
      (f32OfInt (sInt32 x.value)) (lsbTrim s (x.ch / 32) (trimIndex x)) true))) ∧
  (∀ (s : State) (c : Nat) (v : F32) (d : DWord) (rest : List IntgIn), s.intg.inq = .ssns c v d :: rest → alive s lINTG = true →
    (hdr s lINTG).freeze = false → bit (chReg s 0x180 c) 0 = true →
    let t := { s with intg := { s.intg with inq := rest } }
    exec .intgSampleAccept s = .next (settle (acceptSample (setChan t c { chan t c with ssSeq := (chan s c).ssSeq + 1 }) c
      { ch := c, stamp := d, value := 0#32, seq := BitVec.ofNat 16 ((chan s c).ssSeq + 1) } v f32One false))) ∧
  (∀ (s : State) (x : IntgIn) (rest : List IntgIn), s.intg.inq = x :: rest → alive s lINTG = true → (hdr s lINTG).freeze = true →
    exec .intgSampleAccept s = .next (settle (countUp { s with intg := { s.intg with inq := rest } } lINTG 0x148 0 16))) ∧
  (∀ (s : State) (c : BitVec 9) (p : Prov) (rest : List Prov), alive s lINTG = true → (chan s c.toNat).inflight = p :: rest →
    p.late = false → p.cross.isSome = true → failedChecks p ≠ [] → (chan s c.toNat).strike = false →
    exec (.sampleResolve c) s = .next (settle (squash (setChan s c.toNat { chan s c.toNat with tmoStrike := false, strike := true })
      c.toNat p))) ∧
  (∀ (s : State) (c : BitVec 9) (p : Prov) (rest : List Prov), alive s lINTG = true → (chan s c.toNat).inflight = p :: rest →
    p.late = false → p.cross.isSome = true → failedChecks p = [] → p.pairSquash = false →
    exec (.sampleResolve c) s = .next (settle (confirm (setChan s c.toNat { chan s c.toNat with tmoStrike := false, strike := false })
      c.toNat p (finalQual s c.toNat p)))) ∧
  (∀ (s : State) (c : BitVec 9) (p : Prov) (rest : List Prov), alive s lINTG = true → (chan s c.toNat).inflight = p :: rest →
    p.late = false → p.cross.isSome = true → failedChecks p ≠ [] → (chan s c.toNat).strike = true → p.pairSquash = false →
    exec (.sampleResolve c) s = .next (settle (confirm (setChan s c.toNat { chan s c.toNat with tmoStrike := false })
      c.toNat p (finalQual s c.toNat p)))) ∧
  (∀ (s : State) (c : BitVec 9) (p : Prov) (rest : List Prov), alive s lINTG = true → (chan s c.toNat).inflight = p :: rest →
    p.cross = none → firstDue (chan s c.toNat) = some p.due →
    let mark (q : Prov) : Prov := if q.cross.isNone && decide (q.due = p.due) then { q with late := true } else q
    let t := setChan s c.toNat { chan s c.toNat with inflight := (p :: rest).map mark, tmoStrike := !(chan s c.toNat).tmoStrike }
    ((chan s c.toNat).tmoStrike = false →
      exec (.confWinDeadline c) s = .next (settle (squash t c.toNat { p with late := true }))) ∧
    ((chan s c.toNat).tmoStrike = true →
      exec (.confWinDeadline c) s = .next (settle (statusItem (squash t c.toNat { p with late := true }) c.toNat 11 p.x.stamp p.x.seq)))) ∧
  (∀ (s : State) (c : BitVec 9) (p q : Prov), alive s lINTG = true → (chan s c.toNat).inflight = [p, q] → p.late = false →
    p.cross.isSome = true → q.cross = none → q.late = false →
    exec (.confWinDeadline c) s = .next (settle (setChan s c.toNat { chan s c.toNat with inflight := [p, { q with late := true }] }))) ∧
  (∀ (s : State) (c : Ctx) (v : Word), owns s c lINTG = true → bit v 31 = true →
    let t := setReg s lINTG 0x118 (v &&& 0x1F01FF#32)
    exec (.noiseRun c v) s = .next (settle { t with intg := { s.intg with
      noiseDone := false, noise := some { ch := fld v 8 0, want := 2 ^ (max 8 (min 16 (fld v 20 16))) } } })) ∧
  (∀ (s : State) (n : Noise), s.intg.noise = some n → n.got = n.want →
    ∃ t, exec .noiseDone s = .next (settle t) ∧ t.intg.noise = none ∧ t.intg.noiseDone = true ∧
      reg t lINTG 0x120 = f32RoundRat n.sum n.want 0 64 false ∧ (hdr t lINTG).latched.getLsbD 3 = true ∧
      { t with intg := s.intg, act := s.act, hdr := s.hdr } = s) ∧
  (∀ (s : State) (x : Ctx) (v : Word), reaches s x lINTG = true → fld v 8 0 ≤ 269 →
    ∃ t, exec (.pvSel x x v) s = .next (settle t) ∧ reg t lINTG (0x200 + 0x20 * x.toNat) = BitVec.ofNat 32 (fld v 8 0) ∧
      reg t lINTG (0x204 + 0x20 * x.toNat) = (chan s (fld v 8 0)).pv.value ∧
      reg t lINTG (0x210 + 0x20 * x.toNat) = BitVec.ofNat 32 ((chan s (fld v 8 0)).pv.state.toNat + 16 * (chan s (fld v 8 0)).pv.qual.toNat +
        0x10000 * (chan s (fld v 8 0)).pv.seq.toNat) ∧ { t with act := s.act } = s) ∧
  (∀ (s : State) (c : Ctx) (v : Word), owns s c lINTG = true → fld v 8 0 ≤ 269 →
    exec (.chSel c v) s = .next (settle (setReg s lINTG 0x104 (v &&& 0x1FF#32)))) ∧
  (∀ (s : State) (c : Ctx) (v : Word), owns s c lINTG = true → 269 < fld v 8 0 →
    exec (.chSel c v) s = .next (settle (capture s lINTG c true 0x8 0x104)))

/-- R183, R191, R199, R204, R206 to R208: the Gallery's own events; GAL_DESCRIPTOR_EFFECT, GAL_ITEM_ARRIVAL, GAL_READY, GAL_EVALUATE,
GAL_EVALUATION_COMMIT, GAL_RESOLUTION, GAL_DELAY_EXPIRY, SHELF_EXPIRY, GAL_VERDICT, GAL_VERDICT_TIMEOUT, GAL_SUP_CHANGE. -/
def Obligations.GalleryEventsComplete : Prop :=
  (∀ (s : State) (p : BitVec 11) (d : List Word), galRuns s = true → (pnt s p.toNat).next = some d → (pnt s p.toNat).wait = none →
    (pnt s p.toNat).eval = none →
    exec (.galDescriptorEffect p) s = .next (settle (supRefresh (putRegionDesc (descEffect s p.toNat d) p.toNat d) p.toNat))) ∧
  (∀ (s : State) (i : Item) (rest : List GalMsg) (p : Nat) (pt : Point), s.galIn = .item i :: rest → alive s lGAL = true →
    s.gal.pts = [(p, pt)] → takesItem pt i = true → pt.slot = none →
    exec .galItemArrival s = .next (settle (setPnt { s with galIn := rest } p
      (if i.prov && !dFlag pt.desc 3 then { pt with await := pt.await ++ [i] } else { pt with slot := some i })))) ∧
  (∀ (s : State) (p : BitVec 11) (i : Item), galRuns s = true → (pnt s p.toNat).slot = some i → (pnt s p.toNat).eval = none →
    p.toNat ∉ s.gal.ready →
    exec (.galReady p) s = .next (settle { s with gal := { s.gal with ready := s.gal.ready ++ [p.toNat] } })) ∧
  (∀ (s : State) (p : Nat) (rest : List Nat) (i : Item), galRuns s = true → s.gal.ready = p :: rest → (pnt s p).next = none →
    (pnt s p).slot = some i →
    exec .galEvaluate s = .next (settle (setPnt (setReg { s with gal := { s.gal with ready := rest } } lGAL 0x11C (reg s lGAL 0x11C + 1#32))
      p { pnt s p with
        slot := none, eval := some i, evalRes := none, evDesc := (pnt s p).desc, evDev := devValue s (pnt s p).desc }))) ∧
  (∀ (s : State) (p : BitVec 11) (i : Item), works s lGAL = true → standby s = false → (pnt s p.toNat).wait = none →
    (pnt s p.toNat).eval = some i → i.prov = false →
    exec (.galEvaluationCommit p) s = .next (settle (commitItem (setPnt s p.toNat { pnt s p.toNat with eval := none, evalRes := none })
      p.toNat i))) ∧
  (∀ (s : State) (p : BitVec 11) (i : Item), works s lGAL = true → standby s = false → (pnt s p.toNat).wait = none →
    (pnt s p.toNat).eval = some i → i.prov = true → (pnt s p.toNat).evalRes = none →
    exec (.galEvaluationCommit p) s = .next (settle (setPnt s p.toNat { pnt s p.toNat with eval := none, prov := some i }))) ∧
  (∀ (s : State) (p : BitVec 11) (i : Item), galRuns s = true → (pnt s p.toNat).wait = none → (pnt s p.toNat).prov = some i →
    (pnt s p.toNat).res = some none →
    exec (.galResolution p) s = .next (settle (setPnt s p.toNat { pnt s p.toNat with
      prov := none, res := none, eval := none, evalRes := none }))) ∧
  (∀ (s : State) (p : BitVec 11) (k : BitVec 3) (t : Tmr), galRuns s = true → (pnt s p.toNat).wait = none →
    tget (pnt s p.toNat).core.tmr k.toNat none = some t →
    let o := (pnt s p.toNat).core
    let n := withActive (pnt s p.toNat).desc o (cput o.a k.toNat t.on) (tset o.tmr k.toNat none none)
    exec (.galDelayExpiry p k) s = .next (settle (commit s p.toNat n.1 n.2 1 15 (some t.stamp)))) ∧
  (∀ (s : State) (p : BitVec 11), galRuns s = true → (pnt s p.toNat).wait = none → (pnt s p.toNat).core.shelf = true →
    (pnt s p.toNat).core.st ≠ 4#3 →
    exec (.shelfExpiry p) s = .next (settle (setPnt (raise s lGAL 5) p.toNat { pnt s p.toNat with
      core := { (pnt s p.toNat).core with shelf := false } }))) ∧
  (∀ (s : State) (p : BitVec 11), galRuns s = true → (pnt s p.toNat).wait = none → (pnt s p.toNat).core.shelf = true →
    (pnt s p.toNat).core.st = 4#3 →
    let o := { (pnt s p.toNat).core with shelf := false }
    exec (.shelfExpiry p) s = .next (settle (commit (raise s lGAL 5) p.toNat { o with st := (exitState o).1 } (exitState o).2 5 15 none))) ∧
  (∀ (s : State) (p : BitVec 11) (w : PtWait) (sup : Bool), unitOn s lGAL = true → (hdr s lGAL).en = true → (pnt s p.toNat).wait = some w → s.gal.vans = [(p.toNat, sup)] →
    exec (.galVerdict p) s = .next (settle (releaseHeld (finish (setPnt (dropVerdict s p.toNat) p.toNat { pnt s p.toNat with wait := none })
      p.toNat (if sup then { w.core with sup := true, st := 5#3 } else w.core) true w.cause w.src w.stamp none)))) ∧
  (∀ (s : State) (p : BitVec 11) (w : PtWait), unitOn s lGAL = true → (hdr s lGAL).en = true → (pnt s p.toNat).wait = some w → s.gal.vans = [] →
    exec (.galVerdictTimeout p) s = .next (settle (verdictCommit (raise (countUp (dropVerdict s p.toNat) lGAL 0x124 0 32) lGAL 6)
      p.toNat false))) ∧
  (∀ (s : State) (p : Nat) (on : Bool) (rest : List (Nat × Bool)), galRuns s = true → s.grp.supq = (p, on) :: rest → (pnt s p).wait = none →
    exec .galSupChange s = .next (settle (setSup { s with grp := { s.grp with supq := rest } } p on)))

/-- R185, R194 to R202, R213: the commands of a block CMD_x; ACK_POINT, ACK_GROUP, ACK_ALL, SHELVE, UNSHELVE, OOS_SET, OOS_CLR, SOFT_WRITE,
CMD_UNKNOWN, STAT_SEL, STAT_T_READ_AUTOINC, DESC_REGION_WRITE. A command that the point's permission, state and arguments allow acts on
the point, and its RESULT is OK. -/
def Obligations.GalleryCommandsComplete : Prop :=
  ∀ (s : State) (x : Ctx) (v : Word), reaches s x lGAL = true → cmdBusy s x.toNat = false →
    let p := fld v 31 8
    let o := (pnt s p).core
    let arg := reg s lGAL (0x200 + 0x40 * x.toNat)
    let before := reg s lGAL (0x20C + 0x40 * x.toNat) ++ reg s lGAL (0x208 + 0x40 * x.toNat)
    (galRuns s = true → s.gal.pts.all (fun e => e.2.wait.isNone) = true → p ≤ 2047 →
      (mayAck s x.toNat p = true → unacked o = true → o.inst = BitVec.ofNat 8 arg.toNat →
        exec (.ackPoint x x v) s = .next (settle (cmdResult
          (finish s p { o with st := if o.st = 1#3 then 2#3 else 0#3 } false 2 x.toNat none none) x.toNat 0 1))) ∧
      ((ackSet s (some p) before).all (fun q => mayAck s x.toNat q) = true →
        let l := ackSet s (some p) before
        exec (.ackGroup x x v) s = .next (settle (cmdResult (l.foldl (fun t q => ackPoint t x.toNat q) s) x.toNat 0 l.length))) ∧
      ((ackSet s none before).all (fun q => mayAck s x.toNat q) = true →
        let l := ackSet s none before
        exec (.ackAll x x v) s = .next (settle (cmdResult (l.foldl (fun t q => ackPoint t x.toNat q) s) x.toNat 0 l.length))) ∧
      (mayShelve s x.toNat p = true → dFlag (pnt s p).desc 2 = true → o.st ≠ 6#3 → o.st ≠ 7#3 → arg.toNat ≠ 0 →
        arg.toNat ≤ cfg s lGAL 0x100 15 0 →
        exec (.shelve x x v) s = .next (settle (cmdResult (finish s p { o with
          st := 4#3, shelf := true, shelfAt := s.now, shelfS := arg.toNat } false 3 x.toNat none none) x.toNat 0 1))) ∧
      (mayShelve s x.toNat p = true → o.st = 4#3 →
        let q := exitState { o with shelf := false }
        exec (.unshelve x x v) s = .next (settle (cmdResult (commit s p { o with shelf := false, st := q.1 } q.2 4 x.toNat none) x.toNat 0 1))) ∧
      (cfgBit s lGAL 0x114 x.toNat = true → o.st ≠ 6#3 → o.st ≠ 7#3 →
        exec (.oosSet x x v) s = .next (settle (cmdResult (finish s p { o with st := 6#3, oos := true, shelf := false } false 6 x.toNat none none)
          x.toNat 0 1))) ∧
      (cfgBit s lGAL 0x114 x.toNat = true → o.st = 6#3 →
        let q := exitState { o with oos := false }
        exec (.oosClr x x v) s = .next (settle (cmdResult (commit s p { o with oos := false, st := q.1 } q.2 7 x.toNat none) x.toNat 0 1))) ∧
      (p ≤ 255 → cfgBit s lGAL 0x114 (8 + x.toNat) = true → f32Finite arg = true →
        cfg s lGAL (0x204 + 0x40 * x.toNat) 3 0 ≤ 11 →
        let q := BitVec.ofNat 4 (cfg s lGAL (0x204 + 0x40 * x.toNat) 3 0)
        let item : Item := { srcType := 5#3, idx := BitVec.ofNat 9 p, value := arg, qual := q, stamp := time64 s }
        exec (.softWrite x x v) s = .next (settle (cmdResult { s with galIn := s.galIn ++ [.item item] } x.toNat 0 0))) ∧
      exec (.cmdUnknown x x v) s = .next (settle (cmdResult s x.toNat 7 0))) ∧
    exec (.statSel x x v) s = .next (settle (latchStat (setReg s lGAL (0x218 + 0x40 * x.toNat) (v &&& 0x800007FF#32)) x.toNat (fld v 10 0))) ∧
    (let t := { s with rdata := BitVec.ofNat 64 (reg s lGAL (0x234 + 0x40 * x.toNat)).toNat }
      let i := (cfg s lGAL (0x218 + 0x40 * x.toNat) 10 0 + 1) % 2048
      exec (.statTReadAutoinc x x) s = .next (settle (if cfgBit s lGAL (0x218 + 0x40 * x.toNat) 31
        then latchStat (setFld t lGAL (0x218 + 0x40 * x.toNat) 10 0 i) x.toNat i else t))) ∧
    (∀ w : BitVec 15, x.toNat ≤ 1 → s.pinLocked = true → pathOk s x = true → unitOn s lGAL = true → (hdr s lGAL).frozen = true →
      exec (.descRegionWrite x w v) s = .next (settle { s with mem := msetLE s.mem (descBase s + 4 * w.toNat) 4 v.toNat }))

/-- CAUSE_ADDR after an access with AUTOINC: WORD counts on, then ENTRY (R241). -/
def causeAfter (s : State) : Word :=
  let n := (4 * cfg s lGRP 0x124 15 0 + cfg s lGRP 0x124 17 16 + 1) % 262144
  BitVec.ofNat 32 (0x80000000 + n / 4 + 0x10000 * (n % 4))

/-- R204, R218, R226 to R232, R241, R499: the grouping engine; GRP_INGEST_RECORD, CAUSE_HOLD_EXPIRY, FO_WINDOW_CLOSE, GRP_VERDICT_REQUEST,
CAUSE_DATA_ACCESS, GRAPH_REGION_WRITE, MIRROR_WRITE_ATTEMPT, GRP_REBUILD_DONE, GRP_SEL, NODE_SEL, LSUP_SEL. -/
def Obligations.GroupingCommandsComplete : Prop :=
  (∀ (s : State) (c : ChgItem) (rest : List ChgItem), grpRuns s = true → s.grp.locals = c :: rest →
    let t := setReg s lGRP 0x138 (reg s lGRP 0x138 + 1#32)
    exec .grpIngestRecord s = .next (settle (ingest { t with grp := { s.grp with locals := rest } } (2048 * nodeId s + c.index)
      (mirrorEntry c.st.toNat c.prio.toNat (c.act ≠ 0#8) false c.grpEn c.inst.toNat c.group.toNat c.stamp.toNat) c.stamp true))) ∧
  (∀ (s : State) (p : BitVec 23), grpRuns s = true → cstate s p.toNat = 2#2 → causeOf s p.toNat = none →
    exec (.causeHoldExpiry p) s = .next (settle (setCstate s p.toNat 0#2))) ∧
  (∀ (s : State) (p : BitVec 23) (i : Nat), grpRuns s = true → cstate s p.toNat = 2#2 → causeOf s p.toNat = some i →
    exec (.causeHoldExpiry p) s = .next (settle (walk (setCstate s p.toNat 0#2) i false false))) ∧
  (∀ (s : State) (g : BitVec 16), grpRuns s = true → (grpHdr s g.toNat).fo = 1#2 → s.grp.master = false →
    exec (.foWindowClose g) s = .next (settle (setGrpHdr s g.toNat { grpHdr s g.toNat with fo := 2#2 }))) ∧
  (∀ (s : State) (g : BitVec 16), grpRuns s = true → (grpHdr s g.toNat).fo = 1#2 → s.grp.master = true →
    exec (.foWindowClose g) s = .next (settle (masterFinal (setGrpHdr s g.toNat { grpHdr s g.toNat with fo := 2#2 }) g.toNat))) ∧
  (∀ (s : State) (p : Nat) (rest : List Nat), works s lGRP = true → (hdr s lGRP).freeze = false → s.gal.vreq = p :: rest →
    exec .grpVerdictRequest s = .next (settle { s with
      gal := { s.gal with vreq := rest, vans := s.gal.vans ++ [(p, suppressed s p)] }
      grp := { s.grp with sent := if suppressed s p then tset s.grp.sent p true false else s.grp.sent } })) ∧
  (∀ (s : State) (c : Ctx) (v : Word), owns s c lGRP = true → (hdr s lGRP).frozen = true →
    let t := { s with grp := { s.grp with causes := tset s.grp.causes (causeKey s) v 0#32 } }
    exec (.causeDataAccess c true v) s = .next (settle (if cfgBit s lGRP 0x124 31 then setReg t lGRP 0x124 (causeAfter s) else t))) ∧
  (∀ (s : State) (c : Ctx) (v : Word), owns s c lGRP = true → (hdr s lGRP).frozen = false →
    exec (.causeDataAccess c true v) s = .next (settle (capture s lGRP c true 0x8 0x128))) ∧
  (∀ (s : State) (c : Ctx) (v : Word), mayRd s c lGRP = true →
    let t := { s with rdata := BitVec.ofNat 64 (tget s.grp.causes (causeKey s) 0#32).toNat }
    exec (.causeDataAccess c false v) s = .next (settle (if cfgBit s lGRP 0x124 31 then setReg t lGRP 0x124 (causeAfter s) else t))) ∧
  (∀ (s : State) (c : Ctx) (e : BitVec 24) (v : Word), pathOk s c = true → unitOn s lGRP = true → domOn s dDRAM = true → s.pinLocked = true →
    4 * e.toNat + 4 ≤ graphSize s → (hdr s lGRP).frozen = true → c.toNat ≤ 1 →
    exec (.graphRegionWrite c e v) s = .next (settle { s with mem := msetLE s.mem (graphBase s + 4 * e.toNat) 4 v.toNat })) ∧
  (∀ (s : State) (c : Ctx) (e : BitVec 24) (v : Word), pathOk s c = true → unitOn s lGRP = true → domOn s dDRAM = true → s.pinLocked = true →
    4 * e.toNat + 4 ≤ graphSize s → ((hdr s lGRP).frozen = false ∨ 1 < c.toNat) →
    exec (.graphRegionWrite c e v) s = .next (settle (capture s lGRP c true 0x8 0))) ∧
  (∀ (s : State) (c : Ctx) (w : BitVec 24) (v : Word), pathOk s c = true → unitOn s lGRP = true → domOn s dDRAM = true → s.pinLocked = true →
    exec (.mirrorWriteAttempt c w v) s = .next (settle (capture s lGRP c true 0x8 0))) ∧
  (∀ s : State, works s lGRP = true → s.grp.rebuild = true → s.grp.due = [] →
    exec .grpRebuildDone s = .next (settle ((s.gal.pts.map (·.1)).foldl supRefresh { s with grp := { s.grp with rebuild := false } }))) ∧
  (∀ (s : State) (c : Ctx) (v : Word), owns s c lGRP = true →
    exec (.grpSel c v) s = .next (settle (latchGroup (setReg s lGRP 0x160 (v &&& 0xFFFF#32)) (fld v 15 0))) ∧
    exec (.nodeSel c v) s = .next (settle (latchNode (setReg s lGRP 0x188 (v &&& 0xFFF#32)) (fld v 11 0))) ∧
    exec (.lsupSel c v) s = .next (settle (latchLsup (setReg s lGRP 0x198 (v &&& 0x7FF#32)) (fld v 10 0))))

/-- R219 to R223, R233 to R237: the receipt of a well-formed message of another node; POINT_CHG_RX, GROUP_FO_RX, NET_ACK_RX, SYNC_DATA_RX,
SYNC_END_RX, SYNC_REQ_RX, NODE_HB_RX, CLAIM_RX, YIELD_RX. A message of another length or version is counted and dropped. -/
def Obligations.AlarmMessagesReceived : Prop :=
  ∀ (s : State) (m : List Byte), domOn s dNET = true → alive s lGRP = true →
    let typ := leNat ((m.drop 1).take 1)
    let n := bitsOf (leNat ((m.drop 4).take 2)) 11 0
    let session := BitVec.ofNat 32 (leNat ((m.drop 8).take 4))
    let seq := BitVec.ofNat 32 (leNat ((m.drop 12).take 4))
    let body := m.drop 24
    let first := !(node s n).seen && s.grp.allAsked
    let t := setNode s n { node s n with
      seen := true, pairId := BitVec.ofNat 16 (leNat ((m.drop 6).take 2))
      resync := (node s n).resync || first, asked := (node s n).asked || first }
    (24 ≤ m.length → leNat (m.take 1) = 1 → leNat ((m.drop 2).take 2) = m.length → bodyOk typ body.length = true → n ≠ nodeId s →
      (typ = 1 → exec (.pointChgRx m) s = .next (settle (election (rxEvent t n 1 session seq body)))) ∧
      (typ = 2 → exec (.groupFoRx m) s = .next (settle (election (rxEvent t n 2 session seq body)))) ∧
      (typ = 3 → exec (.netAckRx m) s = .next (settle (election (rxEvent t n 3 session seq body)))) ∧
      (typ = 5 → exec (.syncDataRx m) s = .next (settle (election (rxEvent t n 5 session seq body)))) ∧
      (typ = 6 → exec (.syncEndRx m) s = .next (settle (election (rxEvent t n 6 session seq body)))) ∧
      (typ = 4 → leNat (body.take 2) = 0xFFFF ∨ leNat (body.take 2) = nodeId s → standby s = false →
        exec (.syncReqRx m) s = .next (settle (election { t with grp := { t.grp with snapDue := true } }))) ∧
      (typ = 0x10 → exec (.nodeHbRx m) s = .next (settle (election (rxHb t n (bitsOf (leNat ((m.drop 4).take 2)) 15 15) session seq body)))) ∧
      (typ = 0x11 → exec (.claimRx m) s = .next (settle (election (offerMaster t n (leNat (body.take 1)))))) ∧
      (typ = 0x12 → leNat (body.take 2) ≠ nodeId s → s.grp.masterNode ≠ some n →
        exec (.yieldRx m) s = .next (settle (election (setNode t n (yieldBy (node t n) (bitsOf (leNat ((m.drop 4).take 2)) 15 15))))))) ∧
    (leNat (m.take 1) ≠ 1 → ∀ i : Instr, i = .pointChgRx m ∨ i = .groupFoRx m ∨ i = .netAckRx m ∨ i = .syncDataRx m ∨ i = .syncEndRx m ∨
        i = .syncReqRx m ∨ i = .nodeHbRx m ∨ i = .claimRx m ∨ i = .yieldRx m →
      exec i s = .next (settle (countUp s lGRP 0x14C 0 32)))

/-- R222, R233 to R238, R502: what the node itself sends and decides; LONIEVO_SEND, NODE_HB_SEND, SYNC_REQ_RETRY, SYNC_SNAPSHOT_SEND, NODE_LOST,
SYNC_TMO_EXPIRY, MASTER_CLAIM_WAIT_EXPIRY, MASTER_YIELD, MASTER_REJOIN, MASTER_RESYNC, NACK_ACK_POINT, NACK_ACK_GROUP. -/
def Obligations.AlarmTransportCommandsComplete : Prop :=
  (∀ (s : State) (r : TxRec), publishes s = true → alive s lGRP = true → domOn s dNET = true → s.grp.txq = [r] → r.typ ≠ 3 →
    exec .lonievoSend s = .next (settle (sendAlarm { s with grp := { s.grp with txq := [], seq := s.grp.seq + 1#32 } } r.typ r.body))) ∧
  (∀ s : State, (hdr s lGRP).en = true → unitOn s lGRP = true → domOn s dNET = true → s.pwr.phase ≠ .powerFail →
    exec .nodeHbSend s = .next (settle (sendHb (election s)))) ∧
  (∀ (s : State) (n : Nat) (v : Node), alive s lGRP = true → s.grp.nodes = [(n, v)] → v.asked = true → v.lost = false →
    s.grp.allAsked = false ∨ v.seen = true →
    exec .syncReqRetry s = .next (settle (sendAlarm s 4 (leBytes 2 n ++ [0#8, 0#8])))) ∧
  (∀ s : State, alive s lGRP = true → publishes s = true → s.grp.snapDue = true → s.gal.pts = [] →
    exec .syncSnapshotSend s = .next (settle { s with grp := { s.grp with
      snapDue := false, txq := s.grp.txq ++ [⟨6, List.replicate 260 0#8⟩] } })) ∧
  (∀ (s : State) (n : BitVec 12), alive s lGRP = true → (node s n.toNat).seen = true → (node s n.toNat).lost = false →
    cfgBit s lGRP 0x100 16 = false → s.grp.masterNode ≠ some n.toNat →
    let v := node s n.toNat
    exec (.nodeLost n) s = .next (settle (election (raise (setNode s n.toNat { v with
      lost := true, asked := false, mark := none, m0 := { v.m0 with at0 := none }, m1 := { v.m1 with at0 := none } }) lGRP 3)))) ∧
  (∀ s : State, alive s lGRP = true → s.grp.started = true →
    exec .syncTmoExpiry s = .next (settle (election { s with grp := { s.grp with syncTmo := true } }))) ∧
  (∀ s : State, s.grp.claimWait = true → s.grp.masterNode = none → eligible s = true → ranksFirst s = true →
    exec .masterClaimWaitExpiry s = .next (settle (takeRole s))) ∧
  (∀ (s : State) (c : Ctx), owns s c lGRP = true → alive s lGRP = true → s.grp.master = false →
    exec (.masterYield c) s = .next (settle (election { s with grp := { s.grp with yielded := true } }))) ∧
  (∀ (s : State) (c : Ctx) (n : Nat), owns s c lGRP = true → alive s lGRP = true → s.grp.master = true → nextMaster s = some n →
    exec (.masterYield c) s = .next (settle (election { sendAlarm s 0x12 (leBytes 2 n ++ [0#8, 0#8]) with
      grp := { (sendAlarm s 0x12 (leBytes 2 n ++ [0#8, 0#8])).grp with yielded := true } }))) ∧
  (∀ (s : State) (c : Ctx), owns s c lGRP = true → s.grp.yielded = true →
    exec (.masterRejoin c) s = .next (settle (election { s with grp := { s.grp with yielded := false } }))) ∧
  (∀ (s : State) (c : Ctx), owns s c lGRP = true → alive s lGRP = true → s.grp.nodes = [] →
    exec (.masterResync c) s = .next (settle (sendSyncReq s 0xFFFF))) ∧
  (∀ (s : State) (x : Ctx) (v : Word), reaches s x lGRP = true → alive s lGRP = true → nackBusy s x.toNat = false →
    let tail := leBytes 1 x.toNat ++ [0#8, 0#8] ++ leBytes 4 (fld v 31 8) ++ leBytes 4 (reg s lGRP (0x208 + 0x20 * x.toNat)).toNat ++
      leBytes 4 (reg s lGRP (0x20C + 0x20 * x.toNat)).toNat
    exec (.nackAckPoint x x v) s = .next (settle { s with grp := { s.grp with txq := s.grp.txq ++ [⟨3, leBytes 1 1 ++ tail⟩] } }) ∧
    exec (.nackAckGroup x x v) s = .next (settle { s with grp := { s.grp with txq := s.grp.txq ++ [⟨3, leBytes 1 2 ++ tail⟩] } }))

/-- R245 to R262, R265, R267: calls, the call loops, the dead-man timer and the commands of ECMD_x; ECHO_ITEM, ECHO_GROUP_TERM, ECHO_STAGE_END, CALL_FRAME_START,
CALL_REPLY, CALL_LINE_OPEN, CALL_LINE_SHORT, CALL_LINE_RETRY, CALL_LINE_OK, DM_PREWARN, DM_EXPIRY, ECHO_ACCEPT, DM_RESET_CMD, DM_ARM_CMD, DM_DISARM_CMD, TEST_CU,
TEST_CU_END, ECMD_UNKNOWN. -/
def Obligations.EchoCommandsComplete : Prop :=
  (∀ (s : State) (c : ChgItem) (k : Nat) (rest : List EchoIn), echoRuns s = true → s.echo.inq = .point c k :: rest →
    exec .echoItem s = .next (settle (echoPoint { s with echo := { s.echo with inq := rest } } c k))) ∧
  (∀ (s : State) (g k : Nat) (term rose : Bool) (rest : List EchoIn), echoRuns s = true → s.echo.inq = .group g k term rose :: rest →
    exec .echoGroupTerm s = .next (settle (echoGroup { s with echo := { s.echo with inq := rest } } g k term rose))) ∧
  (∀ (s : State) (k : Fin 17), callsRun s = true → (hdr s lECHO).frozen = false → (call s k.val).st = 1#2 → (call s k.val).stage.toNat < 4 →
    exec (.echoStageEnd k) s = .next (settle (notify (enterStage s k.val ((call s k.val).stage.toNat + 1)) 2 k.val
      (BitVec.ofNat 32 (if k.val < 16 then members s k.val else 0))))) ∧
  (∀ s : State, framesRun s = true →
    ∃ t, exec .callFrameStart s = .next (settle t) ∧ t.echo.fnum = s.echo.fnum + 1#2 ∧ t.echo.calls = s.echo.calls ∧
      { t with echo := s.echo, out := s.out, fresh := s.fresh } = s) ∧
  (∀ (s : State) (x : BitVec 1) (a : Nat) (r : CuReply), framesRun s = true → lineFault (callLine s x.toNat) = false →
    (callLine s x.toNat).poll = some a → crc8 13 (256 * a + r.stat.toNat) = r.crc.toNat →
    exec (.callReply x (some r)) s = .next (settle (pollAnswered (setCallLine s x.toNat { callLine s x.toNat with poll := none })
      x.toNat a r.stat))) ∧
  (∀ (s : State) (x : BitVec 1) (a : Nat), framesRun s = true → lineFault (callLine s x.toNat) = false → (callLine s x.toNat).poll = some a →
    exec (.callReply x none) s = .next (settle (pollMissed (setCallLine s x.toNat { callLine s x.toNat with poll := none }) x.toNat a))) ∧
  (∀ (s : State) (x : BitVec 1), alive s lECHO = true → (List.range 32).any (fun a => cuEnabled s (32 * x.toNat + a)) = true →
    (callLine s x.toNat).opened = false →
    exec (.callLineOpen x) s = .next (settle (notify (setCallLine s x.toNat { callLine s x.toNat with opened := true, poll := none })
      12 0xFF (BitVec.ofNat 32 x.toNat)))) ∧
  (∀ (s : State) (x : BitVec 1), alive s lECHO = true → (callLine s x.toNat).short = false →
    exec (.callLineShort x) s = .next (settle (notify (setCallLine s x.toNat { callLine s x.toNat with
      short := true, off := true, poll := none }) 12 0xFF (BitVec.ofNat 32 (x.toNat + 256))))) ∧
  (∀ (s : State) (x : BitVec 1), alive s lECHO = true → (callLine s x.toNat).short = true →
    exec (.callLineRetry x) s = .next (settle (setCallLine s x.toNat { callLine s x.toNat with off := false }))) ∧
  (∀ (s : State) (x : BitVec 1), alive s lECHO = true → lineFault (callLine s x.toNat) = true → (callLine s x.toNat).off = false →
    exec (.callLineOk x) s = .next (settle (notify (setCallLine s x.toNat { callLine s x.toNat with
      opened := false, short := false, missed := [] }) 13 0xFF (BitVec.ofNat 32 (x.toNat + 256 * b2n (callLine s x.toNat).short))))) ∧
  (∀ s : State, domOn s dAON = true → domOn s dGAL = true → standby s = false → callsRun s = false → s.echo.dm.slept = false →
    s.echo.dm.st = 1#2 →
    exec .dmPrewarn s = .next (settle { s with echo := { s.echo with dm := { s.echo.dm with st := 2#2, owedPrew := true } } })) ∧
  (∀ s : State, domOn s dAON = true → domOn s dGAL = true → standby s = false → callsRun s = false → s.echo.dm.slept = false →
    s.echo.dm.st = 2#2 →
    exec .dmExpiry s = .next (settle { s with echo := { s.echo with dm := { s.echo.dm with st := 3#2, owedExp := true } } })) ∧
  (∀ s : State, domOn s dAON = true → domOn s dGAL = true → callsRun s = true → s.echo.dm.st = 1#2 → s.echo.dm.owedExp = false →
    exec .dmPrewarn s = .next (settle (notifyFree { s with echo := { s.echo with dm := { s.echo.dm with st := 2#2, owedPrew := false, slept := false } } } 8 0xFF))) ∧
  (∀ s : State, domOn s dAON = true → domOn s dGAL = true → callsRun s = true → s.echo.dm.st = 2#2 → s.echo.dm.owedPrew = false →
    (call s 16).st = 0#2 →
    exec .dmExpiry s = .next (settle (openCall (notifyFree { s with echo := { s.echo with dm := { s.echo.dm with st := 3#2, owedExp := false, slept := false } } }
      9 0xFF) 16 false none))) ∧
  (∀ s : State, domOn s dAON = true → domOn s dGAL = false → standby s = false → s.echo.dm.st = 1#2 →
    exec .dmPrewarn s = .next (settle (wake { s with echo := { s.echo with dm := { s.echo.dm with st := 2#2, owedPrew := true, slept := true } } } 5#4))) ∧
  (∀ s : State, domOn s dAON = true → domOn s dGAL = false → standby s = false → s.echo.dm.st = 2#2 →
    exec .dmExpiry s = .next (settle (wake { s with echo := { s.echo with dm := { s.echo.dm with st := 3#2, owedExp := true, slept := true } } } 5#4))) ∧
  (∀ (s : State) (x : Ctx) (v : Word), reaches s x lECHO = true → alive s lECHO = true → (hdr s lECHO).freeze = false → standby s = false →
    (cfgBit s lECHO 0x110 x.toNat = true → fld v 15 8 ≤ 16 → (call s (fld v 15 8)).st = 1#2 →
      exec (.echoAccept x x v) s = .next (settle (ecmdResult (acceptCall s (fld v 15 8) (64 + x.toNat)) x.toNat 0))) ∧
    (cfgBit s lECHO 0x110 (8 + x.toNat) = true → s.echo.dm.st ≠ 0#2 →
      exec (.dmResetCmd x x v) s = .next (settle (ecmdResult (clearCall (notify (dmReload s) 7 0xFF (BitVec.ofNat 32 (64 + x.toNat))) 16)
        x.toNat 0))) ∧
    (cfgBit s lECHO 0x110 (8 + x.toNat) = true → 64 ≤ cfg s lECHO 0x10C 6 0 → s.echo.dm.st = 0#2 →
      exec (.dmArmCmd x x v) s = .next (settle (ecmdResult (notify (dmReload s) 5 0xFF (BitVec.ofNat 32 (64 + x.toNat))) x.toNat 0))) ∧
    (cfgBit s lECHO 0x110 (8 + x.toNat) = true → 64 ≤ cfg s lECHO 0x10C 6 0 → s.echo.dm.st ≠ 0#2 →
      exec (.dmDisarmCmd x x v) s = .next (settle (ecmdResult (clearCall (notify { s with echo := { s.echo with dm := { s.echo.dm with
        st := 0#2, owedPrew := false, owedExp := false, slept := false } } } 6 0xFF (BitVec.ofNat 32 (64 + x.toNat))) 16) x.toNat 0))) ∧
    (cfgBit s lECHO 0x110 (16 + x.toNat) = true → fld v 15 8 ≤ 63 →
      exec (.testCu x x v) s = .next (settle (ecmdResult (testRing s (fld v 15 8) true) x.toNat 0))) ∧
    exec (.ecmdUnknown x x v) s = .next (settle (ecmdResult s x.toNat 5))) ∧
  (∀ (s : State) (u : BitVec 6), alive s lECHO = true → exec (.testCuEnd u) s = .next (settle (testRing s u.toNat false)))

/-- R301 to R305, R318: digital inputs; DI_FILTERED_CHANGE, DI_WIRE_BREAK, DI_WIRE_BREAK_CLEAR, DI_COUNTER_EDGE, DI_GATE_END, DI_WAKE. -/
def Obligations.DigitalInputCommandsComplete : Prop :=
  (∀ (s : State) (n : BitVec 6) (mv : BitVec 16) (d : DWord), diOn s n.toNat = true → (diCh s n.toNat).wb = false →
    let c := diCh s n.toNat
    let up := if bit (diCfg s n.toNat) 1 then 9000 else 12500
    let down := if bit (diCfg s n.toNat) 1 then 7000 else 10000
    let level := decide (up ≤ mv.toNat) || (decide (down < mv.toNat) && c.raw)
    (works s lFIO = true → c.filt ≠ level →
      exec (.diFilteredChange n mv d) s = .next (settle (diItem (setDi (raise s lFIO 0) n.toNat { c with filt := level, raw := level }) n.toNat d))) ∧
    (works s lFIO = true → c.filt = level → c.first = true →
      exec (.diFilteredChange n mv d) s = .next (settle (setDi s n.toNat { c with raw := level }))) ∧
    (works s lFIO = true → c.filt = level → c.first = false →
      exec (.diFilteredChange n mv d) s = .next (settle (diItem (setDi s n.toNat { c with raw := level }) n.toNat d))) ∧
    (alive s lFIO = true → (hdr s lFIO).frozen = true →
      exec (.diFilteredChange n mv d) s = .next (settle (setDi s n.toNat { c with raw := level, edge := d })))) ∧
  (∀ (s : State) (n : BitVec 6) (d : DWord), works s lFIO = true → diOn s n.toNat = true → bit (diCfg s n.toNat) 2 = true →
    (diCh s n.toNat).wb = false →
    exec (.diWireBreak n d) s = .next (settle (diItem (withFaults (raise s lFIO 1) (fun t => setDi t n.toNat { diCh s n.toNat with wb := true }))
      n.toNat d))) ∧
  (∀ (s : State) (n : BitVec 6) (d : DWord), works s lFIO = true → diOn s n.toNat = true → (diCh s n.toNat).wb = true →
    exec (.diWireBreakClear n d) s = .next (settle (diItem (withFaults s (fun t => setDi t n.toNat { diCh t n.toNat with wb := false }))
      n.toNat d))) ∧
  (∀ (s : State) (n : BitVec 3) (b : Bool) (d : DWord), alive s lFIO = true → diOn s n.toNat = true → edgeCounts s b = true →
    exec (.diCounterEdge n b d) s = .next (settle (setDi (setReg s lFIO (0x150 + 4 * n.toNat) (reg s lFIO (0x150 + 4 * n.toNat) + 1#32)) n.toNat
      { diCh s n.toNat with
        raw := b, gateN := (diCh s n.toNat).gateN + 1, gateLast := d,
        gateFirst := if (diCh s n.toNat).gateN = 0 then d else (diCh s n.toNat).gateFirst }))) ∧
  (∀ (s : State) (n : BitVec 3), works s lFIO = true → diOn s n.toNat = true → (diCh s n.toNat).gateN < 2 →
    exec (.diGateEnd n) s = .next (settle (fioItem (setReg (setDi s n.toNat { diCh s n.toNat with gateN := 0 }) lFIO (0x170 + 4 * n.toNat) f32Zero)
      2 n.toNat f32Zero 0#4 (time64 s)))) ∧
  (∀ (s : State) (n : BitVec 3), works s lFIO = true → diOn s n.toNat = true → 2 ≤ (diCh s n.toNat).gateN →
    (diCh s n.toNat).gateFirst.toNat < (diCh s n.toNat).gateLast.toNat →
    let c := diCh s n.toNat
    let f := f32RoundRat (((c.gateN - 1) * 1000000000 : Nat) : Int) (c.gateLast.toNat - c.gateFirst.toNat) 0 64 false
    exec (.diGateEnd n) s = .next (settle (fioItem (setReg (setDi s n.toNat { c with gateN := 0 }) lFIO (0x170 + 4 * n.toNat) f)
      2 n.toNat f 0#4 (time64 s)))) ∧
  (∀ (s : State) (n : BitVec 3), alive s lFIO = true → (hdr s lFIO).frozen = true → diOn s n.toNat = true →
    exec (.diGateEnd n) s = .next (settle (setDi s n.toNat { diCh s n.toNat with gateN := 0 }))) ∧
  (∀ (s : State) (n : BitVec 3), s.fio.wakeEn.getLsbD n.toNat = true → s.pwr.pstate = .sleep → s.pwr.phase = .run →
    ∃ t, exec (.diWake n) s = .next (settle t) ∧ t = wake s 2#4 ∧ t.pwr.pstate = .run ∧ t.pwr.lastWake = 2#4 ∧ t.pwr.rstCause = s.pwr.rstCause)

/-- R306 to R317, R320, R321: outputs; DO_PWM_PERIOD_END, DO_LEVEL_WRITE, AO_SET_WRITE, DO_READBACK_ERROR, DO_READBACK_OK, DO_PROTECT_TRIP,
DO_FAULT_CLEAR, DO_AUTORETRY, DO_OPEN_LOAD, DO_OPEN_LOAD_CLEAR, FIO_SUPPLY_FAULT, FIO_SUPPLY_FAULT_CLEAR, AO_FAULT, AO_FAULT_CLEAR,
FORCE_LOCK_TAKE, FORCE_LOCK_RELEASE, FORCE_LOCK_EXPIRY, DO_FORCE_WRITE, AO_FORCE_WRITE. A fault bit that changes gives its item. -/
def Obligations.OutputCommandsComplete : Prop :=
  (∀ (s : State) (n : BitVec 5), works s lFIO = true → (hdr s lFIO).pend = none →
    exec (.doPwmPeriodEnd n) s = .next (settle (setDo s n.toNat { doCh s n.toNat with
      perAt := s.now, eff := if doSel s n.toNat = 5 then loopDuty s n.toNat else none }))) ∧
  (∀ (s : State) (c : Ctx) (v : Word), owns s c lFIO = true → exec (.doLevelWrite c v) s = .next (settle (setReg s lFIO 0x120 v))) ∧
  (∀ (s : State) (c : Ctx) (n : BitVec 4) (v : Word), owns s c lFIO = true →
    exec (.aoSetWrite c n v) s = .next (settle (setReg s lFIO (0x504 + 16 * n.toNat) (v &&& 0xFFFF#32)))) ∧
  (∀ (s : State) (n : BitVec 5), readsBack s n.toNat = true → (doCh s n.toNat).rbErr = false →
    exec (.doReadbackError n) s = .next (settle (withFaults (raise s lFIO 2) (fun t => setDo t n.toNat { doCh t n.toNat with rbErr := true })))) ∧
  (∀ (s : State) (n : BitVec 5), readsBack s n.toNat = true → (doCh s n.toNat).rbErr = true →
    exec (.doReadbackOk n) s = .next (settle (withFaults s (fun t => setDo t n.toNat { doCh t n.toNat with rbErr := false })))) ∧
  (∀ (s : State) (n : BitVec 5) (b : Bool), doCmd s n.toNat ≠ .off →
    exec (.doProtectTrip n b) s = .next (settle (withFaults (raise s lFIO 2) (fun t => setDo t n.toNat { doCh t n.toNat with
      tripped := true, sc := (doCh t n.toNat).sc || !b, therm := (doCh t n.toNat).therm || b })))) ∧
  (∀ (s : State) (c : Ctx) (n : BitVec 5) (v : Word), owns s c lFIO = true →
    let o := doCh s n.toNat
    let again := (bit v 0 && o.sc) || (bit v 3 && o.therm)
    exec (.doFaultClear c n v) s = .next (settle (withFaults s (fun t => setDo t n.toNat { o with
      sc := o.sc && !bit v 0, therm := o.therm && !bit v 3, tripped := o.tripped && !again })))) ∧
  (∀ (s : State) (n : BitVec 5), alive s lFIO = true → bit (doCfg s n.toNat) 7 = true → (doCh s n.toNat).tripped = true →
    exec (.doAutoretry n) s = .next (settle (setDo s n.toNat { doCh s n.toNat with tripped := false }))) ∧
  (∀ (s : State) (n : BitVec 5), works s lFIO = true → bit (doCfg s n.toNat) 6 = true → steadyHigh (doCmd s n.toNat) = true →
    s.fio.sup.getLsbD (n.toNat / 8) = false → (doCh s n.toNat).openLoad = false →
    exec (.doOpenLoad n) s = .next (settle (withFaults (raise s lFIO 2) (fun t => setDo t n.toNat { doCh t n.toNat with openLoad := true })))) ∧
  (∀ (s : State) (n : BitVec 5), works s lFIO = true → s.fio.sup.getLsbD (n.toNat / 8) = false → (doCh s n.toNat).openLoad = true →
    exec (.doOpenLoadClear n) s = .next (settle (withFaults s (fun t => setDo t n.toNat { doCh t n.toNat with openLoad := false })))) ∧
  (∀ (s : State) (b : Fin 6), supplyWatched s b.val = true → s.fio.sup.getLsbD b.val = false →
    exec (.fioSupplyFault b) s = .next (settle (withFaults (raise s lFIO 4) (fun t => { t with
      fio := { t.fio with sup := t.fio.sup ||| BitVec.ofNat 6 (2 ^ b.val) } })))) ∧
  (∀ (s : State) (b : Fin 6), alive s lFIO = true → s.fio.sup.getLsbD b.val = true →
    exec (.fioSupplyFaultClear b) s = .next (settle (withFaults s (fun t => { t with
      fio := { t.fio with sup := t.fio.sup &&& ~~~BitVec.ofNat 6 (2 ^ b.val) } })))) ∧
  (∀ (s : State) (n : BitVec 4) (x : Nat), aoCode s n.toNat = some x → bit (aoCfg s n.toNat) 2 = true → (aoCh s n.toNat).short = false →
    exec (.aoFault n true) s = .next (settle (withFaults (raise s lFIO 3) (fun t => setAo t n.toNat { aoCh s n.toNat with short := true })))) ∧
  (∀ (s : State) (n : BitVec 4) (x : Nat), works s lFIO = true → aoCode s n.toNat = some x → bit (aoCfg s n.toNat) 2 = false →
    bit (aoCfg s n.toNat) 3 = true → (aoCh s n.toNat).loopBreak = false →
    exec (.aoFault n false) s = .next (settle (withFaults (raise s lFIO 3) (fun t => setAo t n.toNat { aoCh s n.toNat with loopBreak := true })))) ∧
  (∀ (s : State) (n : BitVec 4), alive s lFIO = true →
    exec (.aoFaultClear n) s = .next (settle (withFaults s (fun t => setAo t n.toNat { aoCh t n.toNat with
      short := false, loopBreak := (aoCh t n.toNat).loopBreak && (aoCode t n.toNat).isNone })))) ∧
  (∀ (s : State) (c : Ctx) (v : Word), reaches s c lFIO = true → cfgBit s lFIO 0x100 (24 + c.toNat) = true →
    (s.fio.lock = none ∨ s.fio.lock = some c) → 1 ≤ fld (v ||| 0x80000000#32) 27 16 → fld (v ||| 0x80000000#32) 27 16 ≤ 3600 →
    exec (.forceLockTake c v) s = .next (settle { s with fio := { s.fio with
      lock := some c, lockUntil := s.now + 1000000000 * fld (v ||| 0x80000000#32) 27 16 } })) ∧
  (∀ (s : State) (c : Ctx) (v : Word), reaches s c lFIO = true → cfgBit s lFIO 0x100 (24 + c.toNat) = true → s.fio.lock = some c →
    exec (.forceLockRelease c v) s = .next (settle (forcesEnd s))) ∧
  (∀ s : State, alive s lFIO = true → s.fio.lock ≠ none → exec .forceLockExpiry s = .next (settle (forcesEnd s))) ∧
  (∀ (s : State) (c : Ctx) (n : BitVec 5) (v : Word), reaches s c lFIO = true → s.fio.lock = some c →
    exec (.doForceWrite c n v) s = .next (settle (withFaults s (fun t => setReg t lFIO (0x600 + 4 * n.toNat) (v &&& 3#32))))) ∧
  (∀ (s : State) (c : Ctx) (n : BitVec 4) (v : Word), reaches s c lFIO = true → s.fio.lock = some c →
    exec (.aoForceWrite c n v) s = .next (settle (withFaults s (fun t => setReg t lFIO (0x680 + 4 * n.toNat) (v &&& 0x1FFFF#32)))))

/-- R177, R269 to R273, R282, R286, R288, R292, R293: the loop engine; LOOP_FRAME_START, LOOP_SLOT_EXECUTE, LOOP_FB_ARRIVAL, LOOP_FB_RESOLUTION,
LOOP_FB_DEADLINE, LOOP_OUTPUT_LATCH, LOOP_CMD_AUTO, LOOP_CMD_MANUAL, LOOP_CMD_TRIP_CLR, GAIN_TABLE_WRITE. -/
def Obligations.LoopCommandsComplete : Prop :=
  (∀ s : State, loopRuns s = true → (hdr s lLOOP).freeze = false → (hdr s lLOOP).pend = none →
    exec .loopFrameStart s = .next (settle (frameBegin s ((reg s lLOOP 0x104).toNat + 1)))) ∧
  (∀ s : State, loopRuns s = true → (hdr s lLOOP).freeze = true → exec .loopFrameStart s = .next (settle (frameStop s))) ∧
  (∀ (s : State) (n : BitVec 6), slotEnters s n.toNat = true → (slot s n.toNat).old = [] → slotRel s n.toNat = true →
    exec (.loopSlotExecute n) s = .next (settle (takeEarly (slotRun (setSlot s n.toNat { slot s n.toNat with execd := true }) n.toNat) n.toNat))) ∧
  (∀ (s : State) (n : BitVec 6), slotEnters s n.toNat = true → (slot s n.toNat).old = [] → (slot s n.toNat).early = [] →
    slotRel s n.toNat = false → sFbKind s n.toNat = 0 → sSpec s n.toNat = true → (slot s n.toNat).core.held = none →
    exec (.loopSlotExecute n) s = .next (settle (setSlot s n.toNat { slot s n.toNat with execd := true, status := false }))) ∧
  (∀ (s : State) (n m : BitVec 6), slotWaits s m.toNat = true → slotReady s m.toNat = true → slotBefore s m.toNat n.toNat = true →
    exec (.loopSlotExecute n) s = .next (settle s)) ∧
  (∀ (s : State) (n : BitVec 6) (x : Sample), alive s lLOOP = true → (slot s n.toNat).evalIn = some x → (slot s n.toNat).early = [] →
    exec (.loopFbArrival n) s = .next (settle (setSlot s n.toNat { slot s n.toNat with
      evalIn := none, arr := some (.value (smpId x.ch x.seq.toNat) (loopEval s n.toNat x).1 (BitVec.ofNat 4 (loopEval s n.toNat x).2)),
      waits := (slot s n.toNat).waits ++ [(smpId x.ch x.seq.toNat, (loopEval s n.toNat x).1)], status := false, readyAt := s.now,
      lastFx := if (loopEval s n.toNat x).2 ≤ 1 then (loopEval s n.toNat x).1 else (slot s n.toNat).lastFx }))) ∧
  (∀ (s : State) (n : BitVec 6) (q : Nat) (r : Option (BitVec 4)) (rest : List (Nat × Option (BitVec 4))), alive s lLOOP = true →
    (slot s n.toNat).resIn = (q, r) :: rest →
    (tooEarly s n.toNat q = false →
      exec (.loopFbResolution n) s = .next (settle (resolved (setSlot s n.toNat { slot s n.toNat with resIn := rest }) n.toNat q r))) ∧
    (tooEarly s n.toNat q = true → exec (.loopFbResolution n) s = .next (settle (setSlot s n.toNat { slot s n.toNat with
      resIn := rest, early := (slot s n.toNat).early ++ [(q, r)] })))) ∧
  (∀ (s : State) (n : BitVec 6), slotWaits s n.toNat = true → runFbKind s n.toNat = 0 → runSpec s n.toNat = false → slotReady s n.toNat = false →
    let t := setSlot s n.toNat { slot s n.toNat with late := true, readyAt := s.now }
    (slotEnters t n.toNat = true → (slot s n.toNat).old = [] → slotRel s n.toNat = true → exec (.loopFbDeadline n) s =
      .next (settle (takeEarly (slotRun (setSlot t n.toNat { slot t n.toNat with execd := true }) n.toNat) n.toNat))) ∧
    (slotEnters t n.toNat = false → exec (.loopFbDeadline n) s = .next (settle t))) ∧
  (∀ (s : State) (n : BitVec 6), loopRuns s = true → (slot s n.toNat).due = true → slotRel s n.toNat = true → (slot s n.toNat).old = [] →
    exec (.loopOutputLatch n) s = .next (settle (putOut (setSlot s n.toNat { slot s n.toNat with
      due := false, lat := (slot s n.toNat).out, latProv := (slot s n.toNat).prov }) n.toNat (slot s n.toNat).out (slot s n.toNat).prov))) ∧
  (∀ (s : State) (c : Ctx) (n : BitVec 6) (i : Instr) (op : BitVec 2), owns s c (uSLOT n.toNat) = true →
    (i = .loopCmdAuto c n ∧ op = 1#2) ∨ (i = .loopCmdManual c n ∧ op = 2#2) ∨ (i = .loopCmdTripClr c n ∧ op = 3#2) →
    exec i s = .next (settle (setSlot s n.toNat { slot s n.toNat with cmds := (slot s n.toNat).cmds ++ [op] }))) ∧
  (∀ (s : State) (c : Ctx) (w : BitVec 16) (v : Word), pathOk s c = true → unitOn s lLOOP = true → s.pinLocked = true →
    w.toNat < 0x4000 → bankLocked s (4 * w.toNat / 0x400) (4 * w.toNat / 0x200 % 2) = false →
    exec (.gainTableWrite c w v) s = .next (settle { s with mem := msetLE s.mem (loopBase s + 4 * w.toNat) 4 v.toNat })) ∧
  (∀ (s : State) (c : Ctx) (w : BitVec 16) (v : Word), pathOk s c = true → unitOn s lLOOP = true → s.pinLocked = true →
    (0x4000 ≤ w.toNat ∨ bankLocked s (4 * w.toNat / 0x400) (4 * w.toNat / 0x200 % 2) = true) →
    exec (.gainTableWrite c w v) s = .next (settle (capture s lLOOP c true 0x8 0)))

/-- AT_ADDR after an access with AUTOINC: WORD counts on, then ENTRY (R348). -/
def atAfter (s : State) : Word :=
  let n := (4 * atEntry s + atSel s + 1) % 4096
  BitVec.ofNat 32 (0x80000000 + n / 4 + 0x10000 * (n % 4))

/-- R326 to R349, R485, R486: the panels; LANT_FRAME_BOUNDARY, LANT_UPDATE, LANT_UPDATE_ALL, AT_DATA_WRITE, FS_DATA_WRITE, VCOL_FAULT,
BIST_UPDATE_START, BIST_PHASE_END, BIST_RECOVERY_START, BIST_RECOVERY_DONE, BIST_STALE_CLEAR, BIST_REG_CMD_GO, WF_DATA_WRITE, DRIVE_FAULT. -/
def Obligations.DisplayCommandsComplete : Prop :=
  (∀ s : State, lantScans s = true → works s lLANT = true → (hdr s lLANT).pend = none → s.lant.commits = [] → s.lant.updates = [] →
    ∃ t, exec .lantFrameBoundary s = .next (settle t) ∧ t.lant.frames = s.lant.frames + 1#32 ∧
      t.lant.blinkA = blinkOn s 0x104 (time64 s) ∧ t.lant.blinkB = blinkOn s 0x108 (time64 s) ∧ t.lant.front = s.lant.front ∧
      t.lant.back = s.lant.back ∧ t.lant.at0 = s.lant.at0 ∧ { t with lant := s.lant } = s) ∧
  (∀ (s : State) (c : Ctx) (v : Word), owns s c lLANT = true → bit v 31 = true → bit v 15 = false →
    exec (.lantUpdate c v) s = .next (settle { s with lant := { s.lant with updates := s.lant.updates ++ [some (fld v 9 0)] } })) ∧
  (∀ (s : State) (c : Ctx) (v : Word), owns s c lLANT = true → bit v 31 = true → bit v 15 = true →
    exec (.lantUpdateAll c v) s = .next (settle { s with lant := { s.lant with updates := s.lant.updates ++ [none] } })) ∧
  (∀ (s : State) (c : Ctx) (v : Word), owns s c lLANT = true →
    let next (t : State) : State := if cfgBit s lLANT 0x118 31 then setReg t lLANT 0x118 (atAfter s) else t
    (atSel s = 0 → exec (.atDataWrite c v) s = .next (settle (next { s with lant := { s.lant with
      staged := tset s.lant.staged (2 * atEntry s) (some v) none } }))) ∧
    (atSel s = 1 → atOk (atStaged s (atEntry s) 0) v = true → exec (.atDataWrite c v) s = .next (settle (next { s with lant := { s.lant with
      staged := tset s.lant.staged (2 * atEntry s + 1) (some v) none
      commits := s.lant.commits ++ [(atEntry s, atStaged s (atEntry s) 0, v)] } }))) ∧
    (atSel s = 1 → atOk (atStaged s (atEntry s) 0) v = false →
      exec (.atDataWrite c v) s = .next (settle (capture s lLANT c true 0x8 0x11C))) ∧
    (2 ≤ atSel s → exec (.atDataWrite c v) s = .next (settle (next s)))) ∧
  (∀ (s : State) (c : Ctx) (v : Word), owns s c lLANT = true →
    let t := { s with lant := { s.lant with
      back := msetLE s.lant.back (4 * cfg s lLANT 0x120 11 0) 4 (v &&& 0x7F7F7F7F#32).toNat } }
    let a := reg s lLANT 0x120
    exec (.fsDataWrite c v) s = .next (settle (if bit a 31 then setReg t lLANT 0x120 (maskMerge 0xFFF#32 a (a + 1#32)) else t))) ∧
  (∀ (s : State) (ok : Bool), present s lLANT = true →
    exec (.vcolFault ok) s = .next (settle { s with lant := { s.lant with vcolOk := ok, vcolFault := !ok } })) ∧
  (∀ (s : State) (r : BitVec 5) (l : BitVec 2), updMay s = true → bEn s r.toNat = true → (bReg s r.toNat).run = false →
    (bReg s r.toNat).steps = [] → (bReg s r.toNat).begun = true → (bReg s r.toNat).pend = some l → l ≠ (bReg s r.toNat).shown →
    exec (.bistUpdateStart r) s = .next (settle (startUpdate s r.toNat l))) ∧
  (∀ (s : State) (r : BitVec 5), stepRuns s r.toNat = true → exec (.bistPhaseEnd r) s = .next (settle (phaseEnd s r.toNat))) ∧
  (∀ s : State, calcMay s = true → s.bist.recovered = false → s.bist.recovery = false → s.grot.calcOk = false →
    exec .bistRecoveryStart s = .next (settle ((regionsOn s).foldl (fun t r => recoverRegion t false r)
      { s with bist := { s.bist with recovery := true, dirty := 0xFFFFFFFF#32 } }))) ∧
  (∀ s : State, calcMay s = true → s.bist.recovered = false → s.bist.recovery = false → s.grot.calcOk = true →
    exec .bistRecoveryStart s = .next (settle ((regionsOn s).foldl (fun t r => recoverRegion t true r)
      { s with bist := { s.bist with recovery := true, dirty := BitVec.ofNat 32 (jget s 0x44 4) } }))) ∧
  (∀ s : State, s.bist.recovery = true → calcOn s = true → s.pwr.fail = false → regionsOn s = [] →
    exec .bistRecoveryDone s = .next (settle (bistRefreshAll (raise { s with bist := { s.bist with recovery := false, recovered := true } } lBIST 1)))) ∧
  (∀ s : State, calcMay s = true → initDone s = true → regionsOn s ≠ [] → s.bist.stale = true →
    exec .bistStaleClear s = .next (settle (raise { s with bist := { s.bist with stale := false } } lBIST 2))) ∧
  (∀ (s : State) (c : Ctx) (r : BitVec 5) (v : Word), owns s c lBIST = true → bSrc s r.toNat = true → bit v 31 = true →
    exec (.bistRegCmdGo c r v) s = .next (settle (requestLook s r.toNat (BitVec.ofNat 2 (fld v 1 0))))) ∧
  (∀ (s : State) (c : Ctx) (r : BitVec 5) (v : Word), owns s c lBIST = true → bSrc s r.toNat = false →
    exec (.bistRegCmdGo c r v) s = .next (settle (capture s lBIST c true 0x8 (bOff r.toNat + 0x14)))) ∧
  (∀ (s : State) (c : Ctx) (v : Word), owns s c lBIST = true → cfg s lBIST 0x10C 3 0 ∉ wfNamed s →
    let i := 16 * cfg s lBIST 0x10C 3 0 + cfg s lBIST 0x10C 11 8
    let t := { s with bist := { s.bist with wf := tset s.bist.wf i (v &&& 0xFFFF#32) 0#32 } }
    let n := (i + 1) % 256
    exec (.wfDataWrite c v) s = .next (settle (if cfgBit s lBIST 0x10C 31
      then setReg t lBIST 0x10C (BitVec.ofNat 32 (0x80000000 + n / 16 + 256 * (n % 16))) else t))) ∧
  (∀ (s : State) (c : Ctx) (v : Word), owns s c lBIST = true → cfg s lBIST 0x10C 3 0 ∈ wfNamed s →
    exec (.wfDataWrite c v) s = .next (settle (capture s lBIST c true 0x8 0x110))) ∧
  (∀ (s : State) (b : Bool), present s lBIST = true →
    exec (.driveFault b) s = .next (settle { s with bist := { s.bist with drive := b } }))

/-- R412 to R421, R426, R428 to R432: DMA_DESCRIPTOR_START, DMA_BEAT, DMA_DESCRIPTOR_DONE, Q_RESUME, Q_SKIP, Q_STOP, Q_TAIL_WRITE, Q_HEAD_WRITE,
EVENT_ENTRY_WRITE, AGE_PROMOTION, PIN_LOCK. -/
def Obligations.DmaCommandsComplete : Prop :=
  (∀ (s : State) (q : BitVec 6) (b : List Byte), dmaRuns s = true → (queue s q.toNat).run = none → (hdr s (uQUEUE q.toNat)).pend = none →
    qState s q.toNat = 2 → qEvent s q.toNat = false → qHost s q.toNat = true → qHostUp s q.toNat = true → b.length = 32 →
    exec (.dmaDescriptorStart q (.data b)) s = .next (settle (setQueue s q.toNat { queue s q.toNat with
      run := some { d := descOf b, code := startCode s q.toNat (descOf b) }, promoted := false }))) ∧
  (∀ (s : State) (q : BitVec 6), dmaRuns s = true → (queue s q.toNat).run = none → (hdr s (uQUEUE q.toNat)).pend = none →
    qState s q.toNat = 2 → qEvent s q.toNat = false → qHost s q.toNat = true → qHostUp s q.toNat = true →
    exec (.dmaDescriptorStart q .hostFail) s = .next (settle (qFault s q.toNat ⟨fHost, 0, slotAddr s q.toNat (queue s q.toNat).head⟩ 2 false 0))) ∧
  (∀ (s : State) (q : BitVec 6) (r : QRun) (b : List Byte), dmaRuns s = true → qState s q.toNat = 2 → qFunc s q.toNat = 0 →
    (queue s q.toNat).run = some r → r.code = none → r.prog < r.d.len → bitsOf r.d.ctrl 1 0 = 1 → bitsOf r.d.ctrl 3 2 = 1 →
    qHostUp s q.toNat = true → b.length = beatLen (r.d.dst + r.prog) (r.d.len - r.prog) →
    exec (.dmaBeat q (.data b)) s = .next (settle (setQueue
      { s with out := s.out ++ [.hostWrite ((qOwner s q.toNat).toNat - 2) (r.d.dst + r.prog) b] } q.toNat
      { queue s q.toNat with run := some { r with prog := r.prog + b.length }, promoted := false }))) ∧
  (∀ (s : State) (q : BitVec 6) (r : QRun), dmaRuns s = true → qState s q.toNat = 2 → qFunc s q.toNat = 0 →
    (queue s q.toNat).run = some r → r.code = none → r.prog = r.d.len →
    exec (.dmaDescriptorDone q) s = .next (settle (qComplete s q.toNat 0 r.prog r.d.ctrl none))) ∧
  (∀ (s : State) (q : BitVec 6) (r : QRun) (c : Nat), dmaRuns s = true → qState s q.toNat = 2 →
    (queue s q.toNat).run = some r → r.code = some c →
    exec (.dmaDescriptorDone q) s = .next (settle (qComplete s q.toNat c r.prog r.d.ctrl none))) ∧
  (∀ (s : State) (c : Ctx) (q : BitVec 6), owns s c (uQUEUE q.toNat) = true → qState s q.toNat = 3 ∨ qState s q.toNat = 4 →
    exec (.qResume c q) s = .next (settle (setQueue s q.toNat { queue s q.toNat with faulted := false, stopped := false, cmdRes := 0#2 }))) ∧
  (∀ (s : State) (c : Ctx) (q : BitVec 6), owns s c (uQUEUE q.toNat) = true → qState s q.toNat ≠ 3 → qState s q.toNat ≠ 4 →
    exec (.qResume c q) s = .next (settle (setQueue s q.toNat { queue s q.toNat with cmdRes := 1#2 })) ∧
    exec (.qSkip c q) s = .next (settle (setQueue s q.toNat { queue s q.toNat with cmdRes := 1#2 }))) ∧
  (∀ (s : State) (c : Ctx) (q : BitVec 6) (r : QRun), owns s c (uQUEUE q.toNat) = true → qState s q.toNat = 3 ∨ qState s q.toNat = 4 →
    qFill s q.toNat ≠ 0 → qEvent s q.toNat = false → (queue s q.toNat).run = some r →
    exec (.qSkip c q) s = .next (settle (qResult (qComplete (setQueue s q.toNat { queue s q.toNat with faulted := false, stopped := false })
      q.toNat 4 r.prog r.d.ctrl none) q.toNat true))) ∧
  (∀ (s : State) (c : Ctx) (q : BitVec 6), owns s c (uQUEUE q.toNat) = true → qState s q.toNat = 2 →
    exec (.qStop c q) s = .next (settle (qResult (qStop s q.toNat) q.toNat true))) ∧
  (∀ (s : State) (c : Ctx) (q : BitVec 6) (v : Word), owns s c (uQUEUE q.toNat) = true → qEvent s q.toNat = false →
    (BitVec.ofNat 16 v.toNat - (queue s q.toNat).head).toNat ≤ qDepth s q.toNat →
    qFill s q.toNat ≤ (BitVec.ofNat 16 v.toNat - (queue s q.toNat).head).toNat →
    exec (.qTailWrite c q v) s = .next (settle (setQueue s q.toNat { queue s q.toNat with tail := BitVec.ofNat 16 v.toNat }))) ∧
  (∀ (s : State) (c : Ctx) (q : BitVec 6) (v : Word), owns s c (uQUEUE q.toNat) = true → qEvent s q.toNat = true →
    ((queue s q.toNat).tail - BitVec.ofNat 16 v.toNat).toNat ≤ qFill s q.toNat →
    exec (.qHeadWrite c q v) s = .next (settle (setQueue s q.toNat { queue s q.toNat with head := BitVec.ofNat 16 v.toNat }))) ∧
  (∀ (s : State) (c : Ctx) (e : HostEvt) (rest : List HostEvt) (n : Nat), s.evq = e :: rest → e.ctx = c.toNat → domOn s dHOST = true →
    eventQueue s c = some n →
    exec (.eventEntryWrite c) s = .next (settle (eventEntry { s with evq := rest } n e.kind e.body))) ∧
  (∀ (s : State) (c : Ctx) (e : HostEvt) (rest : List HostEvt), s.evq = e :: rest → e.ctx = c.toNat → domOn s dHOST = true →
    eventQueue s c = none →
    exec (.eventEntryWrite c) s = .next (settle (countUp { s with evq := rest } lDMA (0x140 + 4 * c.toNat) 0 32))) ∧
  (∀ (s : State) (q : BitVec 6), dmaRuns s = true → qState s q.toNat = 2 → (queue s q.toNat).promoted = false →
    exec (.agePromotion q) s = .next (settle (setQueue (countUp s lDMA 0x130 0 32) q.toNat { queue s q.toNat with promoted := true }))) ∧
  (∀ (s : State) (v : Word), owns s 0#3 lDMA = true → s.pinLocked = false → bit v 0 = true → pinFailure s = 0 →
    exec (.pinLock 0#3 v) s = .next (settle { s with pinLocked := true, pinErr := 0#8 })) ∧
  (∀ (s : State) (v : Word), owns s 0#3 lDMA = true → s.pinLocked = false → bit v 0 = true → pinFailure s ≠ 0 →
    exec (.pinLock 0#3 v) s = .next (settle (raise { s with pinErr := BitVec.ofNat 8 (pinFailure s) } lDMA 0)))

/-- R405, R407, R408, R426, R427: INV_IOVA, INV_DOMAIN, INV_ALL, INV_DONE, HOST_LINK_LOSS, HOST_LINK_UP, HOST_WINDOW_ACCESS. -/
def Obligations.HostCommandsComplete : Prop :=
  (∀ (s : State) (c : Ctx) (v : Word), owns s c lIOMMU = true →
    let iova := (reg s lIOMMU 0x208).toNat + 0x100000000 * (reg s lIOMMU 0x20C).toNat
    exec (.invIova c v) s = .next (settle { s with dma := { s.dma with inv := s.dma.inv ++ [(1, fld v 7 4, iova)] } }) ∧
    exec (.invDomain c v) s = .next (settle { s with dma := { s.dma with inv := s.dma.inv ++ [(2, fld v 7 4, iova)] } }) ∧
    exec (.invAll c) s = .next (settle { s with dma := { s.dma with inv := s.dma.inv ++ [(3, 0, iova)] } })) ∧
  (∀ s : State, s.dma.inv ≠ [] →
    exec .invDone s = .next (settle (raise { s with dma := { s.dma with
      inv := [], tlb := s.dma.tlb.filter (fun e => !s.dma.inv.any (fun i => invNames i e)) } } lIOMMU 1))) ∧
  (∀ (s : State) (p : BitVec 2), s.hostUp.getLsbD p.toNat = true →
    exec (.hostLinkLoss p) s = .next (settle (raise (stopQueuesOf { s with hostUp := s.hostUp &&& ~~~BitVec.ofNat 4 (2 ^ p.toNat) }
      (BitVec.ofNat 3 (2 + p.toNat))) (37 + p.toNat) 0))) ∧
  (∀ (s : State) (p : BitVec 2), domOn s dHOST = true → (hdr s (37 + p.toNat)).en = true → cfgBit s (37 + p.toNat) 0x100 0 = true →
    s.hostUp.getLsbD p.toNat = false →
    exec (.hostLinkUp p) s = .next (settle (raise { s with hostUp := s.hostUp ||| BitVec.ofNat 4 (2 ^ p.toNat) } (37 + p.toNat) 0))) ∧
  (∀ (s : State) (c : Ctx) (a v : DWord) (n : BitVec 4), 2 ≤ c.toNat → c.toNat ≤ 5 → 1 ≤ n.toNat → n.toNat ≤ 8 → pathOk s c = true →
    exec (.hostWindowAccess c a true n v) s = .next (settle
      (windowWrite s c (winBase s (35 + c.toNat) + a.toNat) (leBytes n.toNat v.toNat)).1)) ∧
  (∀ (s : State) (c : Ctx) (a v : DWord) (n : BitVec 4) (t : State) (b : List Byte), 2 ≤ c.toNat → c.toNat ≤ 5 → 1 ≤ n.toNat → n.toNat ≤ 8 →
    pathOk s c = true → windowRead { s with rdata := 0#64 } c (winBase s (35 + c.toNat) + a.toNat) n.toNat = (t, some b) →
    exec (.hostWindowAccess c a false n v) s = .next (settle { t with rdata := BitVec.ofNat 64 (leNat b) }))

/-- R222, R372 to R380, R383 to R386: the ring, network values and the sleep link; RING_LINK_UP, RING_LINK_DOWN, SVC_LINK_CHANGE, NV_MESSAGE_RX,
NV_STALE, NV_VALUE_WRITE, NV_MESSAGE_SEND, RING_FRAME_RX, HSR_SUPERVISION_SEND, T1S_PRESENT_SEND, T1S_PRESENT_RX, T1S_ABSENT, T1S_WAKE_SEND,
T1S_WAKE_RX. The forwarding of a frame seen once in each direction is the model's reading (assumption 33). -/
def Obligations.NetworkCommandsComplete : Prop :=
  (∀ s : State, netOn s = true → s.net.linkA = false →
    exec (.ringLinkUp 0#1) s = .next (settle (grpJoined (raise { s with net := { s.net with linkA := true } } lNET 0)))) ∧
  (∀ s : State, netOn s = true → s.net.linkB = false →
    exec (.ringLinkUp 1#1) s = .next (settle (grpJoined (raise { s with net := { s.net with linkB := true } } lNET 0)))) ∧
  (∀ s : State, netOn s = true → s.net.linkA = true →
    exec (.ringLinkDown 0#1) s = .next (settle (raise { s with net := { s.net with linkA := false } } lNET 0))) ∧
  (∀ s : State, netOn s = true → s.net.linkB = true →
    exec (.ringLinkDown 1#1) s = .next (settle (raise { s with net := { s.net with linkB := false } } lNET 0))) ∧
  (∀ (s : State) (up : Bool), netOn s = true → s.net.svcUp = !up →
    exec (.svcLinkChange up) s = .next (settle (raise { s with net := { s.net with svcUp := up } } lNET 0))) ∧
  (∀ (s : State) (b : List Byte), works s lNET = true → b.length = 24 → b.getD 0 0#8 = 1#8 → b.getD 1 0#8 = 1#8 →
    exec (.nvMessageRx b) s = .next (settle (nvTake s (leNat ((b.drop 2).take 2) % 4096) (b.getD 16 0#8).toNat
      (BitVec.ofNat 32 (leNat (b.drop 20)))))) ∧
  (∀ (s : State) (v : BitVec 8), netOn s = true → nvDir s v.toNat = 1 → (nvEnt s v.toNat).stale = false →
    exec (.nvStale v) s = .next (settle (raise (setNv s v.toNat { nvEnt s v.toNat with stale := true }) lNET 1))) ∧
  (∀ (s : State) (c : Ctx) (v : BitVec 8) (x : Word), owns s c lNET = true → nvNamed s v.toNat = false → nvDir s v.toNat = 2 →
    exec (.nvValueWrite c v x) s = .next (settle { setNv s v.toNat { nvEnt s v.toNat with value := x } with
      net := { (setNv s v.toNat { nvEnt s v.toNat with value := x }).net with nvDue := s.net.nvDue ++ [(v.toNat, x)] } })) ∧
  (∀ (s : State) (c : Ctx) (v : BitVec 8) (x : Word), owns s c lNET = true → nvNamed s v.toNat = true →
    exec (.nvValueWrite c v x) s = .next (settle (capture s lNET c true 0x8 (0x400 + 4 * v.toNat)))) ∧
  (∀ s : State, netOn s = true → (hdr s lNET).frozen = false → s.pwr.degraded = false → standby s = false →
    exec .nvMessageSend s = .next (settle { s with
      net := { s.net with nvDue := [] },
      out := s.out ++ nvMessages s 4 (lastOf (s.net.nvDue.filter (fun e => decide (nvDir s e.1 = 2)))) })) ∧
  (∀ (s : State) (f : RingFrame), netOn s = true → s.net.linkA = true → f.fcsOk = false → cfgBit s lNET 0x100 0 = true →
    exec (.ringFrameRx 0 f) s = .next (settle (netCount (netCount s 0x130) 0x140))) ∧
  (∀ (s : State) (f : RingFrame), netOn s = true → s.net.linkB = true → f.fcsOk = false → cfgBit s lNET 0x100 0 = true →
    exec (.ringFrameRx 1 f) s = .next (settle (netCount (netCount s 0x134) 0x140))) ∧
  (∀ (s : State) (f : RingFrame) (m : List Byte), netOn s = true → s.net.linkA = true → f.fcsOk = true → f.src ≠ s.otp.mac →
    cfgBit s lNET 0x100 0 = true → f.seq = none → f.kind = .alarm m →
    toNode (netCount s 0x130) f.dst = true → vlanTaken (netCount s 0x130) f = true →
    exec (.ringFrameRx 0 f) s = .next (settle (rxAlarm (netCount s 0x130) m))) ∧
  (∀ (s : State) (f : RingFrame) (q : BitVec 16) (e : DupEnt), netOn s = true → s.net.linkB = true → f.fcsOk = true → f.src ≠ s.otp.mac →
    cfgBit s lNET 0x100 0 = true → f.seq = some q → f.kind = .other →
    dupFind (netCount s 0x134) f.src q = some e →
    exec (.ringFrameRx 1 f) s = .next (settle (netCount (dupPut (netCount s 0x134) { e with fromA := e.fromA || false, fromB := e.fromB || true }) 0x138))) ∧
  (∀ (s : State) (f : RingFrame) (q : BitVec 16), netOn s = true → s.net.linkA = true → f.fcsOk = true → f.src ≠ s.otp.mac →
    cfgBit s lNET 0x100 0 = false → f.seq = some q → f.kind = .other → dupFind (netCount s 0x130) f.src q = none → toNode s f.dst = false →
    exec (.ringFrameRx 0 f) s = .next (settle { dupPut (netCount s 0x130) ⟨f.src, q, s.now, true, false⟩ with
      out := s.out ++ [.ringFrame 1 f.bytes] })) ∧
  (∀ (s : State) (f : RingFrame) (r : BitVec 32), netOn s = true → s.net.linkB = true → f.fcsOk = true → f.src ≠ s.otp.mac →
    cfgBit s lNET 0x100 0 = false → f.kind = .ptp true r → toNode s f.dst = false → alive s lPTP = true → cfg s lPTP 0x114 1 0 = 2 →
    exec (.ringFrameRx 1 f) s = .next (settle { netCount s 0x134 with out := s.out ++ [.ptpForward 0 f.bytes r.toNat] })) ∧
  (∀ (s : State) (f : RingFrame), netOn s = true → s.net.svcUp = true → f.fcsOk = true → f.vid = none → f.dst = s.otp.mac + 1#48 →
    f.kind = .request → cfgBit s lNET 0x100 3 = true →
    exec (.ringFrameRx 2 f) s = .next (settle { s with out := s.out ++ [.answer true f.bytes] })) ∧
  (∀ s : State, netOn s = true →
    exec .hsrSupervisionSend s = .next (settle { s with
      out := s.out ++ [.supervision s.net.supSeq.toNat], net := { s.net with supSeq := s.net.supSeq + 1#16 } })) ∧
  (∀ s : State, t1sOn s = true → exec .t1sPresentSend s = .next (settle { s with out := s.out ++ [.t1s (t1sMessage s 1 0 0#32)] })) ∧
  (∀ (s : State) (p : BitVec 4), t1sOn s = true → unitOn s lNET = true → s.net.present.getLsbD p.toNat = false →
    exec (.t1sPresentRx p) s = .next (settle (raise { s with net := { s.net with
      present := s.net.present ||| BitVec.ofNat 16 (2 ^ p.toNat) } } lNET 3))) ∧
  (∀ (s : State) (p : BitVec 4), t1sOn s = true → unitOn s lNET = true → s.net.present.getLsbD p.toNat = true →
    exec (.t1sAbsent p) s = .next (settle (raise { s with net := { s.net with
      present := s.net.present &&& ~~~BitVec.ofNat 16 (2 ^ p.toNat) } } lNET 3))) ∧
  (∀ (s : State) (c : Ctx) (v : Word), owns s c lNET = true → bit v 31 = true → t1sOn s = true →
    exec (.t1sWakeSend c v) s = .next (settle { s with out := s.out ++ [.t1s (t1sMessage s 2 (fld v 15 0) s.net.t1sCode)] })) ∧
  (∀ (s : State) (m : BitVec 16), t1sOn s = true → s.pwr.phase = .run → s.pwr.pstate = .sleep → bit s.net.t1sCfg 25 = true →
    m.getLsbD (fld s.net.t1sCfg 3 0) = true →
    exec (.t1sWakeRx m s.net.t1sCode) s = .next (settle (wake s 1#4)))

/-- R389 to R395, R414, R415: the field links and expansion buses; CAN_FRAME_RX, CAN_FRAME_TX_DONE, CAN_BUS_OFF, CAN_BUS_OFF_RECOVERY,
CAN_RESTART, SER_RAW_RECORD, SER_SENTENCE, SER_TX_DONE, SPI_TRANSFER_DONE, PMB_TRANSACTION_DONE, PMB_TIMEOUT, PMB_ALERT. The counting of errors is
PRESUMED (assumption 34); what TEC holds after bus-off is free. -/
def Obligations.FieldLinkCommandsComplete : Prop :=
  (∀ (s : State) (n : Fin 6) (f : CanFrame), f.data.length = canDataLen f → alive s (lCAN n.val) = true → (hdr s (lCAN n.val)).frozen = true →
    portsStopped s = false → (canSt s n.val).st ≠ 2#2 → cfgBit s (lCAN n.val) 0x100 2 = false →
    exec (.canFrameRx n f) s = .next (settle (raise (countUp s (lCAN n.val) 0x114 0 32) (lCAN n.val) 3))) ∧
  (∀ (s : State) (n : Fin 6) (f : CanFrame), f.data.length = canDataLen f → linkRuns s (lCAN n.val) = true →
    f.fdf = false ∨ cfgBit s (lCAN n.val) 0x100 0 = true →
    (canSt s n.val).st ≠ 2#2 → cfgBit s (lCAN n.val) 0x100 2 = false → (canSt s n.val).rx + f.errors.toNat ≤ 127 →
    exec (.canFrameRx n f) s = .next (settle (canReceive
      (canCounts (busErrors s n.val f.errors.toNat) n.val (canSt s n.val).tec ((canSt s n.val).rx + f.errors.toNat - 1)) n.val f
      (time64 (busErrors s n.val f.errors.toNat) - f.ago.setWidth 64)))) ∧
  (∀ (s : State) (n : Fin 6) (e : Byte) (ago : BitVec 32) (r : QRun), linkRuns s (lCAN n.val) = true → (canSt s n.val).st ≠ 2#2 →
    cfgBit s (lCAN n.val) 0x100 1 = false → cfgBit s (lCAN n.val) 0x100 2 = false →
    txRun s (cfgBit s (lCAN n.val) 0x100 23) (cfg s (lCAN n.val) 0x100 21 16) n.val = some r →
    let t := canCounts (busErrors s n.val e.toNat) n.val ((canSt s n.val).tec + 8 * e.toNat - 1) (canSt s n.val).rx
    let q := cfg s (lCAN n.val) 0x100 21 16
    exec (.canFrameTxDone n e ago) s = .next (settle (raise
      { setQueue t q { queue t q with run := some { r with res := some (time64 s - ago.setWidth 64) } } with
        out := t.out ++ [.linkFrame n.val r.buf] } (lCAN n.val) 1))) ∧
  (∀ (s : State) (n : Fin 6), linkRuns s (lCAN n.val) = true → (canSt s n.val).st ≠ 2#2 →
    exec (.canBusOff n) s = .next (settle (raise (setCan { s with fresh := s.fresh + 1 } n.val
      { canSt s n.val with st := 2#2, tec := (Config.freeWord s.fresh).toNat % 256, restart := false }) (lCAN n.val) 2))) ∧
  (∀ (s : State) (n : Fin 6), linkRuns s (lCAN n.val) = true → (canSt s n.val).st = 2#2 →
    cfgBit s (lCAN n.val) 0x100 3 = true ∨ (canSt s n.val).restart = true →
    exec (.canBusOffRecovery n) s = .next (settle (raise (setCan s n.val ⟨0#2, 0, 0, false⟩) (lCAN n.val) 2))) ∧
  (∀ (s : State) (c : Ctx) (n : Fin 6), owns s c (lCAN n.val) = true → (canSt s n.val).st = 2#2 →
    exec (.canRestart c n) s = .next (settle (setCan s n.val { canSt s n.val with restart := true }))) ∧
  (∀ (s : State) (c : Ctx) (n : Fin 6), owns s c (lCAN n.val) = true → (canSt s n.val).st ≠ 2#2 →
    exec (.canRestart c n) s = .next (settle s)) ∧
  (∀ (s : State) (n : Fin 6) (b : List Byte) (e : Bool) (ago : BitVec 32), b ≠ [] → b.length ≤ 256 → serHears s n.val false = true →
    exec (.serRawRecord n b e ago) s = .next (settle (serDeliver (serLine s n.val e) n.val b (time64 s - ago.setWidth 64)))) ∧
  (∀ (s : State) (n : Fin 6) (c : Byte) (r l : List Byte) (ago : BitVec 32), serHears s n.val true = true → isStart c = true →
    scanSentence [c] 1 r = some (l, .whole, []) → sentCheck l = (true, true) →
    let t := countUp (serLine (setReg s (lSER n.val) 0x11C (BitVec.ofNat 32 (min (reg s (lSER n.val) 0x11C).toNat 0xFFFFFFFF))) n.val false)
      (lSER n.val) 0x114 0 32
    let d := time64 s - ago.setWidth 64
    exec (.serSentence n (c :: r) false false ago) s = .next (settle (serDeliver t n.val
      (leBytes 2 l.length ++ leBytes 2 3 ++ [0#8, 0#8, 0#8, 0#8] ++ leBytes 8 d.toNat ++ l) d))) ∧
  (∀ (s : State) (n : Fin 6) (ago : BitVec 32) (r : QRun), linkRuns s (lSER n.val) = true →
    txRun s (cfgBit s (lSER n.val) 0x10C 7) (cfg s (lSER n.val) 0x10C 5 0) (8 + n.val) = some r →
    let q := cfg s (lSER n.val) 0x10C 5 0
    let t := setQueue s q { queue s q with run := some { r with res := some (time64 s - ago.setWidth 64) } }
    exec (.serTxDone n ago) s = .next (settle (raise { t with out := s.out ++ [.linkFrame (8 + n.val) (serBytes t n.val r.buf)] } (lSER n.val) 1))) ∧
  (∀ (s : State) (q : BitVec 6) (rx : List Byte) (r : QRun), xferRun s q.toNat 17 (cfgBit s lNET 0x160 15) = some r → rx.length = r.d.len →
    exec (.spiTransferDone q rx) s = .next (settle (setQueue { s with out := s.out ++ [.linkFrame 17 r.buf] } q.toNat
      { queue s q.toNat with run := some { r with back := some rx } }))) ∧
  (∀ (s : State) (q : BitVec 6) (rx : List Byte) (r : QRun) (p : Bool), xferRun s q.toNat 18 (cfgBit s lNET 0x164 3) = some r →
    rx.length = (r.buf.getD 2 0#8).toNat → ((r.buf.getD 3 0#8).getLsbD 0 = false ∧ cfgBit s lNET 0x164 2 = false) ∨ p = true →
    exec (.pmbTransactionDone q rx false p) s = .next (settle (setQueue { s with out := s.out ++ [.linkFrame 18 r.buf] } q.toNat
      { queue s q.toNat with run := some { r with back := some rx } }))) ∧
  (∀ (s : State) (q : BitVec 6) (rx : List Byte) (r : QRun) (p : Bool), xferRun s q.toNat 18 (cfgBit s lNET 0x164 3) = some r →
    exec (.pmbTransactionDone q rx true p) s = .next (settle (setQueue { s with out := s.out ++ [.linkFrame 18 r.buf] } q.toNat
      { queue s q.toNat with run := some { r with code := some 7 } })) ∧
    exec (.pmbTimeout q) s = .next (settle (setQueue s q.toNat { queue s q.toNat with run := some { r with code := some 7 } }))) ∧
  (∀ (s : State) (b : Bool), exec (.pmbAlert b) s = .next (settle { s with net := { s.net with pmbAlert := b } }))

/-- R458, R459: the commands that start a block's test; CHMB_REF_CHECK, CHMB_SRC_CHECK, SSNS_REF_CHECK, INTG_STORE_SCRUB, GAL_DESC_SCAN, GRP_GRAPH_SCAN,
ECHO_LINE_CHECK, LOOP_ARITH, FIO_WB_CHECK, LANT_LAMP, BIST_SWEEP, FLOW_WRITE_TEST, NET_PHY_LOOP, ROPE_FENCE_TEST. The last clause says where each is
turned away: RUN is then captured and changes nothing else. -/
def Obligations.BlockTestStartsComplete : Prop :=
  (∀ (s : State) (c : Ctx) (k : BitVec 3), owns s c (lCHMB k.toNat) = true → (hdr s (lCHMB k.toNat)).tRun = false → works s (lCHMB k.toNat) = true →
    exec (.chmbRefCheck c k) s = .next (settle (setHdr s (lCHMB k.toNat) { hdr s (lCHMB k.toNat) with
      tRun := true, tDone := false, tPass := false, tSel := 1#8, tKind := 1#8 }))) ∧
  (∀ (s : State) (c : Ctx) (k : BitVec 3), owns s c (lCHMB k.toNat) = true → (hdr s (lCHMB k.toNat)).tRun = false → alive s (lCHMB k.toNat) = true →
    (hdr s (lCHMB k.toNat)).frozen = true →
    exec (.chmbSrcCheck c k) s = .next (settle (setHdr s (lCHMB k.toNat) { hdr s (lCHMB k.toNat) with
      tRun := true, tDone := false, tPass := false, tSel := 2#8, tKind := 2#8 }))) ∧
  (∀ (s : State) (c : Ctx), owns s c lSSNS = true → (hdr s lSSNS).tRun = false → alive s lSSNS = true → (hdr s lSSNS).frozen = true →
    exec (.ssnsRefCheck c) s = .next (settle (setHdr s lSSNS { hdr s lSSNS with tRun := true, tDone := false, tPass := false, tSel := 1#8, tKind := 1#8 }))) ∧
  (∀ (s : State) (c : Ctx), owns s c lINTG = true → (hdr s lINTG).tRun = false → works s lINTG = true →
    exec (.intgStoreScrub c) s = .next (settle (setHdr s lINTG { hdr s lINTG with tRun := true, tDone := false, tPass := false, tSel := 1#8, tKind := 1#8 }))) ∧
  (∀ (s : State) (c : Ctx), owns s c lGAL = true → (hdr s lGAL).tRun = false → works s lGAL = true →
    exec (.galDescScan c) s = .next (settle (descClear (setHdr s lGAL { hdr s lGAL with
      tRun := true, tDone := false, tPass := false, tSel := 1#8, tKind := 1#8 })))) ∧
  (∀ (s : State) (c : Ctx), owns s c lGRP = true → (hdr s lGRP).tRun = false → works s lGRP = true →
    exec (.grpGraphScan c) s = .next (settle (setHdr s lGRP { hdr s lGRP with tRun := true, tDone := false, tPass := false, tSel := 1#8, tKind := 1#8 }))) ∧
  (∀ (s : State) (c : Ctx), owns s c lECHO = true → (hdr s lECHO).tRun = false → works s lECHO = true →
    exec (.echoLineCheck c) s = .next (settle (setHdr s lECHO { hdr s lECHO with tRun := true, tDone := false, tPass := false, tSel := 1#8, tKind := 1#8 }))) ∧
  (∀ (s : State) (c : Ctx), owns s c lLOOP = true → (hdr s lLOOP).tRun = false → works s lLOOP = true →
    exec (.loopArith c) s = .next (settle (setHdr s lLOOP { hdr s lLOOP with tRun := true, tDone := false, tPass := false, tSel := 1#8, tKind := 1#8 }))) ∧
  (∀ (s : State) (c : Ctx), owns s c lFIO = true → (hdr s lFIO).tRun = false → works s lFIO = true →
    exec (.fioWbCheck c) s = .next (settle (setHdr s lFIO { hdr s lFIO with tRun := true, tDone := false, tPass := false, tSel := 1#8, tKind := 1#8 }))) ∧
  (∀ (s : State) (c : Ctx), owns s c lLANT = true → (hdr s lLANT).tRun = false → works s lLANT = true →
    exec (.lantLamp c) s = .next (settle (setHdr s lLANT { hdr s lLANT with tRun := true, tDone := false, tPass := false, tSel := 1#8, tKind := 1#8 }))) ∧
  (∀ (s : State) (c : Ctx), owns s c lFLOW = true → (hdr s lFLOW).tRun = false → works s lFLOW = true →
    exec (.flowWriteTest c) s = .next (settle (setHdr s lFLOW { hdr s lFLOW with tRun := true, tDone := false, tPass := false, tSel := 1#8, tKind := 1#8 }))) ∧
  (∀ (s : State) (c : Ctx), owns s c lBIST = true → (hdr s lBIST).tRun = false → works s lBIST = true → s.pwr.lcState = 3#3 →
    exec (.bistSweep c) s = .next (settle (sweepStart (setHdr s lBIST { hdr s lBIST with
      tRun := true, tDone := false, tPass := false, tSel := 1#8, tKind := 1#8 })))) ∧
  (∀ (s : State) (c : Ctx), owns s c lNET = true → (hdr s lNET).tRun = false → works s lNET = true → s.pwr.lcState = 3#3 →
    exec (.netPhyLoop c) s = .next (settle (setHdr s lNET { hdr s lNET with
      tRun := true, tDone := false, tPass := false, tSel := 1#8, tKind := 1#8 }))) ∧
  (∀ (s : State) (c : Ctx), owns s c lROPE = true → (hdr s lROPE).tRun = false → works s lROPE = true → cfgBit s lROPE 0x100 0 = true →
    exec (.ropeFenceTest c) s = .next (settle { setHdr s lROPE { hdr s lROPE with
      tRun := true, tDone := false, tPass := false, tSel := 1#8, tKind := 1#8 } with out := s.out ++ [.fence 200] })) ∧
  (∀ (s : State) (c : Ctx) (i : Instr) (u : Nat), owns s c u = true →
    (i, u) ∈ [(.ssnsRefCheck c, lSSNS), (.intgStoreScrub c, lINTG), (.galDescScan c, lGAL), (.grpGraphScan c, lGRP), (.echoLineCheck c, lECHO),
      (.loopArith c, lLOOP), (.fioWbCheck c, lFIO), (.lantLamp c, lLANT), (.bistSweep c, lBIST), (.flowWriteTest c, lFLOW), (.netPhyLoop c, lNET),
      (.ropeFenceTest c, lROPE)] → (hdr s u).tRun = true →
    exec i s = .next (settle (capture s u c true 0x9 0x30)))

/-- R458, R460, R461, R405, R466, R467: the ends of tests and of an injection, and the debugger; BLOCK_TEST_DONE, INJ_TIME_EXPIRY, DBG_ATTACH, APP_HALT,
DBG_DETACH. -/
def Obligations.ServiceEventsComplete : Prop :=
  (∀ (s : State) (u : BitVec 6) (p : Bool), u.toNat < 45 → (hdr s u.toNat).tRun = true → alive s u.toNat = true →
    (hdr s u.toNat).freeze = false ∨ testFrozen u.toNat (hdr s u.toNat).tKind.toNat = true →
    u.toNat ≠ lGAL → u.toNat ≠ lGRP → u.toNat ≠ lECHO → u.toNat ≠ lLANT → u.toNat ≠ lBIST → u.toNat ≠ lROPE →
    ∃ t, exec (.blockTestDone u p) s = .next (settle t) ∧
      hdr t u.toNat = { hdr s u.toNat with tRun := false, tDone := true, tPass := p, tKind := 0#8 } ∧
      t.test.failMap = (if p then s.test.failMap &&& ~~~BitVec.ofNat 64 (2 ^ u.toNat) else s.test.failMap ||| BitVec.ofNat 64 (2 ^ u.toNat)) ∧
      { t with hdr := s.hdr, test := { t.test with failMap := s.test.failMap } } = s) ∧
  (∀ (s : State) (p : Bool), (hdr s lROPE).tRun = true → works s lROPE = true → (hdr s lROPE).freeze = false →
    ∃ t, exec (.blockTestDone 43#6 p) s = .next (settle t) ∧
      hdr t lROPE = { hdr s lROPE with tRun := false, tDone := true, tPass := cbit s.rope.peerFlags 4, tKind := 0#8 } ∧
      { t with hdr := s.hdr, test := { t.test with failMap := s.test.failMap } } = s) ∧
  (∀ (s : State) (p : Bool), (hdr s lGAL).tRun = true → alive s lGAL = true → (hdr s lGAL).freeze = false →
    let t := descReport s
    exec (.blockTestDone (BitVec.ofNat 6 lGAL) p) s = .next (settle (testEnd t lGAL true (!t.gal.descBad)))) ∧
  (∀ (s : State) (p : Bool), (hdr s lGRP).tRun = true → alive s lGRP = true → (hdr s lGRP).freeze = false →
    let t := graphCheck s
    exec (.blockTestDone (BitVec.ofNat 6 lGRP) p) s = .next (settle (testEnd t lGRP true (!t.grp.chkBad && !t.grp.edgeBad)))) ∧
  (∀ s : State, s.test.inj = true →
    let k := cfg s lTEST 0x100 2 0
    exec .injTimeExpiry s = .next (settle (raise { setChm s k { chm s k with
      mergeLg := mput (chm s k).mergeLg (cfg s lTEST 0x100 12 8) false } with
      test := { s.test with inj := false, injOn := false, injEnd := 1#3 } } lTEST 0))) ∧
  (∀ (s : State) (app : Bool), s.pwr.lcState = 0#3 ∨ (app = true ∧ (s.pwr.lcState = 1#3 ∨ s.pwr.lcState = 3#3)) → unitOn s lTEST = true →
    exec (.dbgAttach app) s = .next (settle (raise (countUp { s with test := { s.test with attached := true } } lTEST 0x11C 0 16) lTEST 1))) ∧
  (∀ s : State, s.test.attached = true → debugAllowed s true = true → domOn s dAPP = true →
    exec (.appHalt true) s = .next (settle (stopQueuesOf { s with test := { s.test with appHalt := true } } 1#3)) ∧
    exec (.appHalt false) s = .next (settle { s with test := { s.test with appHalt := false } })) ∧
  (∀ s : State, exec .dbgDetach s = .next (settle { s with test := { s.test with attached := false, appHalt := false } }))

/-- R442 to R447, R452, R457: the link of a redundant pair, its heartbeats, fence pulses and commands; ROPE_HEARTBEAT_SEND, ROPE_HEARTBEAT_RX, ROPE_HB_MISS,
ROPE_INIT_TIMEOUT, ROPE_DA_WINDOW_END, ROPE_FENCE_TEST_PULSE, ROPE_FENCE_SEEN, ROPE_LINK_UP, ROPE_LINK_DOWN, ROPE_HANDOVER, ROPE_FENCE_CMD,
ROPE_RESYNC. Which role follows a heartbeat is `hbRole`, what a takeover does is `takeover`. -/
def Obligations.PairLinkCommandsComplete : Prop :=
  (∀ s : State, ropeOn s = true → (takeEffect s lROPE).1 = s → s.rope.role = 5#3 →
    exec .ropeHeartbeatSend s = .next (settle { s with out := s.out ++ [.rope 1 ([5#8] ++ leBytes 1 (hbFlags s) ++ [0#8, 0#8] ++
      leBytes 4 s.rope.ack.toNat ++ leBytes 4 s.grp.seq.toNat ++ leBytes 4 s.grp.session.toNat)] })) ∧
  (∀ (s : State) (h : Heartbeat), ropeOn s = true → s.rope.peerLost = false → h.role ≠ 4#8 → h.role ≠ 5#8 →
    exec (.ropeHeartbeatRx true h) s = .next (settle (hbRole { s with rope := { s.rope with
      miss := 0, peerLost := false, linkFault := false, peerRole := BitVec.ofNat 3 h.role.toNat, peerFlags := h.flags, peerAck := h.ack } }
      h.role.toNat h.flags.toNat))) ∧
  (∀ (s : State) (h : Heartbeat), ropeOn s = true → s.rope.peerLost = false → h.role = 5#8 → standby s = true →
    exec (.ropeHeartbeatRx true h) s = .next (settle (hbRole { s with
      rope := { s.rope with
        miss := 0, peerLost := false, linkFault := false, peerRole := 5#3, peerFlags := h.flags, peerAck := h.ack, evtSeq := h.evtSeq },
      grp := { s.grp with session := h.session } } 5 h.flags.toNat))) ∧
  (∀ (s : State) (h : Heartbeat), ropeOn s = true →
    exec (.ropeHeartbeatRx false h) s = .next (settle (countUp { s with rope := { s.rope with linkErr := satW s.rope.linkErr 1 } } lROPE 0x110 0 32))) ∧
  (∀ s : State, ropeOn s = true → s.rope.miss < 2 →
    exec .ropeHbMiss s = .next (settle (countUp { s with rope := { s.rope with
      miss := s.rope.miss + 1, hbMiss := satW s.rope.hbMiss 1 } } lROPE 0x10C 0 32))) ∧
  (∀ s : State, ropeOn s = true → s.rope.miss = 2 → s.rope.peerLost = false → s.rope.peerRole ≠ 7#3 → s.rope.role = 2#3 ∨ s.rope.role = 3#3 →
    let t := countUp { s with rope := { s.rope with miss := 3, hbMiss := satW s.rope.hbMiss 1 } } lROPE 0x10C 0 32
    exec .ropeHbMiss s = .next (settle (takeover { t with rope := { t.rope with
      peerLost := true, peerRole := 7#3, peerFlags := 0#8, handover := false, snapSent := false, snap := [] } } true))) ∧
  (∀ s : State, ropeOn s = true → s.rope.miss = 2 → s.rope.peerLost = false → s.rope.peerRole = 7#3 → s.rope.role = 2#3 ∨ s.rope.role = 3#3 →
    let t := countUp { s with rope := { s.rope with miss := 3, hbMiss := satW s.rope.hbMiss 1 } } lROPE 0x10C 0 32
    exec .ropeHbMiss s = .next (settle (takeover { t with rope := { t.rope with
      peerFlags := 0#8, handover := false, snapSent := false, snap := [] } } true))) ∧
  (∀ s : State, ropeOn s = true → s.rope.miss = 2 → s.rope.peerLost = false → s.rope.peerRole ≠ 7#3 → s.rope.role = 5#3 →
    let t := countUp { s with rope := { s.rope with miss := 3, hbMiss := satW s.rope.hbMiss 1 } } lROPE 0x10C 0 32
    exec .ropeHbMiss s = .next (settle (raise { t with rope := { t.rope with
      peerLost := true, peerRole := 7#3, peerFlags := 0#8, handover := false, snapSent := false, snap := [] } } lROPE 1))) ∧
  (∀ s : State, ropeOn s = true → s.rope.role = 1#3 → fenceSeen s = false → member1 s = false →
    exec .ropeInitTimeout s = .next (settle (toDuty s))) ∧
  (∀ s : State, ropeOn s = true → s.rope.role = 1#3 → fenceSeen s = false → member1 s = true → s.pwr.degraded = false →
    exec .ropeInitTimeout s = .next (settle (toDuty { s with out := s.out ++ [.fence 50000] }))) ∧
  (∀ s : State, ropeOn s = true → s.rope.role = 1#3 → fenceSeen s = true → member1 s = true →
    exec .ropeInitTimeout s = .next (settle { toStandby s with rope := { (toStandby s).rope with linkFault := true } })) ∧
  (∀ s : State, ropeOn s = true → s.rope.role = 4#3 → exec .ropeDaWindowEnd s = .next (settle (toDuty s))) ∧
  (∀ s : State, ropeOn s = true → s.pwr.degraded = false →
    exec .ropeFenceTestPulse s = .next (settle { s with out := s.out ++ [.fence 200] })) ∧
  (∀ s : State, ropeOn s = true →
    exec .ropeFenceSeen s = .next (settle { s with rope := { s.rope with fenceAt := some s.now } })) ∧
  (∀ s : State, alive s lROPE = true →
    exec .ropeLinkUp s = .next (settle { s with rope := { s.rope with linkUp := true } }) ∧
    exec .ropeLinkDown s = .next (settle { s with rope := { s.rope with linkUp := false } })) ∧
  (∀ (s : State) (c : Ctx), owns s c lROPE = true → works s lROPE = true → ropeOn s = true → s.rope.role = 5#3 → s.rope.peerRole = 3#3 →
    peerHealthOk s = true →
    exec (.ropeHandover c) s = .next (settle { s with rope := { s.rope with refused := false, handover := true } })) ∧
  (∀ (s : State) (c : Ctx), owns s c lROPE = true → works s lROPE = true → s.rope.role ≠ 5#3 →
    exec (.ropeHandover c) s = .next (settle { s with rope := { s.rope with refused := true } })) ∧
  (∀ s : State, owns s 0#3 lROPE = true → works s lROPE = true → ropeOn s = true → s.pwr.degraded = false →
    exec (.ropeFenceCmd 0#3) s = .next (settle { s with rope := { s.rope with refused := false }, out := s.out ++ [.fence 50000] })) ∧
  (∀ (s : State) (c : Ctx), owns s c lROPE = true → c ≠ 0#3 →
    exec (.ropeFenceCmd c) s = .next (settle (capture s lROPE c true 0x1 0x108))) ∧
  (∀ (s : State) (c : Ctx), owns s c lROPE = true → works s lROPE = true → ropeOn s = true → s.rope.role = 3#3 →
    exec (.ropeResync c) s = .next (settle (raise { s with rope := { s.rope with
      refused := false, snapOn := false, copied := false, role := 2#3 } } lROPE 0)))

/-- R444, R449, R451, R453 to R455: mirroring, shadow checks, health reports and self-tests of a pair; ROPE_MIRROR_SEND, ROPE_MIRROR_RESEND,
ROPE_MIRROR_RX, ROPE_SNAP_RX, ROPE_SHADOW_SEND, ROPE_SHADOW_RX, ROPE_HEALTH_SEND, ROPE_HEALTH_RX, ROPE_SELFTEST_CYCLE. -/
def Obligations.MirrorCommandsComplete : Prop :=
  (∀ s : State, ropeOn s = true → s.rope.role = 5#3 → takeFit 252 s.rope.snap ≠ [] →
    exec .ropeMirrorSend s = .next (settle (sendMirror { s with rope := { s.rope with snap := s.rope.snap.drop (takeFit 252 s.rope.snap).length } }
      true (takeFit 252 s.rope.snap)))) ∧
  (∀ s : State, ropeOn s = true → s.rope.role = 5#3 → s.rope.snap = [] → takeFit 252 (mirDueKeys s) ≠ [] →
    exec .ropeMirrorSend s = .next (settle (sendMirror s false (takeFit 252 (mirDueKeys s))))) ∧
  (∀ (s : State) (f : MirFrame) (r : List MirFrame), ropeOn s = true → s.rope.role = 5#3 → s.rope.peerAck ≠ s.rope.mseq →
    s.rope.frames = f :: r → f.mseq = s.rope.peerAck + 1#32 →
    exec .ropeMirrorResend s = .next (settle { s with out := s.out ++ (f :: r).map Out.mirror })) ∧
  (∀ s : State, ropeOn s = true → s.rope.role = 5#3 → s.rope.peerAck ≠ s.rope.mseq → s.rope.frames = [] → cfgMatch s = true →
    exec .ropeMirrorResend s = .next (settle (startCopy s))) ∧
  (∀ (s : State) (m : Word) (l : List MirRec), ropeOn s = true → s.rope.role = 3#3 → cfgMatch s = true → m = s.rope.ack + 1#32 →
    exec (.ropeMirrorRx true m l) s = .next (settle (tryStandby (l.foldl applyRec { s with rope := { s.rope with ack := m, copied := true } })))) ∧
  (∀ (s : State) (m : Word) (l : List MirRec), ropeOn s = true → s.rope.role = 3#3 → cfgMatch s = true → m ≠ s.rope.ack + 1#32 →
    exec (.ropeMirrorRx true m l) s = .next (settle s)) ∧
  (∀ (s : State) (m : Word) (l : List MirRec), ropeOn s = true → s.rope.role = 3#3 → cfgMatch s = true →
    exec (.ropeSnapRx true m l) s = .next (settle (l.foldl applyRec (masterResync (let t := raise { s with rope := { s.rope with role := 2#3 } } lROPE 0
      { t with fio := { t.fio with mirDo := [], mirAo := [] }, rope := { t.rope with ack := m, snapOn := true, copied := false } }))))) ∧
  (∀ (s : State) (m : Word) (l : List MirRec), ropeOn s = true → s.rope.role = 2#3 → cfgMatch s = true → s.rope.snapOn = true →
    s.rope.copied = false → m = s.rope.ack + 1#32 →
    exec (.ropeSnapRx true m l) s = .next (settle (l.foldl applyRec { s with rope := { s.rope with ack := m } }))) ∧
  (∀ (s : State) (c : Nat) (m : ShadowMsg), ropeOn s = true → s.rope.role = 5#3 → s.rope.shadowCh = c → c < 270 →
    bit (chReg s 0x180 c) 0 = true → (chan s c).shadow = some m →
    exec .ropeShadowSend s = .next (settle { s with rope := { s.rope with shadowCh := c + 1 }, out := s.out ++ [.shadow m] })) ∧
  (∀ (s : State) (m : ShadowMsg), ropeOn s = true → works s lROPE = true → standby s = true → cfgMatch s = true →
    fld (chReg s 0x18C m.x.ch) 24 16 = 511 → fld (chReg s 0x18C m.x.ch) 8 0 = 511 → bit (chReg s 0x180 m.x.ch) 5 = false →
    (linearise s m.x.ch (stage2 s m.x.ch m.raw m.trim) f32Zero).1 = m.value →
    stage4Qual s m.x.ch m.x (stage2 s m.x.ch m.raw m.trim) m.value (linearise s m.x.ch (stage2 s m.x.ch m.raw m.trim) f32Zero).2 = m.qual.toNat →
    exec (.ropeShadowRx true m) s = .next (settle { s with rope := { s.rope with shadowCnt := satW s.rope.shadowCnt 1 } })) ∧
  (∀ (s : State) (m : ShadowMsg), ropeOn s = true → works s lROPE = true → standby s = true → cfgMatch s = true →
    fld (chReg s 0x18C m.x.ch) 24 16 = 511 → fld (chReg s 0x18C m.x.ch) 8 0 = 511 → bit (chReg s 0x180 m.x.ch) 5 = false →
    (linearise s m.x.ch (stage2 s m.x.ch m.raw m.trim) f32Zero).1 ≠ m.value →
    exec (.ropeShadowRx true m) s = .next (settle (raise (countUp { s with rope := { s.rope with
      shadowCnt := satW s.rope.shadowCnt 1, shadowMis := satW s.rope.shadowMis 1, misAt := some s.now } } lROPE 0x114 0 32) lROPE 4))) ∧
  (∀ s : State, ropeOn s = true →
    let t := { s with rope := { s.rope with reports := s.rope.reports + 1#32 } }
    exec .ropeHealthSend s = .next (settle { t with rope := { t.rope with own := healthReport t }, out := s.out ++ [.rope 4 (healthReport t)] })) ∧
  (∀ (s : State) (b : List Byte), ropeOn s = true → b.length = 64 → b.headD 0#8 = 1#8 → leNat (b.drop 60) = crc32c (b.take 60) →
    exec (.ropeHealthRx true b) s = .next (settle (tryStandby (raise { s with rope := { s.rope with peer := b } } lROPE 5)))) ∧
  (∀ (s : State) (n : BitVec 3) (p : Bool), ropeOn s = true → works s lROPE = true → standby s = true →
    exec (.ropeSelftestCycle (.chamber n p)) s = .next (settle { s with rope := { s.rope with
      chmbRan := cput s.rope.chmbRan n.toNat true, chmbFail := cput s.rope.chmbFail n.toNat (!p) } })) ∧
  (∀ s : State, ropeOn s = true → works s lROPE = true → standby s = true →
    exec (.ropeSelftestCycle (.flow true)) s = .next (settle { s with rope := { s.rope with flowOk := true, flowTests := satW s.rope.flowTests 1 } }) ∧
    exec (.ropeSelftestCycle (.flow false)) s = .next (settle { s with rope := { s.rope with flowOk := false } })) ∧
  (∀ (s : State) (a b : Byte), ropeOn s = true → works s lROPE = true → standby s = true →
    exec (.ropeSelftestCycle (.dram a b)) s = .next (settle { s with rope := { s.rope with
      dramPass := satW s.rope.dramPass 1, dramCe := satW s.rope.dramCe a.toNat, dramUe := satW s.rope.dramUe b.toNat } }))

/-- R68, R80 to R84: APPLY_COMMIT, APPLY_DISCARD, APPLY_BAD_KEY, APPLY_BOUNDARY, LIVE_SET, LIVE_CLEAR. A set that passes waits as a whole, and takes effect
at once where the unit is at its boundary. -/
def Obligations.ApplyCommandsComplete : Prop :=
  (∀ (s : State) (c : Ctx) (u : BitVec 8), unitOk u.toNat = true → owns s c u.toNat = true → liveOn s u.toNat = false →
    u.toNat ≠ lGROT ∨ grotPending s = false → firstFail (checks s (withStaged s u.toNat) u.toNat) = none →
    exec (.applyCommit c u) s = .next (settle (settlePend (setHdr s u.toNat { hdr s u.toNat with
      pend := some (stagedOf s u.toNat), livePend := false, reject := false, reason := 0#8, rejOff := 0#12 }) u.toNat))) ∧
  (∀ (s : State) (c : Ctx) (u : BitVec 8) (k : Chk), unitOk u.toNat = true → owns s c u.toNat = true → liveOn s u.toNat = false →
    u.toNat ≠ lGROT ∨ grotPending s = false → firstFail (checks s (withStaged s u.toNat) u.toNat) = some k →
    exec (.applyCommit c u) s = .next (settle (raise (setHdr s u.toNat { hdr s u.toNat with
      reject := true, reason := BitVec.ofNat 8 k.reason, rejOff := BitVec.ofNat 12 k.off }) (pageOf u.toNat) 29))) ∧
  (∀ (s : State) (c : Ctx) (u : BitVec 8), unitOk u.toNat = true → owns s c u.toNat = true → liveOn s u.toNat = true →
    exec (.applyCommit c u) s = .next (settle s)) ∧
  (∀ (s : State) (c : Ctx) (u : BitVec 8), unitOk u.toNat = true → owns s c u.toNat = true → liveOn s u.toNat = false →
    exec (.applyDiscard c u) s = .next (settle (((hdr s u.toNat).pend.getD []).foldl (fun t e => stage t e.1 (rget t e.1 &&& rwsOfKey e.1))
      { s with stg := s.stg.filter (fun e => keyUnit e.1 ≠ u.toNat) }))) ∧
  (∀ (s : State) (c : Ctx) (u k : BitVec 8), unitOk u.toNat = true → owns s c u.toNat = true → k ≠ 0xA5#8 → k ≠ 0x5A#8 →
    (liveOn s u.toNat = false →
      exec (.applyBadKey c u k) s = .next (settle (capture s (pageOf u.toNat) c true 0x4 (rk u.toNat (applyOff u.toNat) % 0x1000)))) ∧
    (liveOn s u.toNat = true → exec (.applyBadKey c u k) s = .next (settle s))) ∧
  (∀ (s : State) (u : BitVec 8), unitOk u.toNat = true → present s u.toNat = true → unitOn s u.toNat = true → (hdr s u.toNat).pend.isSome = true →
    u.toNat ≠ lFIO → u.toNat ≠ lSSNS → ¬(5 ≤ u.toNat ∧ u.toNat ≤ 12) → ¬(64 ≤ u.toNat ∧ u.toNat < 128) →
    exec (.applyBoundary u) s = .next (settle (applied (takeEffect s u.toNat).1 s u.toNat (takeEffect s u.toNat).2))) ∧
  (∀ (s : State) (u : BitVec 8), 5 ≤ u.toNat → u.toNat ≤ 12 → unitOn s u.toNat = true → (hdr s u.toNat).pend.isSome = true →
    exec (.applyBoundary u) s = .next (settle (chmApplied (takeEffect s u.toNat).1 s (u.toNat - 5) (takeEffect s u.toNat).2))) ∧
  (∀ (s : State) (u : BitVec 8), 64 ≤ u.toNat → u.toNat < 128 → unitOn s u.toNat = true → (hdr s u.toNat).pend.isSome = true →
    exec (.applyBoundary u) s = .next (settle (slotTake s (u.toNat - 64)))) ∧
  (∀ s : State, unitOn s lSSNS = true → (hdr s lSSNS).pend.isSome = true →
    let r := takeEffect s lSSNS
    exec (.applyBoundary (BitVec.ofNat 8 lSSNS)) s = .next (settle (if r.2.contains (rk lSSNS 0x100) || r.2.contains (rk lSSNS 0x104)
      then { r.1 with ssns := { r.1.ssns with win := {} } } else r.1))) ∧
  (∀ (s : State) (c : Ctx) (u : BitVec 6), u.toNat ≤ 44 → owns s c u.toNat = true → (hdr s u.toNat).live = false →
    (∀ x ∈ unitsOf u.toNat, stagedOf s x = [] ∧ pendingSet s x = false) →
    exec (.liveSet c u) s = .next (settle (setHdr s u.toNat { hdr s u.toNat with live := true }))) ∧
  (∀ (s : State) (c : Ctx) (u : BitVec 6) (x : Nat), u.toNat ≤ 44 → owns s c u.toNat = true → (hdr s u.toNat).live = false →
    x ∈ unitsOf u.toNat → stagedOf s x ≠ [] ∨ pendingSet s x = true →
    exec (.liveSet c u) s = .next (settle (capture s u.toNat c true 0x5 0x8))) ∧
  (∀ (s : State) (c : Ctx) (u : BitVec 6), u.toNat ≤ 44 → owns s c u.toNat = true → (hdr s u.toNat).live = true →
    exec (.liveSet c u) s = .next (settle s) ∧
    exec (.liveClear c u) s = .next (settle (skewClear (setHdr s u.toNat { hdr s u.toNat with live := false }) u.toNat)))

/-- R68 to R70, R72, R73, R75: BLK_ENABLE, BLK_DISABLE, SOFT_RESET, SOFT_RESET_DONE, FREEZE_REQUEST, FREEZE_REACHED, FREEZE_CLEAR, OWNER_WRITE, OWNER_LOCK,
IRQ_CLR_WRITE. -/
def Obligations.BlockControlCommandsComplete : Prop :=
  (∀ (s : State) (c : Ctx) (u : BitVec 6), 4 ≤ u.toNat → u.toNat ≤ 44 → owns s c u.toNat = true → (hdr s u.toNat).en = false →
    needsPins u.toNat = false ∨ s.pinLocked = true →
    let t := startBlock (setHdr s u.toNat { hdr s u.toNat with en := true }) u.toNat
    exec (.blkEnable c u) s = .next (settle (settlePend (if u.toNat = lFIO then fioApplied t s else t) u.toNat))) ∧
  (∀ (s : State) (c : Ctx) (u : BitVec 6), 4 ≤ u.toNat → u.toNat ≤ 44 → owns s c u.toNat = true → (hdr s u.toNat).en = false →
    needsPins u.toNat = true → s.pinLocked = false →
    exec (.blkEnable c u) s = .next (settle (capture s u.toNat c true 0x8 0x8))) ∧
  (∀ (s : State) (c : Ctx) (u : BitVec 6), 4 ≤ u.toNat → u.toNat ≤ 44 → owns s c u.toNat = true → (hdr s u.toNat).en = true →
    let t := stopBlock (setHdr s u.toNat { hdr s u.toNat with en := false }) u.toNat
    exec (.blkDisable c u) s = .next (settle (settlePend (if u.toNat = lFIO then fioApplied t s else t) u.toNat))) ∧
  (∀ (s : State) (c : Ctx) (u : BitVec 6), u.toNat ≤ 44 → owns s c u.toNat = true →
    ((hdr s u.toNat).en = true → exec (.blkEnable c u) s = .next (settle s)) ∧
    ((hdr s u.toNat).en = false → exec (.blkDisable c u) s = .next (settle s))) ∧
  (∀ (s : State) (c : Ctx) (u : BitVec 6), u.toNat ≤ 3 → owns s c u.toNat = true →
    exec (.blkEnable c u) s = .next (settle s) ∧ exec (.blkDisable c u) s = .next (settle s)) ∧
  (∀ (s : State) (c : Ctx) (u : BitVec 6), u.toNat ≤ 44 → u.toNat ≠ lDMA → u.toNat ≠ lPTP → owns s c u.toNat = true →
    (hdr s u.toNat).frozen = true →
    let t := resetBlock (testEnd s u.toNat false false) u.toNat
    exec (.softReset c u) s = .next (settle (setHdr (skewClear { t with
      act := tdrop t.act (resetKey u.toNat), stg := tdrop t.stg (fun k => keyUnit k = u.toNat || resetKey u.toNat k) } u.toNat) u.toNat
      (resetHdr (hdr s u.toNat))))) ∧
  (∀ (s : State) (c : Ctx), owns s c lPTP = true → (hdr s lPTP).frozen = true → (hdr s lPTP).tRun = false →
    ∃ t, exec (.softReset c (BitVec.ofNat 6 lPTP)) s = .next (settle t) ∧
      t.ptp = { time := s.ptp.time, frac := s.ptp.frac, sub := s.ptp.sub, rate := s.ptp.rate } ∧ t.act = tdrop s.act (resetKey lPTP) ∧
      (hdr t lPTP).owner = (hdr s lPTP).owner ∧ (hdr t lPTP).gen = (hdr s lPTP).gen ∧ (hdr t lPTP).busy = true ∧
      (s.ptp.lock ≠ 0#2 → (hdr t lPTP).latched.getLsbD 0 = true)) ∧
  (∀ (s : State) (c : Ctx), owns s c lDMA = true → (hdr s lDMA).frozen = true → (hdr s lDMA).tRun = false →
    ∃ t, exec (.softReset c 41#6) s = .next (settle t) ∧ hdr t lDMA = resetHdr (hdr s lDMA) ∧ t.dma = { s.dma with q := [] } ∧
      (∀ n, n < 64 →
        let h := hdr s (uQUEUE n)
        hdr t (uQUEUE n) = { owner := h.owner, readMask := h.readMask, lock := h.lock, gen := h.gen }) ∧
      t.act = tdrop s.act (resetKey lDMA) ∧ (∀ v, v < 128 → v ≠ lDMA → hdr t v = hdr s v) ∧
      { t with act := s.act, stg := s.stg, hdr := s.hdr, dma := s.dma } = s) ∧
  (∀ (s : State) (c : Ctx) (u : BitVec 6), u.toNat ≤ 44 → owns s c u.toNat = true → (hdr s u.toNat).frozen = false →
    exec (.softReset c u) s = .next (settle (capture s u.toNat c true 0x5 0x8))) ∧
  (∀ (s : State) (u : BitVec 6), u.toNat ≤ 44 → u.toNat ≠ lECHO → (hdr s u.toNat).busy = true →
    exec (.softResetDone u) s = .next (settle (setHdr s u.toNat { hdr s u.toNat with busy := false }))) ∧
  (∀ (s : State) (c : Ctx) (u : BitVec 6), u.toNat ≤ 44 → owns s c u.toNat = true → freezeGuarded u.toNat = false ∨ c = 0#3 →
    exec (.freezeRequest c u) s = .next (settle (setHdr s u.toNat { hdr s u.toNat with freeze := true }))) ∧
  (∀ (s : State) (c : Ctx) (u : BitVec 6), u.toNat ≤ 44 → owns s c u.toNat = true → freezeGuarded u.toNat = true → c ≠ 0#3 →
    exec (.freezeRequest c u) s = .next (settle (capture s u.toNat c true 0x5 0x8))) ∧
  (∀ (s : State) (u : BitVec 6), u.toNat ≤ 44 → present s u.toNat = true → unitOn s u.toNat = true → (hdr s u.toNat).freeze = true → (hdr s u.toNat).frozen = false →
    workDone s u.toNat = true → u.toNat ≠ lECHO → u.toNat ≠ lLOOP → u.toNat ≠ lFIO → u.toNat ≠ lGROT →
    ¬(5 ≤ u.toNat ∧ u.toNat ≤ 12) →
    exec (.freezeReached u) s = .next (settle (boundary (setHdr s u.toNat { hdr s u.toNat with frozen := true }) u.toNat))) ∧
  (∀ s : State, unitOn s lGROT = true → (hdr s lGROT).freeze = true → (hdr s lGROT).frozen = false →
    exec (.freezeReached (BitVec.ofNat 6 lGROT)) s = .next (settle (boundary (calCommit (setHdr s lGROT { hdr s lGROT with frozen := true })) lGROT))) ∧
  (∀ (s : State) (c : Ctx), (hdr s lGAL).freeze = true → owns s c lGAL = true → testFrozen lGAL (hdr s lGAL).tKind.toNat = false →
    exec (.freezeClear c (BitVec.ofNat 6 lGAL)) s = .next (settle (galUnfreeze (setHdr s lGAL { hdr s lGAL with freeze := false, frozen := false })))) ∧
  (∀ (s : State) (c : Ctx), (hdr s lGRP).freeze = true → owns s c lGRP = true → s.net.linkA = false → s.net.linkB = false →
    exec (.freezeClear c (BitVec.ofNat 6 lGRP)) s = .next (settle (rebuildStart (setHdr s lGRP { hdr s lGRP with freeze := false, frozen := false })))) ∧
  (∀ (s : State) (c : Ctx), (hdr s lECHO).freeze = true → owns s c lECHO = true →
    exec (.freezeClear c (BitVec.ofNat 6 lECHO)) s = .next (settle (echoUnfreeze (setHdr s lECHO { hdr s lECHO with freeze := false, frozen := false })))) ∧
  (∀ (s : State) (c : Ctx), (hdr s lBIST).freeze = true → owns s c lBIST = true →
    exec (.freezeClear c (BitVec.ofNat 6 lBIST)) s = .next (settle (bistRefreshAll (setHdr s lBIST { hdr s lBIST with freeze := false, frozen := false })))) ∧
  (∀ (s : State) (c : Ctx) (u : BitVec 6), u.toNat ≤ 44 → owns s c u.toNat = true → (hdr s u.toNat).freeze = true → (hdr s u.toNat).frozen = false →
    ¬(5 ≤ u.toNat ∧ u.toNat ≤ 12) → u.toNat ≠ lGAL → u.toNat ≠ lGRP → u.toNat ≠ lECHO → u.toNat ≠ lBIST →
    exec (.freezeClear c u) s = .next (settle (setHdr s u.toNat { hdr s u.toNat with freeze := false, frozen := false }))) ∧
  (∀ (s : State) (c : Ctx) (u : BitVec 8) (v : Word), unitOk u.toNat = true → reaches s c u.toNat = true → (hdr s u.toNat).lock = false →
    c = (hdr s u.toNat).owner ∨ c = 0#3 → BitVec.ofNat 3 (fld v 2 0) ≠ (hdr s u.toNat).owner →
    exec (.ownerWrite c u v) s = .next (settle (liveClear (setHdr (discardStaged s u.toNat) u.toNat { hdr s u.toNat with
      owner := BitVec.ofNat 3 (fld v 2 0), readMask := BitVec.ofNat 8 (fld v 15 8), lock := bit v 31, reject := false }) u.toNat))) ∧
  (∀ (s : State) (c : Ctx) (u : BitVec 8) (v : Word), unitOk u.toNat = true → reaches s c u.toNat = true → (hdr s u.toNat).lock = false →
    c = (hdr s u.toNat).owner ∨ c = 0#3 → BitVec.ofNat 3 (fld v 2 0) = (hdr s u.toNat).owner →
    exec (.ownerWrite c u v) s = .next (settle (setHdr s u.toNat { hdr s u.toNat with
      readMask := BitVec.ofNat 8 (fld v 15 8), lock := bit v 31 }))) ∧
  (∀ (s : State) (c : Ctx) (u : BitVec 8) (v : Word), unitOk u.toNat = true → reaches s c u.toNat = true → (hdr s u.toNat).lock = false →
    c = (hdr s u.toNat).owner ∨ c = 0#3 → BitVec.ofNat 3 (fld v 2 0) = (hdr s u.toNat).owner →
    exec (.ownerLock c u v) s = .next (settle (setHdr s u.toNat { hdr s u.toNat with
      readMask := BitVec.ofNat 8 (fld v 15 8), lock := true }))) ∧
  (∀ (s : State) (c : Ctx) (u : BitVec 8) (v : Word), unitOk u.toNat = true → reaches s c u.toNat = true → (hdr s u.toNat).lock = false →
    c = (hdr s u.toNat).owner ∨ c = 0#3 → BitVec.ofNat 3 (fld v 2 0) ≠ (hdr s u.toNat).owner →
    exec (.ownerLock c u v) s = .next (settle (liveClear (setHdr (discardStaged s u.toNat) u.toNat { hdr s u.toNat with
      owner := BitVec.ofNat 3 (fld v 2 0), readMask := BitVec.ofNat 8 (fld v 15 8), lock := true, reject := false }) u.toNat))) ∧
  (∀ (s : State) (c : Ctx) (u : BitVec 8) (v : Word), unitOk u.toNat = true → reaches s c u.toNat = true →
    (hdr s u.toNat).lock = true ∨ (c ≠ (hdr s u.toNat).owner ∧ c ≠ 0#3) →
    exec (.ownerWrite c u v) s = .next (settle (capture s (pageOf u.toNat) c true 0x1 (rk u.toNat (ownerOff u.toNat) % 0x1000))) ∧
    exec (.ownerLock c u v) s = .next (settle (capture s (pageOf u.toNat) c true 0x1 (rk u.toNat (ownerOff u.toNat) % 0x1000)))) ∧
  (∀ (s : State) (c : Ctx) (u : BitVec 6) (v : Word), u.toNat ≤ 44 → u.toNat ≠ lIOMMU ∨ bit v 0 = false → owns s c u.toNat = true →
    exec (.irqClrWrite c u v) s = .next (settle (setHdr s u.toNat { hdr s u.toNat with
      latched := (hdr s u.toNat).latched &&& ~~~v,
      err := if bit v 31 then { (hdr s u.toNat).err with valid := false, overflow := false } else (hdr s u.toNat).err })))

/-- A register whose read does nothing but clear its RC fields: none that reads through a window of its own (R67, R89, R98, R108, R180, R213, R241,
R267, R348, R349), and none whose RC counters stand outside the page's words (R364, R368). -/
def plainRead (u o : Nat) : Bool :=
  !(decide (u = lPTP ∧ o = 0x100) || decide (u = lGROT ∧ (o = 0x100 ∨ o = 0x13C)) || decide (u = lINTG ∧ o = 0x10C) ||
    decide (u = lGAL ∧ 0x200 ≤ o ∧ o < 0x400 ∧ o % 0x40 = 0x34) || decide (u = lGRP ∧ o = 0x128) || decide (u = lECHO ∧ o = 0x504) ||
    decide (u = lLANT ∧ (o = 0x11C ∨ o = 0x124)) || decide (u = lBIST ∧ o = 0x110) || decide (u = lFLOW ∧ (o = 0x12C ∨ o = 0x130)))

/-- R4, R9, R10, R13, R14, R65 to R67, R71, R79, R83, R180, R209: accesses by address, and values that cross islands; REGISTER_WRITE, NARROW_ACCESS,
UNMAPPED_ACCESS, RC_COUNTER_READ, LIVE_WRITE, LIN_DATA_ACCESS, DRY_RUN_START, DRY_RUN_END, CROSSING_ARRIVAL. The first clauses say what every
write and every read does by where it leads; the later ones what the register does. A 64-bit access to a register of 32 bits is the model's
choice (log entry 67), and a page's LIVE mode covers its sub-blocks (log entry 78). -/
def Obligations.AccessCommandsComplete : Prop :=
  (∀ (s : State) (c : Ctx) (a : Word) (v : DWord) (w : Word) (p : Place), 0x40000000 ≤ a.toNat → a.toNat < 0x40120000 →
    placeOf (a.toNat - 0x40000000) = some p → reaches s c p.unit = true → p.av = false →
    (a.toNat % 4 = 0 →
      exec (.registerWrite c a false v) s = .next (settle (writeWord s c p.unit p.off (BitVec.ofNat 32 v.toNat))) ∧
      exec (.liveWrite c a w) s = .next (settle (writeWord s c p.unit p.off w))) ∧
    (widthOk p a.toNat true = true → exec (.registerWrite c a true v) s = .next (settle (writeWide s c p.unit p.off v))) ∧
    (widthOk p a.toNat true = false → exec (.registerWrite c a true v) s = .next (settle (capture s (pageOf p.unit) c true 0x3 (a.toNat % 0x1000)))) ∧
    (a.toNat % 4 ≠ 0 →
      exec (.registerWrite c a false v) s = .next (settle (capture s (pageOf p.unit) c true 0x3 (a.toNat % 0x1000))) ∧
      exec (.liveWrite c a w) s = .next (settle (capture s (pageOf p.unit) c true 0x3 (a.toNat % 0x1000))))) ∧
  (∀ (s : State) (c : Ctx) (u o : Nat) (v : Word), reaches s c u = true → inHdr u o = false →
    (∀ t, specialWrite s c u o v = some t → writeWord s c u o v = t) ∧
    (specialWrite s c u o v = none → (hdr s u).owner ≠ c → writeWord s c u o v = capture s (pageOf u) c true 0x1 (rk u o % 0x1000)) ∧
    (∀ (d : RegDef) (k : Nat), specialWrite s c u o v = none → (hdr s u).owner = c → regAt u o = some d → viewKey s u o = some k →
      let w := v &&& BitVec.ofNat 32 d.rws
      let s1 := if d.rws = 0 then s else if liveOn s u then liveWrite s u k w else stage s k w
      let s2 := if d.rw = 0 then s1 else rset s1 k (maskMerge (BitVec.ofNat 32 d.rw) (rget s1 k) v)
      let s3 := if d.w1c = 0 then s2 else rset s2 k (rget s2 k &&& ~~~(v &&& BitVec.ofNat 32 d.w1c))
      writeWord s c u o v = if u = lGAL ∧ 0x400 ≤ o then dryRestart s3 ((o - 0x400) / 64) else s3) ∧
    (specialWrite s c u o v = none → (hdr s u).owner = c → regAt u o = none ∨ viewKey s u o = none → writeWord s c u o v = s)) ∧
  (∀ (s : State) (c : Ctx) (u o : Nat) (v : Word), inHdr u o = true → writeWord s c u o v = hdrWrite s c u o v) ∧
  (∀ (s : State) (u k : Nat) (v : Word), s.stg = [] → (hdr s u).pend = none → keyUnit k = u → v ≠ rget s k &&& rwsOfKey k →
    (∀ x ∈ checks (stage s k v) (withStaged (stage s k v) u) u, x.bad = false) →
    liveWrite s u k v = settlePend (setHdr (stage s k v) u { hdr s u with
      reject := false, reason := 0#8, rejOff := 0#12, skew := false, pend := some [(k, v)], livePend := true }) u) ∧
  (∀ (s : State) (c : Ctx) (a : Word) (v : DWord) (w : Word) (p : Place), 0x40000000 ≤ a.toNat → a.toNat < 0x40120000 →
    placeOf (a.toNat - 0x40000000) = some p → reaches s c p.unit = true → p.av = true → a.toNat % 4 = 0 →
    ((hdr s p.unit).owner = c →
      exec (.registerWrite c a false v) s = .next (settle s) ∧ exec (.liveWrite c a w) s = .next (settle s)) ∧
    ((hdr s p.unit).owner ≠ c →
      exec (.registerWrite c a false v) s = .next (settle (capture s (pageOf p.unit) c true 0x1 (a.toNat % 0x1000))) ∧
      exec (.liveWrite c a w) s = .next (settle (capture s (pageOf p.unit) c true 0x1 (a.toNat % 0x1000))))) ∧
  (∀ (s : State) (c : Ctx) (a : Word) (v : DWord) (b : Bool) (w : Word), pathOk s c = false →
    exec (.registerWrite c a b v) s = .next (settle s) ∧ exec (.liveWrite c a w) s = .next (settle s)) ∧
  (∀ (s : State) (c : Ctx) (a : Word) (w : Bool) (p : Place), 0x40000000 ≤ a.toNat → a.toNat < 0x40120000 →
    placeOf (a.toNat - 0x40000000) = some p → reaches s c p.unit = true →
    exec (.narrowAccess c a w) s = .next (settle
      (capture (if w then s else { s with rdata := 0#64 }) (pageOf p.unit) c w 0x3 (a.toNat % 0x1000)))) ∧
  (∀ (s : State) (c : Ctx) (a : Word) (w : Bool), 0x40000000 ≤ a.toNat → a.toNat < 0x40120000 → pathOk s c = true →
    placeOf (a.toNat - 0x40000000) = none →
    exec (.unmappedAccess c a w) s = .next (settle
      (captureAt (if w then s else { s with rdata := 0#64 }) lSYS c w 0x6 (a.toNat % 0x1000) (a.toNat / 0x1000 % 0x200)))) ∧
  (∀ (s : State) (c : Ctx) (a : Word) (p : Place), 0x40000000 ≤ a.toNat → a.toNat < 0x40120000 →
    placeOf (a.toNat - 0x40000000) = some p → reaches s c p.unit = true →
    let t := { s with rdata := 0#64 }
    (a.toNat % 4 = 0 → mayRead s c p = true → p.av = false → exec (.rcCounterRead c a false) s = .next (settle (readWord t c p.unit p.off))) ∧
    (a.toNat % 4 = 0 → mayRead s c p = true → p.av = true → exec (.rcCounterRead c a false) s = .next (settle (readPlain t p.unit p.off true))) ∧
    (widthOk p a.toNat true = true → mayRead s c p = true → p.unit ≠ lPTP ∨ p.off ≠ 0x100 →
      exec (.rcCounterRead c a true) s = .next (settle (readWide t c p.unit p.off p.av))) ∧
    (a.toNat % 4 = 0 → mayRead s c p = false →
      exec (.rcCounterRead c a false) s = .next (settle (capture t (pageOf p.unit) c false 0x2 (a.toNat % 0x1000))))) ∧
  (∀ (s : State) (c : Ctx) (u o : Nat) (d : RegDef), plainRead u o = true → inHdr u o = false → regAt u o = some d → freeBits s u o = 0#32 →
    let t := { s with rdata := BitVec.ofNat 64 (wordOf s u o false).toNat }
    readWord s c u o = if d.rc = 0 then t else setReg t u o (reg s u o &&& ~~~BitVec.ofNat 32 d.rc)) ∧
  (∀ (s : State) (c : Ctx) (u o : Nat), u ≤ 44 → inHdr u o = true →
    readWord s c u o = { s with rdata := BitVec.ofNat 64 (hdrWord s u o).toNat }) ∧
  (∀ (s : State) (c : Ctx) (a : Word), a.toNat = 0x40000000 + rk lFLOW 0x12C → mayRd s c lFLOW = true →
    exec (.rcCounterRead c a false) s = .next (settle { s with
      rdata := BitVec.ofNat 64 (min s.flow.dropCnt 0xFFFFFFFF), flow := { s.flow with dropCnt := 0 } })) ∧
  (∀ (s : State) (c : Ctx) (a : Word), a.toNat = 0x40000000 + rk lFLOW 0x130 → mayRd s c lFLOW = true →
    exec (.rcCounterRead c a false) s = .next (settle { s with
      rdata := BitVec.ofNat 64 (min s.flow.badCnt 0xFFFFFFFF), flow := { s.flow with badCnt := 0 } })) ∧
  (∀ (s : State) (c : Ctx) (v : Word), owns s c lINTG = true →
    (∀ k, linKey s = some k →
      exec (.linDataAccess c true v) s = .next (settle (linNext (if liveOn s lINTG then liveWrite s lINTG k v else stage s k v)))) ∧
    (linKey s = none → exec (.linDataAccess c true v) s = .next (settle (linNext s)))) ∧
  (∀ (s : State) (c : Ctx) (v : Word), mayRd s c lINTG = true →
    exec (.linDataAccess c false v) s = .next (settle (linNext { s with
      rdata := BitVec.ofNat 64 ((linKey s).elim 0 (fun k => (stagedAt s k).toNat)) }))) ∧
  (∀ (s : State) (c : Ctx) (n : BitVec 4) (v : Word), owns s c lGAL = true →
    let k := rk lGAL (0x140 + 4 * n.toNat)
    let put (t : State) (w : Word) : State := if liveOn s lGAL then liveWrite t lGAL k w else stage t k w
    exec (.dryRunStart c n v) s = .next (settle (dryStart (put (rset s k (maskMerge 0x10000#32 (rget s k) (v ||| 0x10000#32)))
      ((v ||| 0x10000#32) &&& 0x87FF#32)) n.toNat)) ∧
    exec (.dryRunEnd c n v) s = .next (settle (setDry (put (rset s k (maskMerge 0x10000#32 (rget s k) (v &&& ~~~0x10000#32)))
      ((v &&& ~~~0x10000#32) &&& 0x87FF#32)) n.toNat {}))) ∧
  (∀ (s : State) (x : Xing) (r : List Xing), s.xing = x :: r → unitOn s x.dst = true →
    exec .crossingArrival s = .next (settle (arrive { s with xing := r } x.what))) ∧
  (∀ (s : State) (x : Xing) (r : List Xing), s.xing = x :: r → unitOn s x.dst = false → domOn s dAON = true →
    exec .crossingArrival s = .next (settle (countUp { s with xing := r } lSYS (0x200 + 4 * x.src) 0 16)))

/-- R381, R382, R409 to R411: accesses that arrive as messages; MGMT_HELLO, MGMT_READ, MGMT_WRITE, MGMT_NOTIFY, QSPI_WRITE, QSPI_READ, QSPI_STATUS,
QSPI_UNKNOWN_OPCODE. ADDR and CTR of HELLO_RSP and ADDR of NOTIFY, which the spec does not state, are free values. -/
def Obligations.RemoteCommandsComplete : Prop :=
  (∀ (s : State) (svc : Bool) (peer : BitVec 48), mgmtServed s svc = true →
    exec (.mgmtHello svc peer) s = .next (settle (mgmtSend (setSess { s with fresh := s.fresh + 3 } svc
        { nonce := Config.freeNonce s.fresh, peer := (mgmtSess s svc).bind (·.peer) }) svc peer
      (mgmtBytes s 2 (Config.freeWord s.fresh).toNat
        ((Config.freeWord (s.fresh + 1)).toNat + 0x100000000 * (Config.freeWord (s.fresh + 2)).toNat) (Config.freeNonce s.fresh) [])))) ∧
  (∀ (s : State) (svc : Bool) (peer : BitVec 48) (b : MgmtMsg) (m : MgmtSess), mgmtServed s svc = true → requestOk b 3 = true →
    mgmtSess s svc = some m → requestFails s svc b = [] → 0x40000000 ≤ msgField b 4 4 → msgField b 4 4 + 4 * msgField b 2 2 ≤ 0x40120000 →
    let r := readWords (setSess s svc { m with ctr := some (msgField b 8 8), peer := some peer }) (mgmtCtx svc) (msgField b 4 4) (msgField b 2 2)
    exec (.mgmtRead svc peer b) s = .next (settle (respond r.1 svc peer 0 b r.2))) ∧
  (∀ (s : State) (svc : Bool) (peer : BitVec 48) (b : MgmtMsg) (m : MgmtSess), mgmtServed s svc = true → requestOk b 4 = true →
    mgmtSess s svc = some m → requestFails s svc b = [] → 0x40000000 ≤ msgField b 4 4 → msgField b 4 4 + 4 * msgField b 2 2 ≤ 0x40120000 →
    exec (.mgmtWrite svc peer b) s = .next (settle (respond (writeWords (setSess s svc { m with ctr := some (msgField b 8 8), peer := some peer })
      (mgmtCtx svc) (msgField b 4 4) (wordsOf (msgField b 2 2) (b.drop 32))) svc peer 0 b []))) ∧
  (∀ (s : State) (svc : Bool) (peer : BitVec 48) (b : MgmtMsg) (f : Nat), mgmtServed s svc = true → requestFails s svc b = [f] →
    (requestOk b 3 = true → exec (.mgmtRead svc peer b) s = .next (settle
      (raise (countUp (respond { s with fresh := s.fresh + 1 } svc peer f b []) lNET 0x148 0 32) lNET 2))) ∧
    (requestOk b 4 = true → exec (.mgmtWrite svc peer b) s = .next (settle
      (raise (countUp (respond { s with fresh := s.fresh + 1 } svc peer f b []) lNET 0x148 0 32) lNET 2)))) ∧
  (∀ (s : State) (m : MgmtSess) (peer : BitVec 48), mgmtServed s false = true → ctxPend s 6#3 ≠ 0 → s.net.notified = false →
    s.net.sess6 = some m → m.peer = some peer →
    exec .mgmtNotify s = .next (settle { s with
      fresh := s.fresh + 1, net := { s.net with notified := true, notifyCtr := s.net.notifyCtr + 1 },
      out := s.out ++ [.mgmt false peer (mgmtBytes s 6 (Config.freeWord s.fresh).toNat s.net.notifyCtr m.nonce
        [BitVec.ofNat 32 (ctxPend s 6#3), BitVec.ofNat 32 (ctxPend s 6#3 / 0x100000000)])] })) ∧
  (∀ (s : State) (svc : Bool) (peer : BitVec 48) (b : MgmtMsg), mgmtServed s svc = true → requestFails s svc b = [] →
    msgField b 4 4 < 0x40000000 ∨ 0x40120000 < msgField b 4 4 + 4 * msgField b 2 2 →
    (requestOk b 3 = true → exec (.mgmtRead svc peer b) s = .next (settle (respond s svc peer 4 b []))) ∧
    (requestOk b 4 = true → exec (.mgmtWrite svc peer b) s = .next (settle (respond s svc peer 4 b [])))) ∧
  (∀ (s : State) (p : BitVec 1) (a : BitVec 40) (b : List Byte), pathOk s (qspiCtx p) = true → b.length ≤ 512 → b.length % 4 = 0 →
    exec (.qspiWrite p a b) s = .next (settle (qspiPuts s p a 0 (wordsOf (b.length / 4) b)))) ∧
  (∀ (s : State) (p : BitVec 1) (a : BitVec 40) (n : Nat) (t : State) (b : List Byte), pathOk s (qspiCtx p) = true → 1 ≤ n → n < 64 →
    qspiGets s p a 0 n = (t, some b) →
    exec (.qspiRead p a n) s = .next (settle { t with out := t.out ++ [.qspi p.toNat (0x5A#8 :: b)] })) ∧
  (∀ (s : State) (p : BitVec 1) (a : BitVec 40) (t : State) (b : List Byte), pathOk s (qspiCtx p) = true →
    qspiGets s p a 0 64 = (t, some b) →
    exec (.qspiRead p a 0) s = .next (settle { t with out := t.out ++ [.qspi p.toNat (0x5A#8 :: b)] })) ∧
  (∀ (s : State) (p : BitVec 1) (a : BitVec 40) (n : Nat) (t : State), pathOk s (qspiCtx p) = true → 1 ≤ n → n < 64 →
    qspiGets s p a 0 n = (t, none) →
    exec (.qspiRead p a n) s = .next (settle { qspiErr t p 3 with out := t.out ++ [.qspi p.toNat [0xE1#8]] })) ∧
  (∀ (s : State) (p : BitVec 1), pathOk s (qspiCtx p) = true →
    exec (.qspiStatus p) s = .next (settle { setQspi s p { qspiPort s p with err := 0#3 } with
      out := s.out ++ [.qspi p.toNat [0#8, qspiStatus s p]] })) ∧
  (∀ (s : State) (p : BitVec 1) (op : Byte), op ≠ 0x02#8 → op ≠ 0x0B#8 → op ≠ 0x05#8 → pathOk s (qspiCtx p) = true →
    (qspiPort s p).err = 0#3 →
    exec (.qspiUnknownOpcode p op) s = .next (settle (setQspi s p { qspiPort s p with err := 5#3 })))

/-- R48 to R53: BOOT_CONFIG_LOAD, OUTPUT_RELEASE, OUT_DEADLINE_EXPIRY. PCIE_SSID is a free value. -/
def Obligations.StartupCommandsComplete : Prop :=
  (∀ (s : State) (d : BitVec 14) (w : List (Word × Word)) (en : BitVec 45), 1200 ≤ d.toNat → d.toNat ≤ 10000 → s.pwr.phase = .boot →
    s.pwr.safeRunning = true → s.pwr.dramWiped = true → s.pwr.cfgLoaded = false → imageOk s configBase true = true →
    (mgetLE s.mem (configBase + 7) 1).testBit 0 = true →
    let t := domsSet (setReg s lPWR 0x130 (d.zeroExtend 32)) domsConfig
    let x := setReg (setReg { t with fresh := t.fresh + 2 } (lPCIE 0) 0x108 (Config.freeWord t.fresh)) (lPCIE 1) 0x108 (Config.freeWord (t.fresh + 1))
    exec (.bootConfigLoad d w en) s = .next (settle (enableBlocks
      (w.foldl (fun t e => busWrite t 0#3 e.1.toNat false (BitVec.ofNat 64 e.2.toNat)) { x with pwr := { x.pwr with cfgLoaded := true } }) en))) ∧
  (∀ s : State, s.pwr.phase = .boot ∨ s.pwr.phase = .run → s.pwr.cfgLoaded = true → s.pwr.released = false → s.pwr.degraded = false → firstPend s = 0 →
    exec .outputRelease s = .next (settle (release s false))) ∧
  (∀ s : State, s.pwr.phase = .boot ∨ s.pwr.phase = .run → s.pwr.cfgLoaded = true → s.pwr.released = false → s.pwr.degraded = false → s.pwr.noDeadline = false →
    exec .outDeadlineExpiry s = .next (settle (release s true))) ∧
  (∀ s : State, s.pwr.released = true →
    exec .outputRelease s = .next (settle s) ∧ exec .outDeadlineExpiry s = .next (settle s))

/-- R4: on the -B every read of the LANT and BIST pages returns 0 and every write is discarded, whatever the path and the width, without error; so do the
frame store, the attribute table and the waveform tables, which are reached through those pages. -/
def Obligations.VariantBDisplayPagesAbsent : Prop :=
  ∀ s : State, s.otp.variantA = false →
    (∀ (c : Ctx) (a : Word) (w : Bool) (v : DWord), 0x40080000 ≤ a.toNat → a.toNat < 0x40082000 →
      exec (.registerWrite c a w v) s = .next (settle s) ∧
      exec (.rcCounterRead c a w) s = .next (settle { s with rdata := 0#64 }) ∧
      exec (.narrowAccess c a true) s = .next (settle s) ∧
      exec (.narrowAccess c a false) s = .next (settle { s with rdata := 0#64 })) ∧
    (∀ (i : Instr) (c : Ctx) (u o : Nat), ownerOnly i = some (c, u, o) → u = lLANT ∨ u = lBIST → i.wf = true → exec i s = .next (settle s))

/-- R10: an access that is neither 32 bits wide and aligned nor 64 bits wide, aligned and of a 64-bit register reads 0, writes nothing and is captured in
ERR_INFO of the page, code 0x3. -/
def Obligations.NarrowAndMisalignedAccessesCaptured : Prop :=
  ∀ (s : State) (c : Ctx) (a : Word) (p : Place), 0x40000000 ≤ a.toNat → a.toNat < 0x40120000 →
    placeOf (a.toNat - 0x40000000) = some p → reaches s c p.unit = true →
    exec (.narrowAccess c a true) s = .next (settle (capture s (pageOf p.unit) c true 0x3 (a.toNat % 0x1000))) ∧
    exec (.narrowAccess c a false) s = .next (settle (capture { s with rdata := 0#64 } (pageOf p.unit) c false 0x3 (a.toNat % 0x1000))) ∧
    (∀ (w : Bool) (v : DWord), (w = false ∧ a.toNat % 4 ≠ 0) ∨ (w = true ∧ a.toNat % 8 ≠ 0) ∨
        (w = true ∧ ∀ d, regAt p.unit p.off = some d → d.wide = false) →
      exec (.registerWrite c a w v) s = .next (settle (capture s (pageOf p.unit) c true 0x3 (a.toNat % 0x1000))) ∧
      exec (.rcCounterRead c a w) s = .next (settle (capture { s with rdata := 0#64 } (pageOf p.unit) c false 0x3 (a.toNat % 0x1000))))

/-- R14: a value presented to an island whose domain is off is discarded at once, and DROP_ABSENT of the block that sent it counts it; one whose destination's domain
is off as it would arrive is discarded likewise; nothing else changes, and the value is on its way no longer. While PD_AON is off, the counter's own page is (log entry 58): the value is discarded alone. -/
def Obligations.CrossingIntoOffDomainDropped : Prop :=
  (∀ (s : State) (src dst : Nat) (x : Payload), unitOn s dst = false → src ≤ 44 → domOn s dAON = true →
    let t := send s src dst x
    t.xing = s.xing ∧ fld (reg t lSYS (0x200 + 4 * src)) 15 0 = min (fld (reg s lSYS (0x200 + 4 * src)) 15 0 + 1) 0xFFFF ∧
      (∀ k, k ≠ rk lSYS (0x200 + 4 * src) → rget t k = rget s k) ∧ { t with act := s.act } = s) ∧
  (∀ (s : State) (x : Xing) (r : List Xing), s.xing = x :: r → unitOn s x.dst = false → x.src ≤ 44 → domOn s dAON = true →
    ∃ t, exec .crossingArrival s = .next (settle t) ∧ t.xing = r ∧
      fld (reg t lSYS (0x200 + 4 * x.src)) 15 0 = min (fld (reg s lSYS (0x200 + 4 * x.src)) 15 0 + 1) 0xFFFF ∧
      (∀ k, k ≠ rk lSYS (0x200 + 4 * x.src) → rget t k = rget s k) ∧
      { t with xing := s.xing, act := s.act } = s) ∧
  (∀ (s : State) (x : Xing) (r : List Xing), s.xing = x :: r → unitOn s x.dst = false → domOn s dAON = false →
    exec .crossingArrival s = .next (settle { s with xing := r }))

/-- R65: in the register space, an access that reaches nothing reads 0, writes nothing and is captured in SYS.ERR_INFO with code 0x6; one to a page whose domain
is off with code 0x7; the display pages of the -B capture nothing. -/
def Obligations.UnmappedAndPowerlessAccessesCaptured : Prop :=
  ∀ (s : State) (c : Ctx) (a : Word), 0x40000000 ≤ a.toNat → a.toNat < 0x40120000 → pathOk s c = true →
    (placeOf (a.toNat - 0x40000000) = none → ∀ (w : Bool) (v : DWord),
      exec (.registerWrite c a w v) s = .next (settle (captureAt s lSYS c true 0x6 (a.toNat % 0x1000) (a.toNat / 0x1000 % 0x200))) ∧
      exec (.unmappedAccess c a true) s = .next (settle (captureAt s lSYS c true 0x6 (a.toNat % 0x1000) (a.toNat / 0x1000 % 0x200))) ∧
      exec (.rcCounterRead c a w) s = .next (settle
        (captureAt { s with rdata := 0#64 } lSYS c false 0x6 (a.toNat % 0x1000) (a.toNat / 0x1000 % 0x200)))) ∧
    (∀ (p : Place) (w : Bool) (v : DWord), placeOf (a.toNat - 0x40000000) = some p → present s p.unit = true → unitOn s p.unit = false →
      exec (.registerWrite c a w v) s = .next (settle (captureAt s lSYS c true 0x7 (a.toNat % 0x1000) (a.toNat / 0x1000 % 0x200))) ∧
      exec (.rcCounterRead c a w) s = .next (settle
        (captureAt { s with rdata := 0#64 } lSYS c false 0x7 (a.toNat % 0x1000) (a.toNat / 0x1000 % 0x200)))) ∧
    (∀ (p : Place) (w : Bool) (v : DWord), placeOf (a.toNat - 0x40000000) = some p → present s p.unit = false →
      exec (.registerWrite c a w v) s = .next (settle s) ∧
      exec (.rcCounterRead c a w) s = .next (settle { s with rdata := 0#64 }))

/-- R71: a command that writes a register of a page as another context than its owner has no effect but its capture with code 0x1; a read of a block-specific
register without the READ_MASK bit returns 0 and is captured with code 0x2; any context reads the header; after a module reset CTX_0 owns every unit. -/
def Obligations.NonOwnerAccessesCaptured : Prop :=
  (∀ (i : Instr) (c : Ctx) (u o : Nat) (s : State), ownerOnly i = some (c, u, o) → i.wf = true → reaches s c u = true → (hdr s u).owner ≠ c →
    exec i s = .next (settle (capture s (pageOf u) c true 0x1 (rk u o % 0x1000)))) ∧
  (∀ (s : State) (c : Ctx) (a : Word) (v : DWord) (p : Place), 0x40000000 ≤ a.toNat → a.toNat < 0x40120000 → a.toNat % 4 = 0 →
    placeOf (a.toNat - 0x40000000) = some p → reaches s c p.unit = true → (hdr s p.unit).owner ≠ c →
    (p.av = false → inHdr p.unit p.off = true → p.off ≠ ownerOff p.unit →
      exec (.registerWrite c a false v) s = .next (settle (capture s (pageOf p.unit) c true 0x1 (rk p.unit p.off % 0x1000)))) ∧
    (p.av = false → inHdr p.unit p.off = false → specialWrite s c p.unit p.off (BitVec.ofNat 32 v.toNat) = none →
      exec (.registerWrite c a false v) s = .next (settle (capture s (pageOf p.unit) c true 0x1 (rk p.unit p.off % 0x1000)))) ∧
    ((hdr s p.unit).readMask.getLsbD c.toNat = false → p.av = true ∨ (inHdr p.unit p.off = false ∧ mayReadOwn c p.unit p.off = false) →
      exec (.rcCounterRead c a false) s = .next (settle (capture { s with rdata := 0#64 } (pageOf p.unit) c false 0x2 (a.toNat % 0x1000)))) ∧
    (p.av = false → inHdr p.unit p.off = true → freeBits s p.unit p.off = 0#32 →
      exec (.rcCounterRead c a false) s = .next (settle { s with
        rdata := BitVec.ofNat 64 (wordOf { s with rdata := 0#64 } p.unit p.off false).toNat }))) ∧
  (∀ (s : State) (k : BitVec 7) (u : Nat), (hdr (moduleReset s k) u).owner = 0#3)

/-- R181, R202, R241, R267, R361: the blocks PV_x, CMD_x, NACK_x, ECMD_x and SNAP_x take writes from CTX_x only, whoever owns the page; another context's
write has no effect and is captured with code 0x1. -/
def Obligations.ContextBlocksTakeTheirContextOnly : Prop :=
  ∀ (i : Instr) (x c : Ctx) (u o : Nat) (s : State), blockOnly i = some (x, c, u, o) → reaches s c u = true → c ≠ x →
    exec i s = .next (settle (capture s (pageOf u) c true 0x1 (rk u o % 0x1000)))

/-- R72: the owner or CTX_0 writes OWNER unless LOCK is 1; under LOCK, and by others, it has no effect and is captured with code 0x1; after the change the former
owner's writes are non-owner writes. -/
def Obligations.OwnerRegisterRule : Prop :=
  ∀ (s : State) (c : Ctx) (u : BitVec 8) (v : Word), unitOk u.toNat = true → reaches s c u.toNat = true →
    ((hdr s u.toNat).lock = true →
      exec (.ownerWrite c u v) s = .next (settle (capture s (pageOf u.toNat) c true 0x1 (rk u.toNat (ownerOff u.toNat) % 0x1000)))) ∧
    ((hdr s u.toNat).lock = false → c ≠ (hdr s u.toNat).owner → c ≠ 0#3 →
      exec (.ownerWrite c u v) s = .next (settle (capture s (pageOf u.toNat) c true 0x1 (rk u.toNat (ownerOff u.toNat) % 0x1000)))) ∧
    ((hdr s u.toNat).lock = false → c = (hdr s u.toNat).owner ∨ c = 0#3 → ∃ t, exec (.ownerWrite c u v) s = .next t ∧
      (hdr t u.toNat).owner = BitVec.ofNat 3 (fld v 2 0) ∧ (hdr t u.toNat).readMask = BitVec.ofNat 8 (fld v 15 8) ∧ (hdr t u.toNat).lock = bit v 31 ∧
      ((hdr s u.toNat).owner ≠ BitVec.ofNat 3 (fld v 2 0) → reaches s (hdr s u.toNat).owner u.toNat = true →
        exec (.applyDiscard (hdr s u.toNat).owner u) t = .next (settle
          (capture t (pageOf u.toNat) (hdr s u.toNat).owner true 0x1 (rk u.toNat (applyOff u.toNat) % 0x1000)))))

/-- R73: when OWNER.CTX changes, the staged fields are discarded, LIVE, CFG_SKEW and REJECT clear, and a pending set still takes effect. -/
def Obligations.OwnerChangeDiscardsStagedFields : Prop :=
  ∀ (s : State) (c : Ctx) (u : BitVec 8) (v : Word), unitOk u.toNat = true → reaches s c u.toNat = true → (hdr s u.toNat).lock = false →
    c = (hdr s u.toNat).owner ∨ c = 0#3 → (hdr s u.toNat).owner ≠ BitVec.ofNat 3 (fld v 2 0) →
    ∃ t, exec (.ownerWrite c u v) s = .next t ∧ stagedOf t u.toNat = [] ∧ (hdr t u.toNat).live = false ∧ (hdr t u.toNat).skew = false ∧
      (hdr t u.toNat).reject = false ∧ (hdr t u.toNat).pend = (hdr s u.toNat).pend ∧ t.act = s.act ∧
      ((hdr s u.toNat).pend.isSome = true → u.toNat ≠ lFIO → u.toNat ≠ lSSNS → ¬(5 ≤ u.toNat ∧ u.toNat ≤ 12) → ¬(64 ≤ u.toNat ∧ u.toNat < 128) →
        exec (.applyBoundary u) t = .next (settle (applied (takeEffect t u.toNat).1 t u.toNat (takeEffect t u.toNat).2))) ∧
      ((hdr s u.toNat).pend.isSome = true → 64 ≤ u.toNat → u.toNat < 128 →
        exec (.applyBoundary u) t = .next (settle (slotTake t (u.toNat - 64)))) ∧
      ((hdr s u.toNat).pend.isSome = true → 5 ≤ u.toNat → u.toNat ≤ 12 →
        exec (.applyBoundary u) t = .next (settle (chmApplied (takeEffect t u.toNat).1 t (u.toNat - 5) (takeEffect t u.toNat).2))) ∧
      ((hdr s u.toNat).pend.isSome = true → u.toNat = lSSNS → exec (.applyBoundary u) t = .next (settle (ssnsBoundary t))) ∧
      ((hdr s u.toNat).pend.isSome = true → u.toNat = lFIO → exec (.applyBoundary u) t = .next (settle
        (if atBoundary t lFIO then applied (takeEffect t lFIO).1 t lFIO (takeEffect t lFIO).2 else fioBoundary t)))

/-- R74: the first error is captured whole and sets ERR; while VALID is 1 a later one only sets OVERFLOW, but for a device fault, which replaces the fields; a 1 to
IRQ_CLR.ERR lets the next one be captured; a captured access changes nothing else. -/
def Obligations.FirstErrorIsCaptured : Prop :=
  ∀ (s : State) (u : Nat) (c : Ctx) (w : Bool) (k o p : Nat),
    ((hdr s u).err.valid = false →
      (hdr (captureAt s u c w k o p) u).err = ⟨true, false, c, w, BitVec.ofNat 4 k, BitVec.ofNat 12 o, BitVec.ofNat 9 p⟩ ∧
      (hdr (captureAt s u c w k o p) u).latched = (hdr s u).latched ||| 0x80000000#32) ∧
    ((hdr s u).err.valid = true →
      hdr (captureAt s u c w k o p) u = { hdr s u with err := { (hdr s u).err with overflow := true } }) ∧
    (hdr (captureFault s u w) u).err = ⟨true, (hdr s u).err.valid, 0#3, w, 0xF#4, 0#12, 0#9⟩ ∧
    (∀ v, v ≠ u → hdr (captureAt s u c w k o p) v = hdr s v) ∧
    { captureAt s u c w k o p with hdr := s.hdr } = s ∧
    (∀ (d : Ctx) (n : BitVec 6) (v : Word), n.toNat = u → u ≤ 44 → owns s d u = true → bit v 31 = true →
      ∃ t, exec (.irqClrWrite d n v) s = .next t ∧ (hdr t u).err.valid = false ∧ (hdr t u).err.overflow = false ∧
        bit (hdr t u).latched 31 = false ∧
        (hdr (captureAt t u c w k o p) u).err = ⟨true, false, c, w, BitVec.ofNat 4 k, BitVec.ofNat 12 o, BitVec.ofNat 9 p⟩)

/-- R46: Sleep is refused, with REFUSED set and the state kept, while a local point is in another state than NORM, OOS or SHELVED, or Echo has a call or a dead-man
pre-warning in progress; Doze is never refused. -/
def Obligations.SleepRefusedWhileBusy : Prop :=
  ∀ (s : State) (c : Ctx), owns s c lPWR = true →
    ((∃ e ∈ s.gal.pts, dEn e.2.desc = true ∧ e.2.core.st ≠ 0#3 ∧ e.2.core.st ≠ 4#3 ∧ e.2.core.st ≠ 6#3) ∨
      (∃ e ∈ s.echo.calls, e.2.st ≠ 0#2) ∨ 2 ≤ s.echo.dm.st.toNat →
      ∃ t, exec (.pstateReqSleep c) s = .next t ∧ t.pwr.refused = true ∧ t.pwr.pstate = s.pwr.pstate ∧ t.pwr.goal = s.pwr.goal) ∧
    (∃ t, exec (.pstateReqDoze c) s = .next t ∧ t.pwr.refused = false)

/-- R100: while a commit is on its way into the Grotto, a write of CAL_SET_SEC or of 0xA5 to APPLY has no effect and is captured with code 0x8. -/
def Obligations.OneGrottoCommitAtATime : Prop :=
  ∀ (s : State) (c : Ctx) (v : Word), owns s c lGROT = true → pendingSet s lGROT = true → (hdr s lGROT).live = false →
    exec (.calSetSec c v) s = .next (settle (capture s lGROT c true 0x8 0x118)) ∧
    exec (.applyCommit c 2#8) s = .next (settle (capture s lGROT c true 0x8 0x20))

/-- R427: an inbound fault is recorded in IN_FAULT, the first until it is cleared, sets IRQ_RAW.IN_FAULT, and stops no queue. -/
def Obligations.InboundFaultRecordedFirst : Prop :=
  ∀ (s : State) (c : Ctx) (w : Bool) (f : XFault),
    let t := inboundFault s c w f
    (s.dma.inFault.valid = false → t.dma.inFault.valid = true ∧ t.dma.inFault.reason = f.reason ∧ t.dma.inFault.ctx = c ∧
      t.dma.inFault.write = w ∧ t.dma.inFault.addr = BitVec.ofNat 64 f.addr) ∧
    (s.dma.inFault.valid = true → t.dma.inFault = s.dma.inFault) ∧
    bit (hdr t lIOMMU).latched 0 = true ∧ t.dma.q = s.dma.q ∧ (∀ n, qState t n = qState s n)

/-- R432: before the lock, EN = 1 on GAL, GRP, LOOP and FLOW has no effect and is captured with code 0x8; after it, DESC_BASE, GRAPH_BASE, MIRROR_BASE and GT_BASE
show the locked bases. -/
def Obligations.PinnedRegionsLockedBeforeEnable : Prop :=
  (∀ (s : State) (c : Ctx) (u : BitVec 6), u.toNat = lGAL ∨ u.toNat = lGRP ∨ u.toNat = lLOOP ∨ u.toNat = lFLOW → owns s c u.toNat = true →
    (hdr s u.toNat).en = false → s.pinLocked = false →
    exec (.blkEnable c u) s = .next (settle (capture s u.toNat c true 0x8 0x8))) ∧
  (∀ s : State, s.pinLocked = true →
    wordOf s lGAL 0x134 false = reg s lDMA 0x180 ∧ wordOf s lLOOP 0x130 false = reg s lDMA 0x184 ∧
    wordOf s lGRP 0x120 false = reg s lDMA 0x188 ∧ wordOf s lGRP 0x11C false = reg s lDMA 0x18C)

/-- A step of a state with a command at the front of its queue is that command's effect on the state with the rest of the queue. -/
def Obligations.StepRunsTheFrontCommand : Prop :=
  ∀ (s : State) (c : Instr) (r : List Instr), s.pending = c :: r → step s = exec c { s with pending := r }

/-- R88, R89: on an empty queue a step is a quarter of an 8 ns clock period (the model's choice, assumption 5): uptime and the interpolated TIME64 advance by 2 ns while
the period lasts. With no dry run, 4 n steps from the start of a period advance uptime by 8 n ns and the counter by the whole nanoseconds of n periods at the rate in use,
the fraction kept, while PD_NET is on. -/
def Obligations.IdleStepsAdvanceTime : Prop :=
  (∀ s : State, s.pending = [] → s.gal.dry = [] → domOn s dNET = true → s.ptp.sub ≠ 3#2 →
    ∃ t, step s = .next (settle t) ∧ t = { s with now := s.now + 2, ptp := { s.ptp with sub := s.ptp.sub + 1#2 } } ∧ time64 t = time64 s + 2#64) ∧
  ∀ (n : Nat) (s : State), s.pending = [] → s.gal.dry = [] → s.ptp.frac < 1024000000000 → s.ptp.sub = 0#2 →
    ∃ t, idle (4 * n) s = some t ∧ t.now = s.now + 8 * n ∧
      (domOn s dNET = true →
        t.ptp.time = s.ptp.time + BitVec.ofInt 64 (((s.ptp.frac : Int) + n * (8 * 1024000000000 + 8 * s.ptp.rate)) / 1024000000000) ∧
        (t.ptp.frac : Int) = ((s.ptp.frac : Int) + n * (8 * 1024000000000 + 8 * s.ptp.rate)) % 1024000000000 ∧ t.ptp.sub = 0#2) ∧
      (domOn s dNET = false → t.ptp = s.ptp)

/-- R76, R77, R382, R408, R433: whatever the state, a step that answers a next state leaves the interrupts settled: what is on record as asserted toward PCIE_0 and
PCIE_1 is what is asserted there, and a NOTIFY is on record only while CTX_PEND_6 is not zero. -/
def Obligations.EveryStepSettlesInterrupts : Prop := ∀ s t : State, step s = .next t → Settled t

/-- The interrupts of the state after reset are settled. -/
def Obligations.InterruptsSettledAfterReset : Prop := Settled State.reset

/-- What the settling that ends every command does: it appends one MSI-X vector for each line that has become asserted toward PCIE_0 or PCIE_1, none for a line that
stays asserted (R77), and changes no register, no memory and no other state. -/
def Obligations.SettlingSendsRisingLinesOnly : Prop :=
  ∀ s : State, ∃ l : List Out, (settle s).out = s.out ++ l ∧
    (∀ n ∈ s.msi0, Out.msix 0 n ∉ l) ∧ (∀ n ∈ s.msi1, Out.msix 1 n ∉ l) ∧
    (∀ n, Out.msix 0 n ∈ l ↔ n ∈ vectorsOf s 0 ∧ n ∉ s.msi0) ∧ (∀ n, Out.msix 1 n ∈ l ↔ n ∈ vectorsOf s 1 ∧ n ∉ s.msi1) ∧
    (∀ o ∈ l, ∃ n, o = Out.msix 0 n ∨ o = Out.msix 1 n) ∧
    { settle s with msi0 := s.msi0, msi1 := s.msi1, out := s.out, net := { (settle s).net with notified := s.net.notified } } = s

/-- Every well-formed command answers a next state in every state, and every term that is no command ends in the fault that says so: the model refuses nothing. -/
def Obligations.EveryCommandCompletes : Prop :=
  ∀ (i : Instr) (s : State), (i.wf = true → ∃ t, exec i s = .next t) ∧ (i.wf = false → exec i s = .fault .illFormed)

/-- R49, R55, R68, R71 and the page maps: what reset leaves. No command waits; every unit is disabled, owned by CTX_0, with nothing staged, pending or latched; the boot
ROM runs with the domains of the start-up timeline's first step; outputs are not released; and the registers read the reset values of their tables. That the module is in
OPERATIONAL and RST_CAUSE shows power-on is the model's choice (assumption 7). -/
def Obligations.ResetLeavesTheStatedValues : Prop :=
  State.reset.pending = [] ∧ State.reset.out = [] ∧ State.reset.stg = [] ∧ State.reset.mem = [] ∧ State.reset.xing = [] ∧
  (∀ u, (hdr State.reset u).owner = 0#3 ∧ (hdr State.reset u).en = false ∧ (hdr State.reset u).latched = 0#32 ∧ (hdr State.reset u).mask = 0#32 ∧
    (hdr State.reset u).pend = none ∧ (hdr State.reset u).gen = 0 ∧ (hdr State.reset u).err.valid = false ∧ (hdr State.reset u).live = false ∧
    (hdr State.reset u).lock = false ∧ stagedOf State.reset u = []) ∧
  State.reset.pwr.phase = .boot ∧ State.reset.pwr.doms = 0x038B#16 ∧ State.reset.pwr.released = false ∧ State.reset.pwr.degraded = false ∧
  State.reset.pinLocked = false ∧ State.reset.pwr.rstCause = 0x01#7 ∧ State.reset.pwr.lcState = 2#3 ∧ time64 State.reset = 0#64 ∧
  reg State.reset lPWR 0x124 = 0x3E8#32 ∧ reg State.reset lPWR 0x130 = 1500#32 ∧ reg State.reset lPWR 0x138 = 10#32 ∧ reg State.reset lPWR 0x108 = 0x100#32 ∧
  reg State.reset lSSNS 0x104 = 2000#32 ∧ reg State.reset lINTG 0x100 = 4#32 ∧ reg State.reset lGAL 0x100 = 28800#32 ∧ reg State.reset lGRP 0x10C = 49400#32 ∧
  reg State.reset lECHO 0x100 = 4#32 ∧ reg State.reset lFIO 0x134 = 100#32 ∧ reg State.reset lNET 0x114 = 0xC0F9C0FA#32 ∧
  reg State.reset (lCAN 5) 0x104 = 0x04081E00#32 ∧ reg State.reset (lSER 0) 0x100 = 0xC#32 ∧ reg State.reset lLANT 0x100 = 0x48078#32 ∧
  reg State.reset lDMA 0x100 = 64#32 ∧ reg State.reset lROPE 0x100 = 0x1400#32 ∧ reg State.reset lPTP 0x114 = 0x20004#32

/-- R79 to R81: a write of staged fields, then APPLY, changes no value in use before the set passes its checks, and then all of them together: for a unit at its boundary
whose set passes, the committed values are those of `takeEffect` on the whole set, PENDING is clear, GEN has gone up by one and APPLY_DONE is latched. -/
def Obligations.CommittedSetTakesEffectAsAWhole : Prop :=
  ∀ (s : State) (u : Nat) (set : List (Nat × Word)), (hdr s u).pend = some set → (hdr s u).livePend = false → u < 64 →
    let t := (takeEffect s u).1
    (hdr t u).pend = none ∧ (hdr t u).gen = (hdr s u).gen + 1 ∧ bit (hdr t u).latched 30 = true ∧
    (∀ k, (∀ e ∈ set, e.1 ≠ k) → rget t k = rget s k) ∧
    (∀ e ∈ set, (set.filter (fun x => x.1 = e.1)).length = 1 → rget t e.1 &&& rwsOfKey e.1 = e.2 &&& rwsOfKey e.1) ∧
    (∀ k, rget t k &&& ~~~rwsOfKey k = rget s k &&& ~~~rwsOfKey k) ∧
    { t with hdr := s.hdr, act := s.act } = s

/-- R80: a set that fails a check changes no value in use; REJECT, REASON and REJ_OFFSET say why, APPLY_REJ is latched, the staged fields are kept, and an earlier set
stays pending. -/
def Obligations.RejectedSetChangesNothing : Prop :=
  ∀ (s : State) (c : Ctx) (u : BitVec 8) (k : Chk), u.toNat ≤ 44 → owns s c u.toNat = true → (hdr s u.toNat).live = false →
    u.toNat ≠ lGROT ∨ grotPending s = false → firstFail (checks s (withStaged s u.toNat) u.toNat) = some k →
    ∃ t, exec (.applyCommit c u) s = .next t ∧ (hdr t u.toNat).reject = true ∧ (hdr t u.toNat).reason = BitVec.ofNat 8 k.reason ∧
      (hdr t u.toNat).rejOff = BitVec.ofNat 12 k.off ∧ bit (hdr t u.toNat).latched 29 = true ∧ (hdr t u.toNat).pend = (hdr s u.toNat).pend ∧
      (hdr t u.toNat).gen = (hdr s u.toNat).gen ∧ t.act = s.act ∧ t.stg = s.stg ∧ t.mem = s.mem ∧
      (∀ v, v ≠ u.toNat → hdr t v = hdr s v)

/-- R67, R68: a write of OWNER, IRQ_CLR or APPLY by its address is the command of that register: reached with REGISTER_WRITE, each does what the row of the same name
does. -/
def Obligations.HeaderWritesAreTheirCommands : Prop :=
  ∀ (s : State) (c : Ctx) (u : BitVec 6) (v : DWord), u.toNat ≤ 44 →
    let at0 (o : Nat) : Word := BitVec.ofNat 32 (0x40000000 + unitBase u.toNat + o)
    exec (.registerWrite c (at0 0x28) false v) s = exec (.ownerWrite c (u.zeroExtend 8) (BitVec.ofNat 32 v.toNat)) s ∧
    exec (.registerWrite c (at0 0x1C) false v) s = exec (.irqClrWrite c u (BitVec.ofNat 32 v.toNat)) s ∧
    (v = 0xA5#64 → exec (.registerWrite c (at0 0x20) false v) s = exec (.applyCommit c (u.zeroExtend 8)) s) ∧
    (v = 0x5A#64 → exec (.registerWrite c (at0 0x20) false v) s = exec (.applyDiscard c (u.zeroExtend 8)) s)
end

