-- ==== Sys2Proof/Laws/State.lean ====
section
/-! SUPPORT. What each plain update of State leaves in each field: one lemma per update and field, true by unfolding. -/
namespace Sys2Proof.Machine

@[simp] theorem setHdr_pending (s : State) (u : Nat) (h : Hdr) : (setHdr s u h).pending = s.pending := rfl
@[simp] theorem setHdr_now (s : State) (u : Nat) (h : Hdr) : (setHdr s u h).now = s.now := rfl
@[simp] theorem setHdr_fresh (s : State) (u : Nat) (h : Hdr) : (setHdr s u h).fresh = s.fresh := rfl
@[simp] theorem setHdr_mem (s : State) (u : Nat) (h : Hdr) : (setHdr s u h).mem = s.mem := rfl
@[simp] theorem setHdr_act (s : State) (u : Nat) (h : Hdr) : (setHdr s u h).act = s.act := rfl
@[simp] theorem setHdr_stg (s : State) (u : Nat) (h : Hdr) : (setHdr s u h).stg = s.stg := rfl
@[simp] theorem setHdr_rdata (s : State) (u : Nat) (h : Hdr) : (setHdr s u h).rdata = s.rdata := rfl
@[simp] theorem setHdr_otp (s : State) (u : Nat) (h : Hdr) : (setHdr s u h).otp = s.otp := rfl
@[simp] theorem setHdr_hostUp (s : State) (u : Nat) (h : Hdr) : (setHdr s u h).hostUp = s.hostUp := rfl
@[simp] theorem setHdr_pwr (s : State) (u : Nat) (h : Hdr) : (setHdr s u h).pwr = s.pwr := rfl
@[simp] theorem setHdr_clk (s : State) (u : Nat) (h : Hdr) : (setHdr s u h).clk = s.clk := rfl
@[simp] theorem setHdr_ptp (s : State) (u : Nat) (h : Hdr) : (setHdr s u h).ptp = s.ptp := rfl
@[simp] theorem setHdr_grot (s : State) (u : Nat) (h : Hdr) : (setHdr s u h).grot = s.grot := rfl
@[simp] theorem setHdr_flow (s : State) (u : Nat) (h : Hdr) : (setHdr s u h).flow = s.flow := rfl
@[simp] theorem setHdr_lant (s : State) (u : Nat) (h : Hdr) : (setHdr s u h).lant = s.lant := rfl
@[simp] theorem setHdr_bist (s : State) (u : Nat) (h : Hdr) : (setHdr s u h).bist = s.bist := rfl
@[simp] theorem setHdr_chmb (s : State) (u : Nat) (h : Hdr) : (setHdr s u h).chmb = s.chmb := rfl
@[simp] theorem setHdr_ssns (s : State) (u : Nat) (h : Hdr) : (setHdr s u h).ssns = s.ssns := rfl
@[simp] theorem setHdr_intg (s : State) (u : Nat) (h : Hdr) : (setHdr s u h).intg = s.intg := rfl
@[simp] theorem setHdr_test (s : State) (u : Nat) (h : Hdr) : (setHdr s u h).test = s.test := rfl
@[simp] theorem setHdr_gal (s : State) (u : Nat) (h : Hdr) : (setHdr s u h).gal = s.gal := rfl
@[simp] theorem setHdr_grp (s : State) (u : Nat) (h : Hdr) : (setHdr s u h).grp = s.grp := rfl
@[simp] theorem setHdr_echo (s : State) (u : Nat) (h : Hdr) : (setHdr s u h).echo = s.echo := rfl
@[simp] theorem setHdr_fio (s : State) (u : Nat) (h : Hdr) : (setHdr s u h).fio = s.fio := rfl
@[simp] theorem setHdr_loop (s : State) (u : Nat) (h : Hdr) : (setHdr s u h).loop = s.loop := rfl
@[simp] theorem setHdr_net (s : State) (u : Nat) (h : Hdr) : (setHdr s u h).net = s.net := rfl
@[simp] theorem setHdr_dma (s : State) (u : Nat) (h : Hdr) : (setHdr s u h).dma = s.dma := rfl
@[simp] theorem setHdr_rope (s : State) (u : Nat) (h : Hdr) : (setHdr s u h).rope = s.rope := rfl
@[simp] theorem setHdr_pinLocked (s : State) (u : Nat) (h : Hdr) : (setHdr s u h).pinLocked = s.pinLocked := rfl
@[simp] theorem setHdr_pinErr (s : State) (u : Nat) (h : Hdr) : (setHdr s u h).pinErr = s.pinErr := rfl
@[simp] theorem setHdr_evq (s : State) (u : Nat) (h : Hdr) : (setHdr s u h).evq = s.evq := rfl
@[simp] theorem setHdr_loopFrameTime (s : State) (u : Nat) (h : Hdr) : (setHdr s u h).loopFrameTime = s.loopFrameTime := rfl
@[simp] theorem setHdr_xing (s : State) (u : Nat) (h : Hdr) : (setHdr s u h).xing = s.xing := rfl
@[simp] theorem setHdr_galIn (s : State) (u : Nat) (h : Hdr) : (setHdr s u h).galIn = s.galIn := rfl
@[simp] theorem setHdr_msi0 (s : State) (u : Nat) (h : Hdr) : (setHdr s u h).msi0 = s.msi0 := rfl
@[simp] theorem setHdr_msi1 (s : State) (u : Nat) (h : Hdr) : (setHdr s u h).msi1 = s.msi1 := rfl
@[simp] theorem setHdr_out (s : State) (u : Nat) (h : Hdr) : (setHdr s u h).out = s.out := rfl
@[simp] theorem setHdr_hdr (s : State) (u : Nat) (h : Hdr) : (setHdr s u h).hdr = tset s.hdr u h (Hdr.resetOf u) := rfl

@[simp] theorem rset_pending (s : State) (k : Nat) (v : Word) : (rset s k v).pending = s.pending := rfl
@[simp] theorem rset_now (s : State) (k : Nat) (v : Word) : (rset s k v).now = s.now := rfl
@[simp] theorem rset_fresh (s : State) (k : Nat) (v : Word) : (rset s k v).fresh = s.fresh := rfl
@[simp] theorem rset_mem (s : State) (k : Nat) (v : Word) : (rset s k v).mem = s.mem := rfl
@[simp] theorem rset_hdr (s : State) (k : Nat) (v : Word) : (rset s k v).hdr = s.hdr := rfl
@[simp] theorem rset_stg (s : State) (k : Nat) (v : Word) : (rset s k v).stg = s.stg := rfl
@[simp] theorem rset_rdata (s : State) (k : Nat) (v : Word) : (rset s k v).rdata = s.rdata := rfl
@[simp] theorem rset_otp (s : State) (k : Nat) (v : Word) : (rset s k v).otp = s.otp := rfl
@[simp] theorem rset_hostUp (s : State) (k : Nat) (v : Word) : (rset s k v).hostUp = s.hostUp := rfl
@[simp] theorem rset_pwr (s : State) (k : Nat) (v : Word) : (rset s k v).pwr = s.pwr := rfl
@[simp] theorem rset_clk (s : State) (k : Nat) (v : Word) : (rset s k v).clk = s.clk := rfl
@[simp] theorem rset_ptp (s : State) (k : Nat) (v : Word) : (rset s k v).ptp = s.ptp := rfl
@[simp] theorem rset_grot (s : State) (k : Nat) (v : Word) : (rset s k v).grot = s.grot := rfl
@[simp] theorem rset_flow (s : State) (k : Nat) (v : Word) : (rset s k v).flow = s.flow := rfl
@[simp] theorem rset_lant (s : State) (k : Nat) (v : Word) : (rset s k v).lant = s.lant := rfl
@[simp] theorem rset_bist (s : State) (k : Nat) (v : Word) : (rset s k v).bist = s.bist := rfl
@[simp] theorem rset_chmb (s : State) (k : Nat) (v : Word) : (rset s k v).chmb = s.chmb := rfl
@[simp] theorem rset_ssns (s : State) (k : Nat) (v : Word) : (rset s k v).ssns = s.ssns := rfl
@[simp] theorem rset_intg (s : State) (k : Nat) (v : Word) : (rset s k v).intg = s.intg := rfl
@[simp] theorem rset_test (s : State) (k : Nat) (v : Word) : (rset s k v).test = s.test := rfl
@[simp] theorem rset_gal (s : State) (k : Nat) (v : Word) : (rset s k v).gal = s.gal := rfl
@[simp] theorem rset_grp (s : State) (k : Nat) (v : Word) : (rset s k v).grp = s.grp := rfl
@[simp] theorem rset_echo (s : State) (k : Nat) (v : Word) : (rset s k v).echo = s.echo := rfl
@[simp] theorem rset_fio (s : State) (k : Nat) (v : Word) : (rset s k v).fio = s.fio := rfl
@[simp] theorem rset_loop (s : State) (k : Nat) (v : Word) : (rset s k v).loop = s.loop := rfl
@[simp] theorem rset_net (s : State) (k : Nat) (v : Word) : (rset s k v).net = s.net := rfl
@[simp] theorem rset_dma (s : State) (k : Nat) (v : Word) : (rset s k v).dma = s.dma := rfl
@[simp] theorem rset_rope (s : State) (k : Nat) (v : Word) : (rset s k v).rope = s.rope := rfl
@[simp] theorem rset_pinLocked (s : State) (k : Nat) (v : Word) : (rset s k v).pinLocked = s.pinLocked := rfl
@[simp] theorem rset_pinErr (s : State) (k : Nat) (v : Word) : (rset s k v).pinErr = s.pinErr := rfl
@[simp] theorem rset_evq (s : State) (k : Nat) (v : Word) : (rset s k v).evq = s.evq := rfl
@[simp] theorem rset_loopFrameTime (s : State) (k : Nat) (v : Word) : (rset s k v).loopFrameTime = s.loopFrameTime := rfl
@[simp] theorem rset_xing (s : State) (k : Nat) (v : Word) : (rset s k v).xing = s.xing := rfl
@[simp] theorem rset_galIn (s : State) (k : Nat) (v : Word) : (rset s k v).galIn = s.galIn := rfl
@[simp] theorem rset_msi0 (s : State) (k : Nat) (v : Word) : (rset s k v).msi0 = s.msi0 := rfl
@[simp] theorem rset_msi1 (s : State) (k : Nat) (v : Word) : (rset s k v).msi1 = s.msi1 := rfl
@[simp] theorem rset_out (s : State) (k : Nat) (v : Word) : (rset s k v).out = s.out := rfl
@[simp] theorem rset_act (s : State) (k : Nat) (v : Word) : (rset s k v).act = tset s.act k v (resetOfKey k) := rfl

@[simp] theorem setReg_pending (s : State) (u o : Nat) (v : Word) : (setReg s u o v).pending = s.pending := rfl
@[simp] theorem setReg_now (s : State) (u o : Nat) (v : Word) : (setReg s u o v).now = s.now := rfl
@[simp] theorem setReg_fresh (s : State) (u o : Nat) (v : Word) : (setReg s u o v).fresh = s.fresh := rfl
@[simp] theorem setReg_mem (s : State) (u o : Nat) (v : Word) : (setReg s u o v).mem = s.mem := rfl
@[simp] theorem setReg_hdr (s : State) (u o : Nat) (v : Word) : (setReg s u o v).hdr = s.hdr := rfl
@[simp] theorem setReg_stg (s : State) (u o : Nat) (v : Word) : (setReg s u o v).stg = s.stg := rfl
@[simp] theorem setReg_rdata (s : State) (u o : Nat) (v : Word) : (setReg s u o v).rdata = s.rdata := rfl
@[simp] theorem setReg_otp (s : State) (u o : Nat) (v : Word) : (setReg s u o v).otp = s.otp := rfl
@[simp] theorem setReg_hostUp (s : State) (u o : Nat) (v : Word) : (setReg s u o v).hostUp = s.hostUp := rfl
@[simp] theorem setReg_pwr (s : State) (u o : Nat) (v : Word) : (setReg s u o v).pwr = s.pwr := rfl
@[simp] theorem setReg_clk (s : State) (u o : Nat) (v : Word) : (setReg s u o v).clk = s.clk := rfl
@[simp] theorem setReg_ptp (s : State) (u o : Nat) (v : Word) : (setReg s u o v).ptp = s.ptp := rfl
@[simp] theorem setReg_grot (s : State) (u o : Nat) (v : Word) : (setReg s u o v).grot = s.grot := rfl
@[simp] theorem setReg_flow (s : State) (u o : Nat) (v : Word) : (setReg s u o v).flow = s.flow := rfl
@[simp] theorem setReg_lant (s : State) (u o : Nat) (v : Word) : (setReg s u o v).lant = s.lant := rfl
@[simp] theorem setReg_bist (s : State) (u o : Nat) (v : Word) : (setReg s u o v).bist = s.bist := rfl
@[simp] theorem setReg_chmb (s : State) (u o : Nat) (v : Word) : (setReg s u o v).chmb = s.chmb := rfl
@[simp] theorem setReg_ssns (s : State) (u o : Nat) (v : Word) : (setReg s u o v).ssns = s.ssns := rfl
@[simp] theorem setReg_intg (s : State) (u o : Nat) (v : Word) : (setReg s u o v).intg = s.intg := rfl
@[simp] theorem setReg_test (s : State) (u o : Nat) (v : Word) : (setReg s u o v).test = s.test := rfl
@[simp] theorem setReg_gal (s : State) (u o : Nat) (v : Word) : (setReg s u o v).gal = s.gal := rfl
@[simp] theorem setReg_grp (s : State) (u o : Nat) (v : Word) : (setReg s u o v).grp = s.grp := rfl
@[simp] theorem setReg_echo (s : State) (u o : Nat) (v : Word) : (setReg s u o v).echo = s.echo := rfl
@[simp] theorem setReg_fio (s : State) (u o : Nat) (v : Word) : (setReg s u o v).fio = s.fio := rfl
@[simp] theorem setReg_loop (s : State) (u o : Nat) (v : Word) : (setReg s u o v).loop = s.loop := rfl
@[simp] theorem setReg_net (s : State) (u o : Nat) (v : Word) : (setReg s u o v).net = s.net := rfl
@[simp] theorem setReg_dma (s : State) (u o : Nat) (v : Word) : (setReg s u o v).dma = s.dma := rfl
@[simp] theorem setReg_rope (s : State) (u o : Nat) (v : Word) : (setReg s u o v).rope = s.rope := rfl
@[simp] theorem setReg_pinLocked (s : State) (u o : Nat) (v : Word) : (setReg s u o v).pinLocked = s.pinLocked := rfl
@[simp] theorem setReg_pinErr (s : State) (u o : Nat) (v : Word) : (setReg s u o v).pinErr = s.pinErr := rfl
@[simp] theorem setReg_evq (s : State) (u o : Nat) (v : Word) : (setReg s u o v).evq = s.evq := rfl
@[simp] theorem setReg_loopFrameTime (s : State) (u o : Nat) (v : Word) : (setReg s u o v).loopFrameTime = s.loopFrameTime := rfl
@[simp] theorem setReg_xing (s : State) (u o : Nat) (v : Word) : (setReg s u o v).xing = s.xing := rfl
@[simp] theorem setReg_galIn (s : State) (u o : Nat) (v : Word) : (setReg s u o v).galIn = s.galIn := rfl
@[simp] theorem setReg_msi0 (s : State) (u o : Nat) (v : Word) : (setReg s u o v).msi0 = s.msi0 := rfl
@[simp] theorem setReg_msi1 (s : State) (u o : Nat) (v : Word) : (setReg s u o v).msi1 = s.msi1 := rfl
@[simp] theorem setReg_out (s : State) (u o : Nat) (v : Word) : (setReg s u o v).out = s.out := rfl
@[simp] theorem setReg_act (s : State) (u o : Nat) (v : Word) : (setReg s u o v).act = tset s.act (rk u o) v (resetOfKey (rk u o)) := rfl

@[simp] theorem stage_pending (s : State) (k : Nat) (v : Word) : (stage s k v).pending = s.pending := rfl
@[simp] theorem stage_now (s : State) (k : Nat) (v : Word) : (stage s k v).now = s.now := rfl
@[simp] theorem stage_fresh (s : State) (k : Nat) (v : Word) : (stage s k v).fresh = s.fresh := rfl
@[simp] theorem stage_mem (s : State) (k : Nat) (v : Word) : (stage s k v).mem = s.mem := rfl
@[simp] theorem stage_hdr (s : State) (k : Nat) (v : Word) : (stage s k v).hdr = s.hdr := rfl
@[simp] theorem stage_act (s : State) (k : Nat) (v : Word) : (stage s k v).act = s.act := rfl
@[simp] theorem stage_rdata (s : State) (k : Nat) (v : Word) : (stage s k v).rdata = s.rdata := rfl
@[simp] theorem stage_otp (s : State) (k : Nat) (v : Word) : (stage s k v).otp = s.otp := rfl
@[simp] theorem stage_hostUp (s : State) (k : Nat) (v : Word) : (stage s k v).hostUp = s.hostUp := rfl
@[simp] theorem stage_pwr (s : State) (k : Nat) (v : Word) : (stage s k v).pwr = s.pwr := rfl
@[simp] theorem stage_clk (s : State) (k : Nat) (v : Word) : (stage s k v).clk = s.clk := rfl
@[simp] theorem stage_ptp (s : State) (k : Nat) (v : Word) : (stage s k v).ptp = s.ptp := rfl
@[simp] theorem stage_grot (s : State) (k : Nat) (v : Word) : (stage s k v).grot = s.grot := rfl
@[simp] theorem stage_flow (s : State) (k : Nat) (v : Word) : (stage s k v).flow = s.flow := rfl
@[simp] theorem stage_lant (s : State) (k : Nat) (v : Word) : (stage s k v).lant = s.lant := rfl
@[simp] theorem stage_bist (s : State) (k : Nat) (v : Word) : (stage s k v).bist = s.bist := rfl
@[simp] theorem stage_chmb (s : State) (k : Nat) (v : Word) : (stage s k v).chmb = s.chmb := rfl
@[simp] theorem stage_ssns (s : State) (k : Nat) (v : Word) : (stage s k v).ssns = s.ssns := rfl
@[simp] theorem stage_intg (s : State) (k : Nat) (v : Word) : (stage s k v).intg = s.intg := rfl
@[simp] theorem stage_test (s : State) (k : Nat) (v : Word) : (stage s k v).test = s.test := rfl
@[simp] theorem stage_gal (s : State) (k : Nat) (v : Word) : (stage s k v).gal = s.gal := rfl
@[simp] theorem stage_grp (s : State) (k : Nat) (v : Word) : (stage s k v).grp = s.grp := rfl
@[simp] theorem stage_echo (s : State) (k : Nat) (v : Word) : (stage s k v).echo = s.echo := rfl
@[simp] theorem stage_fio (s : State) (k : Nat) (v : Word) : (stage s k v).fio = s.fio := rfl
@[simp] theorem stage_loop (s : State) (k : Nat) (v : Word) : (stage s k v).loop = s.loop := rfl
@[simp] theorem stage_net (s : State) (k : Nat) (v : Word) : (stage s k v).net = s.net := rfl
@[simp] theorem stage_dma (s : State) (k : Nat) (v : Word) : (stage s k v).dma = s.dma := rfl
@[simp] theorem stage_rope (s : State) (k : Nat) (v : Word) : (stage s k v).rope = s.rope := rfl
@[simp] theorem stage_pinLocked (s : State) (k : Nat) (v : Word) : (stage s k v).pinLocked = s.pinLocked := rfl
@[simp] theorem stage_pinErr (s : State) (k : Nat) (v : Word) : (stage s k v).pinErr = s.pinErr := rfl
@[simp] theorem stage_evq (s : State) (k : Nat) (v : Word) : (stage s k v).evq = s.evq := rfl
@[simp] theorem stage_loopFrameTime (s : State) (k : Nat) (v : Word) : (stage s k v).loopFrameTime = s.loopFrameTime := rfl
@[simp] theorem stage_xing (s : State) (k : Nat) (v : Word) : (stage s k v).xing = s.xing := rfl
@[simp] theorem stage_galIn (s : State) (k : Nat) (v : Word) : (stage s k v).galIn = s.galIn := rfl
@[simp] theorem stage_msi0 (s : State) (k : Nat) (v : Word) : (stage s k v).msi0 = s.msi0 := rfl
@[simp] theorem stage_msi1 (s : State) (k : Nat) (v : Word) : (stage s k v).msi1 = s.msi1 := rfl
@[simp] theorem stage_out (s : State) (k : Nat) (v : Word) : (stage s k v).out = s.out := rfl
@[simp] theorem stage_stg (s : State) (k : Nat) (v : Word) : (stage s k v).stg = tset s.stg k (some v) none := rfl

/-- A discard changes the staged values alone (R80): without a set pending none of the unit is left. -/
theorem stageAll_updates (l : List (Nat × Word)) (f : State → Nat × Word → Word) :
    ∀ s : State, ∃ t : Tbl (Option Word), l.foldl (fun t e => stage t e.1 (f t e)) s = { s with stg := t } := by
  induction l with
  | nil => exact fun s => ⟨s.stg, rfl⟩
  | cons e r ih => exact fun s => (ih (stage s e.1 (f s e))).imp (fun _ h => h)
theorem discardStaged_updates (s : State) (u : Nat) : ∃ t : Tbl (Option Word), discardStaged s u = { s with stg := t } :=
  (stageAll_updates ((hdr s u).pend.getD []) (fun t e => rget t e.1 &&& rwsOfKey e.1)
    { s with stg := s.stg.filter (fun e => keyUnit e.1 ≠ u) }).imp (fun _ h => h)
@[simp] theorem discardStaged_pending (s : State) (u : Nat) : (discardStaged s u).pending = s.pending := by
  obtain ⟨_, h⟩ := discardStaged_updates s u; rw [h]
@[simp] theorem discardStaged_now (s : State) (u : Nat) : (discardStaged s u).now = s.now := by
  obtain ⟨_, h⟩ := discardStaged_updates s u; rw [h]
@[simp] theorem discardStaged_fresh (s : State) (u : Nat) : (discardStaged s u).fresh = s.fresh := by
  obtain ⟨_, h⟩ := discardStaged_updates s u; rw [h]
@[simp] theorem discardStaged_mem (s : State) (u : Nat) : (discardStaged s u).mem = s.mem := by
  obtain ⟨_, h⟩ := discardStaged_updates s u; rw [h]
@[simp] theorem discardStaged_hdr (s : State) (u : Nat) : (discardStaged s u).hdr = s.hdr := by
  obtain ⟨_, h⟩ := discardStaged_updates s u; rw [h]
@[simp] theorem discardStaged_act (s : State) (u : Nat) : (discardStaged s u).act = s.act := by
  obtain ⟨_, h⟩ := discardStaged_updates s u; rw [h]
@[simp] theorem discardStaged_rdata (s : State) (u : Nat) : (discardStaged s u).rdata = s.rdata := by
  obtain ⟨_, h⟩ := discardStaged_updates s u; rw [h]
@[simp] theorem discardStaged_otp (s : State) (u : Nat) : (discardStaged s u).otp = s.otp := by
  obtain ⟨_, h⟩ := discardStaged_updates s u; rw [h]
@[simp] theorem discardStaged_hostUp (s : State) (u : Nat) : (discardStaged s u).hostUp = s.hostUp := by
  obtain ⟨_, h⟩ := discardStaged_updates s u; rw [h]
@[simp] theorem discardStaged_pwr (s : State) (u : Nat) : (discardStaged s u).pwr = s.pwr := by
  obtain ⟨_, h⟩ := discardStaged_updates s u; rw [h]
@[simp] theorem discardStaged_clk (s : State) (u : Nat) : (discardStaged s u).clk = s.clk := by
  obtain ⟨_, h⟩ := discardStaged_updates s u; rw [h]
@[simp] theorem discardStaged_ptp (s : State) (u : Nat) : (discardStaged s u).ptp = s.ptp := by
  obtain ⟨_, h⟩ := discardStaged_updates s u; rw [h]
@[simp] theorem discardStaged_grot (s : State) (u : Nat) : (discardStaged s u).grot = s.grot := by
  obtain ⟨_, h⟩ := discardStaged_updates s u; rw [h]
@[simp] theorem discardStaged_flow (s : State) (u : Nat) : (discardStaged s u).flow = s.flow := by
  obtain ⟨_, h⟩ := discardStaged_updates s u; rw [h]
@[simp] theorem discardStaged_lant (s : State) (u : Nat) : (discardStaged s u).lant = s.lant := by
  obtain ⟨_, h⟩ := discardStaged_updates s u; rw [h]
@[simp] theorem discardStaged_bist (s : State) (u : Nat) : (discardStaged s u).bist = s.bist := by
  obtain ⟨_, h⟩ := discardStaged_updates s u; rw [h]
@[simp] theorem discardStaged_chmb (s : State) (u : Nat) : (discardStaged s u).chmb = s.chmb := by
  obtain ⟨_, h⟩ := discardStaged_updates s u; rw [h]
@[simp] theorem discardStaged_ssns (s : State) (u : Nat) : (discardStaged s u).ssns = s.ssns := by
  obtain ⟨_, h⟩ := discardStaged_updates s u; rw [h]
@[simp] theorem discardStaged_intg (s : State) (u : Nat) : (discardStaged s u).intg = s.intg := by
  obtain ⟨_, h⟩ := discardStaged_updates s u; rw [h]
@[simp] theorem discardStaged_test (s : State) (u : Nat) : (discardStaged s u).test = s.test := by
  obtain ⟨_, h⟩ := discardStaged_updates s u; rw [h]
@[simp] theorem discardStaged_gal (s : State) (u : Nat) : (discardStaged s u).gal = s.gal := by
  obtain ⟨_, h⟩ := discardStaged_updates s u; rw [h]
@[simp] theorem discardStaged_grp (s : State) (u : Nat) : (discardStaged s u).grp = s.grp := by
  obtain ⟨_, h⟩ := discardStaged_updates s u; rw [h]
@[simp] theorem discardStaged_echo (s : State) (u : Nat) : (discardStaged s u).echo = s.echo := by
  obtain ⟨_, h⟩ := discardStaged_updates s u; rw [h]
@[simp] theorem discardStaged_fio (s : State) (u : Nat) : (discardStaged s u).fio = s.fio := by
  obtain ⟨_, h⟩ := discardStaged_updates s u; rw [h]
@[simp] theorem discardStaged_loop (s : State) (u : Nat) : (discardStaged s u).loop = s.loop := by
  obtain ⟨_, h⟩ := discardStaged_updates s u; rw [h]
@[simp] theorem discardStaged_net (s : State) (u : Nat) : (discardStaged s u).net = s.net := by
  obtain ⟨_, h⟩ := discardStaged_updates s u; rw [h]
@[simp] theorem discardStaged_dma (s : State) (u : Nat) : (discardStaged s u).dma = s.dma := by
  obtain ⟨_, h⟩ := discardStaged_updates s u; rw [h]
@[simp] theorem discardStaged_rope (s : State) (u : Nat) : (discardStaged s u).rope = s.rope := by
  obtain ⟨_, h⟩ := discardStaged_updates s u; rw [h]
@[simp] theorem discardStaged_pinLocked (s : State) (u : Nat) : (discardStaged s u).pinLocked = s.pinLocked := by
  obtain ⟨_, h⟩ := discardStaged_updates s u; rw [h]
@[simp] theorem discardStaged_pinErr (s : State) (u : Nat) : (discardStaged s u).pinErr = s.pinErr := by
  obtain ⟨_, h⟩ := discardStaged_updates s u; rw [h]
@[simp] theorem discardStaged_evq (s : State) (u : Nat) : (discardStaged s u).evq = s.evq := by
  obtain ⟨_, h⟩ := discardStaged_updates s u; rw [h]
@[simp] theorem discardStaged_loopFrameTime (s : State) (u : Nat) : (discardStaged s u).loopFrameTime = s.loopFrameTime := by
  obtain ⟨_, h⟩ := discardStaged_updates s u; rw [h]
@[simp] theorem discardStaged_xing (s : State) (u : Nat) : (discardStaged s u).xing = s.xing := by
  obtain ⟨_, h⟩ := discardStaged_updates s u; rw [h]
@[simp] theorem discardStaged_galIn (s : State) (u : Nat) : (discardStaged s u).galIn = s.galIn := by
  obtain ⟨_, h⟩ := discardStaged_updates s u; rw [h]
@[simp] theorem discardStaged_msi0 (s : State) (u : Nat) : (discardStaged s u).msi0 = s.msi0 := by
  obtain ⟨_, h⟩ := discardStaged_updates s u; rw [h]
@[simp] theorem discardStaged_msi1 (s : State) (u : Nat) : (discardStaged s u).msi1 = s.msi1 := by
  obtain ⟨_, h⟩ := discardStaged_updates s u; rw [h]
@[simp] theorem discardStaged_out (s : State) (u : Nat) : (discardStaged s u).out = s.out := by
  obtain ⟨_, h⟩ := discardStaged_updates s u; rw [h]
theorem discardStaged_stg (s : State) (u : Nat) (h : (hdr s u).pend = none) :
    (discardStaged s u).stg = s.stg.filter (fun e => decide (keyUnit e.1 ≠ u)) := by
  have h' : (tget s.hdr u (Hdr.resetOf u)).pend = none := h
  simp [discardStaged, hdr, h']

@[simp] theorem answer_pending (s : State) (v : Nat) : (answer s v).pending = s.pending := rfl
@[simp] theorem answer_now (s : State) (v : Nat) : (answer s v).now = s.now := rfl
@[simp] theorem answer_fresh (s : State) (v : Nat) : (answer s v).fresh = s.fresh := rfl
@[simp] theorem answer_mem (s : State) (v : Nat) : (answer s v).mem = s.mem := rfl
@[simp] theorem answer_hdr (s : State) (v : Nat) : (answer s v).hdr = s.hdr := rfl
@[simp] theorem answer_act (s : State) (v : Nat) : (answer s v).act = s.act := rfl
@[simp] theorem answer_stg (s : State) (v : Nat) : (answer s v).stg = s.stg := rfl
@[simp] theorem answer_otp (s : State) (v : Nat) : (answer s v).otp = s.otp := rfl
@[simp] theorem answer_hostUp (s : State) (v : Nat) : (answer s v).hostUp = s.hostUp := rfl
@[simp] theorem answer_pwr (s : State) (v : Nat) : (answer s v).pwr = s.pwr := rfl
@[simp] theorem answer_clk (s : State) (v : Nat) : (answer s v).clk = s.clk := rfl
@[simp] theorem answer_ptp (s : State) (v : Nat) : (answer s v).ptp = s.ptp := rfl
@[simp] theorem answer_grot (s : State) (v : Nat) : (answer s v).grot = s.grot := rfl
@[simp] theorem answer_flow (s : State) (v : Nat) : (answer s v).flow = s.flow := rfl
@[simp] theorem answer_lant (s : State) (v : Nat) : (answer s v).lant = s.lant := rfl
@[simp] theorem answer_bist (s : State) (v : Nat) : (answer s v).bist = s.bist := rfl
@[simp] theorem answer_chmb (s : State) (v : Nat) : (answer s v).chmb = s.chmb := rfl
@[simp] theorem answer_ssns (s : State) (v : Nat) : (answer s v).ssns = s.ssns := rfl
@[simp] theorem answer_intg (s : State) (v : Nat) : (answer s v).intg = s.intg := rfl
@[simp] theorem answer_test (s : State) (v : Nat) : (answer s v).test = s.test := rfl
@[simp] theorem answer_gal (s : State) (v : Nat) : (answer s v).gal = s.gal := rfl
@[simp] theorem answer_grp (s : State) (v : Nat) : (answer s v).grp = s.grp := rfl
@[simp] theorem answer_echo (s : State) (v : Nat) : (answer s v).echo = s.echo := rfl
@[simp] theorem answer_fio (s : State) (v : Nat) : (answer s v).fio = s.fio := rfl
@[simp] theorem answer_loop (s : State) (v : Nat) : (answer s v).loop = s.loop := rfl
@[simp] theorem answer_net (s : State) (v : Nat) : (answer s v).net = s.net := rfl
@[simp] theorem answer_dma (s : State) (v : Nat) : (answer s v).dma = s.dma := rfl
@[simp] theorem answer_rope (s : State) (v : Nat) : (answer s v).rope = s.rope := rfl
@[simp] theorem answer_pinLocked (s : State) (v : Nat) : (answer s v).pinLocked = s.pinLocked := rfl
@[simp] theorem answer_pinErr (s : State) (v : Nat) : (answer s v).pinErr = s.pinErr := rfl
@[simp] theorem answer_evq (s : State) (v : Nat) : (answer s v).evq = s.evq := rfl
@[simp] theorem answer_loopFrameTime (s : State) (v : Nat) : (answer s v).loopFrameTime = s.loopFrameTime := rfl
@[simp] theorem answer_xing (s : State) (v : Nat) : (answer s v).xing = s.xing := rfl
@[simp] theorem answer_galIn (s : State) (v : Nat) : (answer s v).galIn = s.galIn := rfl
@[simp] theorem answer_msi0 (s : State) (v : Nat) : (answer s v).msi0 = s.msi0 := rfl
@[simp] theorem answer_msi1 (s : State) (v : Nat) : (answer s v).msi1 = s.msi1 := rfl
@[simp] theorem answer_out (s : State) (v : Nat) : (answer s v).out = s.out := rfl
@[simp] theorem answer_rdata (s : State) (v : Nat) : (answer s v).rdata = BitVec.ofNat 64 v := rfl

/-- All that a presentation changes: what is on its way, or the count of dropped values (R13, R14). -/
theorem send_cases (s : State) (a b : Nat) (p : Payload) :
    (unitOn s b = true ∧ send s a b p = { s with xing := s.xing ++ [⟨a, b, p⟩] }) ∨
    (unitOn s b = false ∧ send s a b p = dropAbsent s a) := by
  cases h : unitOn s b <;> simp [send, h]
theorem dropAbsent_cases (s : State) (n : Nat) : ∃ a : Tbl Word, dropAbsent s n = { s with act := a } := by
  unfold dropAbsent
  split
  · exact ⟨_, rfl⟩
  · exact ⟨s.act, rfl⟩
theorem send_updates (s : State) (a b : Nat) (p : Payload) :
    ∃ (x : List Xing) (t : Tbl Word), send s a b p = { s with xing := x, act := t } := by
  rcases send_cases s a b p with ⟨_, h⟩ | ⟨_, h⟩
  · exact ⟨_, s.act, h⟩
  · obtain ⟨t, ht⟩ := dropAbsent_cases s a
    exact ⟨s.xing, t, h.trans ht⟩
@[simp] theorem send_pending (s : State) (a b : Nat) (p : Payload) : (send s a b p).pending = s.pending := by
  obtain ⟨_, _, h⟩ := send_updates s a b p; rw [h]
@[simp] theorem send_now (s : State) (a b : Nat) (p : Payload) : (send s a b p).now = s.now := by
  obtain ⟨_, _, h⟩ := send_updates s a b p; rw [h]
@[simp] theorem send_fresh (s : State) (a b : Nat) (p : Payload) : (send s a b p).fresh = s.fresh := by
  obtain ⟨_, _, h⟩ := send_updates s a b p; rw [h]
@[simp] theorem send_mem (s : State) (a b : Nat) (p : Payload) : (send s a b p).mem = s.mem := by
  obtain ⟨_, _, h⟩ := send_updates s a b p; rw [h]
@[simp] theorem send_hdr (s : State) (a b : Nat) (p : Payload) : (send s a b p).hdr = s.hdr := by
  obtain ⟨_, _, h⟩ := send_updates s a b p; rw [h]
@[simp] theorem send_stg (s : State) (a b : Nat) (p : Payload) : (send s a b p).stg = s.stg := by
  obtain ⟨_, _, h⟩ := send_updates s a b p; rw [h]
@[simp] theorem send_rdata (s : State) (a b : Nat) (p : Payload) : (send s a b p).rdata = s.rdata := by
  obtain ⟨_, _, h⟩ := send_updates s a b p; rw [h]
@[simp] theorem send_otp (s : State) (a b : Nat) (p : Payload) : (send s a b p).otp = s.otp := by
  obtain ⟨_, _, h⟩ := send_updates s a b p; rw [h]
@[simp] theorem send_hostUp (s : State) (a b : Nat) (p : Payload) : (send s a b p).hostUp = s.hostUp := by
  obtain ⟨_, _, h⟩ := send_updates s a b p; rw [h]
@[simp] theorem send_pwr (s : State) (a b : Nat) (p : Payload) : (send s a b p).pwr = s.pwr := by
  obtain ⟨_, _, h⟩ := send_updates s a b p; rw [h]
@[simp] theorem send_clk (s : State) (a b : Nat) (p : Payload) : (send s a b p).clk = s.clk := by
  obtain ⟨_, _, h⟩ := send_updates s a b p; rw [h]
@[simp] theorem send_ptp (s : State) (a b : Nat) (p : Payload) : (send s a b p).ptp = s.ptp := by
  obtain ⟨_, _, h⟩ := send_updates s a b p; rw [h]
@[simp] theorem send_grot (s : State) (a b : Nat) (p : Payload) : (send s a b p).grot = s.grot := by
  obtain ⟨_, _, h⟩ := send_updates s a b p; rw [h]
@[simp] theorem send_flow (s : State) (a b : Nat) (p : Payload) : (send s a b p).flow = s.flow := by
  obtain ⟨_, _, h⟩ := send_updates s a b p; rw [h]
@[simp] theorem send_lant (s : State) (a b : Nat) (p : Payload) : (send s a b p).lant = s.lant := by
  obtain ⟨_, _, h⟩ := send_updates s a b p; rw [h]
@[simp] theorem send_bist (s : State) (a b : Nat) (p : Payload) : (send s a b p).bist = s.bist := by
  obtain ⟨_, _, h⟩ := send_updates s a b p; rw [h]
@[simp] theorem send_chmb (s : State) (a b : Nat) (p : Payload) : (send s a b p).chmb = s.chmb := by
  obtain ⟨_, _, h⟩ := send_updates s a b p; rw [h]
@[simp] theorem send_ssns (s : State) (a b : Nat) (p : Payload) : (send s a b p).ssns = s.ssns := by
  obtain ⟨_, _, h⟩ := send_updates s a b p; rw [h]
@[simp] theorem send_intg (s : State) (a b : Nat) (p : Payload) : (send s a b p).intg = s.intg := by
  obtain ⟨_, _, h⟩ := send_updates s a b p; rw [h]
@[simp] theorem send_test (s : State) (a b : Nat) (p : Payload) : (send s a b p).test = s.test := by
  obtain ⟨_, _, h⟩ := send_updates s a b p; rw [h]
@[simp] theorem send_gal (s : State) (a b : Nat) (p : Payload) : (send s a b p).gal = s.gal := by
  obtain ⟨_, _, h⟩ := send_updates s a b p; rw [h]
@[simp] theorem send_grp (s : State) (a b : Nat) (p : Payload) : (send s a b p).grp = s.grp := by
  obtain ⟨_, _, h⟩ := send_updates s a b p; rw [h]
@[simp] theorem send_echo (s : State) (a b : Nat) (p : Payload) : (send s a b p).echo = s.echo := by
  obtain ⟨_, _, h⟩ := send_updates s a b p; rw [h]
@[simp] theorem send_fio (s : State) (a b : Nat) (p : Payload) : (send s a b p).fio = s.fio := by
  obtain ⟨_, _, h⟩ := send_updates s a b p; rw [h]
@[simp] theorem send_loop (s : State) (a b : Nat) (p : Payload) : (send s a b p).loop = s.loop := by
  obtain ⟨_, _, h⟩ := send_updates s a b p; rw [h]
@[simp] theorem send_net (s : State) (a b : Nat) (p : Payload) : (send s a b p).net = s.net := by
  obtain ⟨_, _, h⟩ := send_updates s a b p; rw [h]
@[simp] theorem send_dma (s : State) (a b : Nat) (p : Payload) : (send s a b p).dma = s.dma := by
  obtain ⟨_, _, h⟩ := send_updates s a b p; rw [h]
@[simp] theorem send_rope (s : State) (a b : Nat) (p : Payload) : (send s a b p).rope = s.rope := by
  obtain ⟨_, _, h⟩ := send_updates s a b p; rw [h]
@[simp] theorem send_pinLocked (s : State) (a b : Nat) (p : Payload) : (send s a b p).pinLocked = s.pinLocked := by
  obtain ⟨_, _, h⟩ := send_updates s a b p; rw [h]
@[simp] theorem send_pinErr (s : State) (a b : Nat) (p : Payload) : (send s a b p).pinErr = s.pinErr := by
  obtain ⟨_, _, h⟩ := send_updates s a b p; rw [h]
@[simp] theorem send_evq (s : State) (a b : Nat) (p : Payload) : (send s a b p).evq = s.evq := by
  obtain ⟨_, _, h⟩ := send_updates s a b p; rw [h]
@[simp] theorem send_loopFrameTime (s : State) (a b : Nat) (p : Payload) : (send s a b p).loopFrameTime = s.loopFrameTime := by
  obtain ⟨_, _, h⟩ := send_updates s a b p; rw [h]
@[simp] theorem send_galIn (s : State) (a b : Nat) (p : Payload) : (send s a b p).galIn = s.galIn := by
  obtain ⟨_, _, h⟩ := send_updates s a b p; rw [h]
@[simp] theorem send_msi0 (s : State) (a b : Nat) (p : Payload) : (send s a b p).msi0 = s.msi0 := by
  obtain ⟨_, _, h⟩ := send_updates s a b p; rw [h]
@[simp] theorem send_msi1 (s : State) (a b : Nat) (p : Payload) : (send s a b p).msi1 = s.msi1 := by
  obtain ⟨_, _, h⟩ := send_updates s a b p; rw [h]
@[simp] theorem send_out (s : State) (a b : Nat) (p : Payload) : (send s a b p).out = s.out := by
  obtain ⟨_, _, h⟩ := send_updates s a b p; rw [h]

@[simp] theorem toGal_pending (s : State) (m : GalMsg) : (toGal s m).pending = s.pending := rfl
@[simp] theorem toGal_now (s : State) (m : GalMsg) : (toGal s m).now = s.now := rfl
@[simp] theorem toGal_fresh (s : State) (m : GalMsg) : (toGal s m).fresh = s.fresh := rfl
@[simp] theorem toGal_mem (s : State) (m : GalMsg) : (toGal s m).mem = s.mem := rfl
@[simp] theorem toGal_hdr (s : State) (m : GalMsg) : (toGal s m).hdr = s.hdr := rfl
@[simp] theorem toGal_act (s : State) (m : GalMsg) : (toGal s m).act = s.act := rfl
@[simp] theorem toGal_stg (s : State) (m : GalMsg) : (toGal s m).stg = s.stg := rfl
@[simp] theorem toGal_rdata (s : State) (m : GalMsg) : (toGal s m).rdata = s.rdata := rfl
@[simp] theorem toGal_otp (s : State) (m : GalMsg) : (toGal s m).otp = s.otp := rfl
@[simp] theorem toGal_hostUp (s : State) (m : GalMsg) : (toGal s m).hostUp = s.hostUp := rfl
@[simp] theorem toGal_pwr (s : State) (m : GalMsg) : (toGal s m).pwr = s.pwr := rfl
@[simp] theorem toGal_clk (s : State) (m : GalMsg) : (toGal s m).clk = s.clk := rfl
@[simp] theorem toGal_ptp (s : State) (m : GalMsg) : (toGal s m).ptp = s.ptp := rfl
@[simp] theorem toGal_grot (s : State) (m : GalMsg) : (toGal s m).grot = s.grot := rfl
@[simp] theorem toGal_flow (s : State) (m : GalMsg) : (toGal s m).flow = s.flow := rfl
@[simp] theorem toGal_lant (s : State) (m : GalMsg) : (toGal s m).lant = s.lant := rfl
@[simp] theorem toGal_bist (s : State) (m : GalMsg) : (toGal s m).bist = s.bist := rfl
@[simp] theorem toGal_chmb (s : State) (m : GalMsg) : (toGal s m).chmb = s.chmb := rfl
@[simp] theorem toGal_ssns (s : State) (m : GalMsg) : (toGal s m).ssns = s.ssns := rfl
@[simp] theorem toGal_intg (s : State) (m : GalMsg) : (toGal s m).intg = s.intg := rfl
@[simp] theorem toGal_test (s : State) (m : GalMsg) : (toGal s m).test = s.test := rfl
@[simp] theorem toGal_gal (s : State) (m : GalMsg) : (toGal s m).gal = s.gal := rfl
@[simp] theorem toGal_grp (s : State) (m : GalMsg) : (toGal s m).grp = s.grp := rfl
@[simp] theorem toGal_echo (s : State) (m : GalMsg) : (toGal s m).echo = s.echo := rfl
@[simp] theorem toGal_fio (s : State) (m : GalMsg) : (toGal s m).fio = s.fio := rfl
@[simp] theorem toGal_loop (s : State) (m : GalMsg) : (toGal s m).loop = s.loop := rfl
@[simp] theorem toGal_net (s : State) (m : GalMsg) : (toGal s m).net = s.net := rfl
@[simp] theorem toGal_dma (s : State) (m : GalMsg) : (toGal s m).dma = s.dma := rfl
@[simp] theorem toGal_rope (s : State) (m : GalMsg) : (toGal s m).rope = s.rope := rfl
@[simp] theorem toGal_pinLocked (s : State) (m : GalMsg) : (toGal s m).pinLocked = s.pinLocked := rfl
@[simp] theorem toGal_pinErr (s : State) (m : GalMsg) : (toGal s m).pinErr = s.pinErr := rfl
@[simp] theorem toGal_evq (s : State) (m : GalMsg) : (toGal s m).evq = s.evq := rfl
@[simp] theorem toGal_loopFrameTime (s : State) (m : GalMsg) : (toGal s m).loopFrameTime = s.loopFrameTime := rfl
@[simp] theorem toGal_xing (s : State) (m : GalMsg) : (toGal s m).xing = s.xing := rfl
@[simp] theorem toGal_msi0 (s : State) (m : GalMsg) : (toGal s m).msi0 = s.msi0 := rfl
@[simp] theorem toGal_msi1 (s : State) (m : GalMsg) : (toGal s m).msi1 = s.msi1 := rfl
@[simp] theorem toGal_out (s : State) (m : GalMsg) : (toGal s m).out = s.out := rfl
@[simp] theorem toGal_galIn (s : State) (m : GalMsg) : (toGal s m).galIn = s.galIn ++ [m] := rfl

@[simp] theorem settle_pending (s : State) : (settle s).pending = s.pending := rfl
@[simp] theorem settle_now (s : State) : (settle s).now = s.now := rfl
@[simp] theorem settle_fresh (s : State) : (settle s).fresh = s.fresh := rfl
@[simp] theorem settle_mem (s : State) : (settle s).mem = s.mem := rfl
@[simp] theorem settle_hdr (s : State) : (settle s).hdr = s.hdr := rfl
@[simp] theorem settle_act (s : State) : (settle s).act = s.act := rfl
@[simp] theorem settle_stg (s : State) : (settle s).stg = s.stg := rfl
@[simp] theorem settle_rdata (s : State) : (settle s).rdata = s.rdata := rfl
@[simp] theorem settle_otp (s : State) : (settle s).otp = s.otp := rfl
@[simp] theorem settle_hostUp (s : State) : (settle s).hostUp = s.hostUp := rfl
@[simp] theorem settle_pwr (s : State) : (settle s).pwr = s.pwr := rfl
@[simp] theorem settle_clk (s : State) : (settle s).clk = s.clk := rfl
@[simp] theorem settle_ptp (s : State) : (settle s).ptp = s.ptp := rfl
@[simp] theorem settle_grot (s : State) : (settle s).grot = s.grot := rfl
@[simp] theorem settle_flow (s : State) : (settle s).flow = s.flow := rfl
@[simp] theorem settle_lant (s : State) : (settle s).lant = s.lant := rfl
@[simp] theorem settle_bist (s : State) : (settle s).bist = s.bist := rfl
@[simp] theorem settle_chmb (s : State) : (settle s).chmb = s.chmb := rfl
@[simp] theorem settle_ssns (s : State) : (settle s).ssns = s.ssns := rfl
@[simp] theorem settle_intg (s : State) : (settle s).intg = s.intg := rfl
@[simp] theorem settle_test (s : State) : (settle s).test = s.test := rfl
@[simp] theorem settle_gal (s : State) : (settle s).gal = s.gal := rfl
@[simp] theorem settle_grp (s : State) : (settle s).grp = s.grp := rfl
@[simp] theorem settle_echo (s : State) : (settle s).echo = s.echo := rfl
@[simp] theorem settle_fio (s : State) : (settle s).fio = s.fio := rfl
@[simp] theorem settle_loop (s : State) : (settle s).loop = s.loop := rfl
@[simp] theorem settle_dma (s : State) : (settle s).dma = s.dma := rfl
@[simp] theorem settle_rope (s : State) : (settle s).rope = s.rope := rfl
@[simp] theorem settle_pinLocked (s : State) : (settle s).pinLocked = s.pinLocked := rfl
@[simp] theorem settle_pinErr (s : State) : (settle s).pinErr = s.pinErr := rfl
@[simp] theorem settle_evq (s : State) : (settle s).evq = s.evq := rfl
@[simp] theorem settle_loopFrameTime (s : State) : (settle s).loopFrameTime = s.loopFrameTime := rfl
@[simp] theorem settle_xing (s : State) : (settle s).xing = s.xing := rfl
@[simp] theorem settle_galIn (s : State) : (settle s).galIn = s.galIn := rfl

end Sys2Proof.Machine
end

