-- ==== Sys2Proof/Laws/Table.lean ====
section
/-! SUPPORT. The laws of sparse tables and of byte memory: a read after a write, and that every memory operation keeps the canonical
form. -/
namespace Sys2Proof.Machine

/-- Without the entries of a key a read of it gives the default, and a read of another key what it gave. -/
theorem tget_drop_same {α : Type} (t : Tbl α) (k : Nat) (d : α) : tget (t.filter (fun e => !decide (e.1 = k))) k d = d := by
  induction t with
  | nil => rfl
  | cons e r ih =>
    obtain ⟨k', v'⟩ := e
    by_cases h : k' = k
    · simpa [List.filter_cons, h] using ih
    · have h' : ¬ k = k' := fun x => h x.symm
      simpa [List.filter_cons, h, h', tget] using ih

theorem tget_drop_other {α : Type} (t : Tbl α) (k j : Nat) (d : α) (h : j ≠ k) :
    tget (t.filter (fun e => !decide (e.1 = k))) j d = tget t j d := by
  induction t with
  | nil => rfl
  | cons e r ih =>
    obtain ⟨k', v'⟩ := e
    by_cases hk : k' = k
    · subst hk
      simpa [List.filter_cons, tget, h] using ih
    · simp [hk, tget, ih]

/-- An entry put where its key is not listed is the one a read of its key finds, and no other read sees it. -/
theorem tget_tput_other {α : Type} (t : Tbl α) (k j : Nat) (v d : α) (h : j ≠ k) : tget (tput t k v) j d = tget t j d := by
  induction t with
  | nil => simp [tput, tget, h]
  | cons e r ih =>
    obtain ⟨k', v'⟩ := e
    by_cases hk : k < k'
    · simp [tput, hk, tget, h]
    · simp [tput, hk, tget, ih]

theorem tget_tput_same {α : Type} (t : Tbl α) (k : Nat) (v d : α) :
    tget (tput (t.filter (fun e => !decide (e.1 = k))) k v) k d = v := by
  induction t with
  | nil => simp [tput, tget]
  | cons e r ih =>
    obtain ⟨k', v'⟩ := e
    by_cases hk : k' = k
    · simpa [List.filter_cons, hk] using ih
    · have h' : ¬ k = k' := fun x => hk x.symm
      by_cases hl : k < k'
      · simp [hk, tput, hl, tget]
      · simpa [List.filter_cons, hk, tput, hl, tget, h'] using ih

/-- A read at the written key gives the written value. -/
@[simp] theorem tget_tset_same {α : Type} [DecidableEq α] (t : Tbl α) (k : Nat) (v d : α) : tget (tset t k v d) k d = v := by
  by_cases h : v = d
  · simp [tset, h, tget_drop_same]
  · simp [tset, h, tget_tput_same]

/-- A write leaves every other key alone. -/
theorem tget_tset_other {α : Type} [DecidableEq α] (t : Tbl α) (k j : Nat) (v d d' : α) (h : j ≠ k) :
    tget (tset t k v d) j d' = tget t j d' := by
  by_cases hv : v = d
  · simp [tset, hv, tget_drop_other t k j d' h]
  · simp [tset, hv, tget_tput_other _ k j v d' h, tget_drop_other t k j d' h]

/-- The second of two writes at one key stands alone. -/
@[simp] theorem tset_tset {α : Type} [DecidableEq α] (t : Tbl α) (k : Nat) (v w d : α) : tset (tset t k v d) k w d = tset t k w d := by
  have put : ∀ r : Tbl α, (tput r k v).filter (fun e => !decide (e.1 = k)) = r.filter (fun e => !decide (e.1 = k)) := by
    intro r
    induction r with
    | nil => simp [tput]
    | cons e r ih =>
      obtain ⟨k', v'⟩ := e
      by_cases hl : k < k'
      · simp [tput, hl]
      · simp only [tput, if_neg hl, List.filter_cons, ih]
  have drop : (tset t k v d).filter (fun e => !decide (e.1 = k)) = t.filter (fun e => !decide (e.1 = k)) := by
    by_cases hv : v = d
    · simp [tset, hv]
    · simp only [tset, if_neg hv, put, List.filter_filter, Bool.and_self]
  show (if w = d then _ else tput _ k w) = _
  rw [drop]
  rfl

/-- A lower bound may be lowered. -/
theorem tabWfAbove_none {α : Type} [DecidableEq α] (d : α) (lo : Option Nat) (t : Tbl α) (h : tabWfAbove d lo t = true) :
    tabWfAbove d none t = true := by
  cases t with
  | nil => rfl
  | cons e r =>
    obtain ⟨k, v⟩ := e
    simp only [tabWfAbove, Bool.and_eq_true] at h ⊢
    exact ⟨⟨trivial, h.1.2⟩, h.2⟩

theorem tabWfAbove_lower {α : Type} [DecidableEq α] (d : α) (a b : Nat) (t : Tbl α) (hab : a ≤ b) (h : tabWfAbove d (some b) t = true) :
    tabWfAbove d (some a) t = true := by
  cases t with
  | nil => rfl
  | cons e r =>
    obtain ⟨k, v⟩ := e
    simp only [tabWfAbove, Bool.and_eq_true, decide_eq_true_eq] at h ⊢
    exact ⟨⟨by omega, h.1.2⟩, h.2⟩

/-- An entry put where its key is not listed keeps the canonical form above a bound below its key. -/
theorem tabWfAbove_tput {α : Type} [DecidableEq α] (d : α) (k : Nat) (v : α) (hv : v ≠ d) (t : Tbl α) :
    ∀ lo : Option Nat, (∀ e ∈ t, e.1 ≠ k) → (match lo with | none => true | some l => decide (l < k)) = true →
      tabWfAbove d lo t = true → tabWfAbove d lo (tput t k v) = true := by
  induction t with
  | nil =>
    intro lo _ hk _
    simp only [tput, tabWfAbove, Bool.and_eq_true, decide_eq_true_eq]
    exact ⟨⟨hk, hv⟩, trivial⟩
  | cons e r ih =>
    obtain ⟨k', v'⟩ := e
    intro lo hn hk hw
    simp only [tabWfAbove, Bool.and_eq_true, decide_eq_true_eq] at hw
    obtain ⟨⟨h1, h2⟩, h3⟩ := hw
    have hne : k' ≠ k := hn (k', v') (by simp)
    by_cases hl : k < k'
    · simp only [tput, if_pos hl, tabWfAbove, Bool.and_eq_true, decide_eq_true_eq]
      exact ⟨⟨hk, hv⟩, ⟨hl, h2⟩, h3⟩
    · simp only [tput, if_neg hl, tabWfAbove, Bool.and_eq_true, decide_eq_true_eq]
      exact ⟨⟨h1, h2⟩, ih (some k') (fun e he => hn e (by simp [he])) (by simp; omega) h3⟩

/-- Taking entries away keeps the canonical form. -/
theorem tabWfAbove_filter {α : Type} [DecidableEq α] (d : α) (p : Nat × α → Bool) (t : Tbl α) :
    ∀ lo : Option Nat, tabWfAbove d lo t = true → tabWfAbove d lo (t.filter p) = true := by
  induction t with
  | nil => intro _ _; rfl
  | cons e r ih =>
    obtain ⟨k, v⟩ := e
    intro lo hw
    simp only [tabWfAbove, Bool.and_eq_true, decide_eq_true_eq] at hw
    obtain ⟨⟨h1, h2⟩, h3⟩ := hw
    by_cases hp : p (k, v) = true
    · rw [List.filter_cons_of_pos hp]
      simp only [tabWfAbove, Bool.and_eq_true, decide_eq_true_eq]
      exact ⟨⟨h1, h2⟩, ih (some k) h3⟩
    · rw [List.filter_cons_of_neg hp]
      cases lo with
      | none => exact tabWfAbove_none d _ _ (ih (some k) h3)
      | some l =>
        have : l < k := by simpa using h1
        exact tabWfAbove_lower d l k _ (by omega) (ih (some k) h3)

/-- A write keeps the canonical form. -/
theorem tabWf_tset {α : Type} [DecidableEq α] (d : α) (t : Tbl α) (k : Nat) (v : α) (h : tabWf d t = true) :
    tabWf d (tset t k v d) = true := by
  have hf := tabWfAbove_filter d (fun e => !decide (e.1 = k)) t none h
  by_cases hv : v = d
  · simpa [tset, hv, tabWf] using hf
  · simp only [tset, if_neg hv]
    exact tabWfAbove_tput d k v hv _ none (fun e he => by simpa using (List.mem_filter.1 he).2) rfl hf

/-- Every memory operation keeps the canonical form. -/
theorem mset_wf (m : List Host.Cell) (a : Nat) (b : Byte) (h : Memory.wf m = true) : Memory.wf (mset m a b) = true :=
  tabWf_tset memDefault m a b h

theorem msetLE_wf (n : Nat) : ∀ (m : List Host.Cell) (a v : Nat), Memory.wf m = true → Memory.wf (msetLE m a n v) = true := by
  induction n with
  | zero => intro m a v h; exact h
  | succ n ih => intro m a v h; exact ih _ _ _ (mset_wf m a _ h)

theorem msetBytes_wf (l : List Byte) : ∀ (m : List Host.Cell) (a : Nat), Memory.wf m = true → Memory.wf (msetBytes m a l) = true := by
  induction l with
  | nil => intro m a h; exact h
  | cons b r ih => intro m a h; exact ih _ _ (mset_wf m a b h)

theorem mwipe_wf (m : List Host.Cell) (lo hi : Nat) (h : Memory.wf m = true) : Memory.wf (mwipe m lo hi) = true :=
  tabWfAbove_filter memDefault _ m none h

/-- A byte reads as it was stored, and a store leaves every other byte alone. -/
theorem mget_mset_same (m : List Host.Cell) (a : Nat) (b : Byte) : mget (mset m a b) a = b :=
  tget_tset_same m a b memDefault

theorem mget_mset_other (m : List Host.Cell) (a c : Nat) (b : Byte) (h : c ≠ a) : mget (mset m a b) c = mget m c :=
  tget_tset_other m a c b memDefault memDefault h

/-- A store of `n` bytes changes no byte outside them. -/
theorem mget_msetLE_other (n : Nat) : ∀ (m : List Host.Cell) (a v c : Nat), (c < a ∨ a + n ≤ c) → mget (msetLE m a n v) c = mget m c := by
  induction n with
  | zero => intro m a v c _; rfl
  | succ n ih =>
    intro m a v c h
    show mget (msetLE (mset m a (BitVec.ofNat 8 v)) (a + 1) n (v / 256)) c = mget m c
    rw [ih _ _ _ _ (by omega), mget_mset_other _ _ _ _ (by omega)]

/-- A wiped byte reads as memory that nothing has written, and a wipe leaves every other byte alone. -/
theorem mget_mwipe (m : List Host.Cell) (lo hi a : Nat) :
    mget (mwipe m lo hi) a = if lo ≤ a ∧ a < hi then memDefault else mget m a := by
  induction m with
  | nil => simp [mwipe, tclear, mget, tget]
  | cons e r ih =>
    obtain ⟨k, v⟩ := e
    simp only [mwipe, tclear, mget] at ih ⊢
    by_cases hk : lo ≤ k ∧ k < hi
    · rw [List.filter_cons_of_neg (by simpa using hk), ih]
      by_cases ha : a = k
      · subst ha; simp [hk]
      · simp [tget, ha]
    · rw [List.filter_cons_of_pos (by simp; omega)]
      simp only [tget]
      by_cases ha : a = k
      · subst ha; simp only [if_true, if_neg hk]
      · simp only [if_neg ha]
        exact ih

end Sys2Proof.Machine
end

