-- ==== Sys2Proof/Laws/Ops.lean ====
section
/-! SUPPORT. What the shared operations can do, said once: accesses by context, captures, interrupt sources, staged sets, and the
settling of interrupts after a command. -/
namespace Sys2Proof.Machine

/-- The header, register or Chamber that was put is the one that is read, and no other is touched. -/
@[simp] theorem hdr_setHdr (s : State) (u : Nat) (h : Hdr) : hdr (setHdr s u h) u = h := tget_tset_same s.hdr u h _
theorem hdr_setHdr_other (s : State) (u v : Nat) (h : Hdr) (hv : v ≠ u) : hdr (setHdr s u h) v = hdr s v :=
  tget_tset_other s.hdr u v h _ _ hv
@[simp] theorem rget_rset (s : State) (k : Nat) (v : Word) : rget (rset s k v) k = v := tget_tset_same s.act k v _
theorem rget_rset_other (s : State) (k j : Nat) (v : Word) (h : j ≠ k) : rget (rset s k v) j = rget s j :=
  tget_tset_other s.act k j v _ _ h
@[simp] theorem reg_setReg (s : State) (u o : Nat) (v : Word) : reg (setReg s u o v) u o = v := rget_rset s _ v
@[simp] theorem chm_setChm (s : State) (n : Nat) (c : Chmb) : chm (setChm s n c) n = c := tget_tset_same s.chmb n c _

/-- The second of two settings of one header or register stands alone. -/
@[simp] theorem setHdr_setHdr (s : State) (u : Nat) (h g : Hdr) : setHdr (setHdr s u h) u g = setHdr s u g := by simp [setHdr]
@[simp] theorem rset_rset (s : State) (k : Nat) (v w : Word) : rset (rset s k v) k w = rset s k w := by simp [rset]
@[simp] theorem setChm_setChm (s : State) (n : Nat) (c d : Chmb) : setChm (setChm s n c) n d = setChm s n d := by simp [setChm]

/-- An access that reaches its unit does what the page does. -/
theorem access_reaches {s : State} {c : Ctx} {u : Nat} (h : reaches s c u = true) (o : Nat) (w : Bool) (k : State → State) :
    access s c u o w k = k s := by
  simp only [reaches, Bool.and_eq_true] at h
  simp [access, h.1.1, h.1.2, h.2]

/-- All that an access can do: nothing, a capture on SYS, or what the page does (a RETIRED module answers a few reads, R62). -/
theorem access_cases (s : State) (c : Ctx) (u o : Nat) (w : Bool) (k : State → State) :
    access s c u o w k = s ∨ access s c u o w k = captureAt s lSYS c w 0x7 (rk u o % 0x1000) (rk u o / 0x1000 % 0x200) ∨
    ((reaches s c u || retiredRead s c u o w) = true ∧ access s c u o w k = k s) := by
  cases h1 : pathOk s c <;> cases h4 : retiredRead s c u o w <;> cases h2 : present s u <;> cases h3 : unitOn s u <;>
    simp [access, reaches, h1, h2, h3, h4]

/-- A write by the owner does what the register does. -/
theorem ownerWrite_owns {s : State} {c : Ctx} {u : Nat} (h : owns s c u = true) (o : Nat) (k : State → State) :
    ownerWrite s c u o k = k s := by
  simp only [owns, Bool.and_eq_true, decide_eq_true_eq] at h
  rw [ownerWrite, access_reaches h.1]
  simp [h.2]

/-- A write by another context is captured with code 0x1 and has no other effect. -/
theorem ownerWrite_other {s : State} {c : Ctx} {u : Nat} (h : reaches s c u = true) (ho : (hdr s u).owner ≠ c) (o : Nat) (k : State → State) :
    ownerWrite s c u o k = capture s (pageOf u) c true 0x1 (rk u o % 0x1000) := by
  rw [ownerWrite, access_reaches h]
  simp [ho]

/-- A write of CTX_x in its own block does what the block does. -/
theorem ctxWrite_own {s : State} {x : Ctx} {u : Nat} (h : reaches s x u = true) (o : Nat) (k : State → State) :
    ctxWrite s x x u o k = k s := by
  rw [ctxWrite, access_reaches h]
  simp

/-- A write of another context in the block of CTX_x is captured with code 0x1 and has no other effect. -/
theorem ctxWrite_other {s : State} {x c : Ctx} {u : Nat} (h : reaches s c u = true) (hc : c ≠ x) (o : Nat) (k : State → State) :
    ctxWrite s x c u o k = capture s (pageOf u) c true 0x1 (rk u o % 0x1000) := by
  rw [ctxWrite, access_reaches h]
  simp [hc]

/-- A read by a context that may read does what the register does. -/
theorem readAccess_may {s : State} {c : Ctx} {u : Nat} (h : mayRd s c u = true) (o : Nat) (k : State → State) :
    readAccess s c u o k = k { s with rdata := 0#64 } := by
  simp only [mayRd, Bool.and_eq_true] at h
  have hr : reaches { s with rdata := 0#64 } c u = true := h.1
  rw [readAccess, access_reaches hr]
  exact if_pos h.2

/-- A capture keeps the first error: with one on record it only notes OVERFLOW (R74). -/
theorem captureAt_valid {s : State} {u : Nat} (h : (hdr s u).err.valid = true) (c : Ctx) (w : Bool) (code off page : Nat) :
    captureAt s u c w code off page = setHdr s u { hdr s u with err := { (hdr s u).err with overflow := true } } := by
  simp [captureAt, h]

/-- A capture touches nothing but the header of its page. -/
theorem captureAt_frame (s : State) (u : Nat) (c : Ctx) (w : Bool) (code off page : Nat) :
    ∃ h : Hdr, captureAt s u c w code off page = setHdr s u h := by
  unfold captureAt
  by_cases e : (hdr s u).err.valid = true
  · exact ⟨_, by simp [e]; rfl⟩
  · exact ⟨_, by simp [e]; rfl⟩

/-- Settling changes no interrupt source, so what is asserted stays asserted. -/
theorem vectorsOf_settle (s : State) (p : Nat) : vectorsOf (settle s) p = vectorsOf s p := rfl

/-- After a command the interrupts are settled. -/
theorem settled_settle (s : State) : (settle s).msi0 = vectorsOf s 0 ∧ (settle s).msi1 = vectorsOf s 1 := ⟨rfl, rfl⟩

/-- A vector is sent when it is asserted and was not (R76, R77). -/
theorem settle_out (s : State) :
    (settle s).out = s.out ++ ((vectorsOf s 0).filter (fun l => !s.msi0.contains l)).map (Out.msix 0) ++
      ((vectorsOf s 1).filter (fun l => !s.msi1.contains l)).map (Out.msix 1) := rfl

/-- Nothing pending, nothing taken. -/
theorem takeEffect_none {s : State} {u : Nat} (h : (hdr s u).pend = none) : takeEffect s u = (s, []) := by
  simp [takeEffect, takePart, h]

end Sys2Proof.Machine
end

