-- ==== Sys2Proof/Machine/Pins.lean ====
section
/-! DEFINITION. What the output and bidirectional lands carry in each state of the module (R34 to R39, R391, R396). A land holds
nothing of its own: each is computed from the state, so no command writes it. -/
namespace Sys2Proof.Machine

/-- The output and bidirectional lands of R35, in its order, and PPS_OUT (R94). -/
inductive Land where
  | ain (pin : Fin 64) | di (n : Fin 64) | dout (n : Fin 32) | ao (n : Fin 16) | call (loop : Fin 2) | ssns
  | sysok | pwron | ppsOut | ring (port : Fin 2) | svcEth | wakeT1s | pcie (n : Fin 2) | qspi (n : Fin 2) | qspiIrqN (n : Fin 2)
  | canTxd (n : Fin 6) | serTxd (n : Fin 6) | serDe (n : Fin 6) | ropeTx | ropeFenceOut | exp | pmb | jtagTdo
  | lant | bistSeg | bistStale
deriving DecidableEq, Repr

/-- What a land carries. `works` is the land's own function as its chapter gives it. -/
inductive Pin where
  | highZ | low | high | toggling
  /-- 0 mA or 0 V, and a code of an AO (R313) -/
  | zero | code (c : Nat)
  /-- an AIN: the excitation in 10 µA, the return switch, the test current; input impedance alone -/
  | input (current : Nat) (toGround tested : Bool)
  | unmeasured
  | linkDown | linkUp
  /-- loop power without and with frames; the driver switched off (R258, R262) -/
  | loopPower | frames | driverOff
  | idle | faultStatus
  /-- every segment and VCOM at one potential; the stale mark, and no mark (R38) -/
  | onePotential | stale | clear
  | works
deriving DecidableEq, Repr

/-- The columns of R35 for a module that is there. In Run the boot column goes on, which says for each land what turns it on; R35 has no column
for Sleep, where it goes on too, with the blocks that are off there (DESIGN CHOICE, log entry 66). -/
inductive PinState where
  | unpowered | reset | boot | degraded
deriving DecidableEq, Repr

/-- The column that stands: reset overrides degraded mode (R36), and a RETIRED module holds its reset states (R62). -/
def pinState (s : State) : PinState :=
  match s.pwr.phase with
  | .off => .unpowered
  | .inReset | .retired => .reset
  | .boot | .recovery | .run | .powerFail => if s.pwr.degraded then .degraded else .boot

/-- The column of a land that a block drives: its outputs are in their reset state for the duration of a soft reset (R69). -/
def pinStateOf (s : State) (u : Nat) : PinState :=
  match pinState s with
  | .unpowered => .unpowered
  | .reset => .reset
  | .boot => if (hdr s u).busy then .reset else .boot
  | .degraded => if (hdr s u).busy then .reset else .degraded

/-- A land that is high-Z without power or in reset and does its work otherwise. -/
def pinActive (p : PinState) (on : Bool) : Pin :=
  match p with | .unpowered | .reset => .highZ | .boot | .degraded => if on then .works else .highZ

/-- A link: none without power or in reset. -/
def pinLink (p : PinState) (up : Bool) : Pin :=
  match p with | .unpowered | .reset => .linkDown | .boot | .degraded => if up then .linkUp else .linkDown

/-- A land of a CAN or serial port: held at its idle level from reset until it is enabled, in degraded mode and Doze, and while PD_SER is
off with VIN good (R35, R396). -/
def pinPort (s : State) (u : Nat) (rest busy : Pin) : Pin :=
  match pinStateOf s u with
  | .unpowered => .highZ
  | .reset | .degraded => rest
  | .boot => if alive s u && !portsStopped s then busy else rest

/-- What a land carries (R35). Marked in log entry 66 (DESIGN CHOICE): ROPE_TX is idle while ROPE is disabled or off, and BIST_SEG and BIST_VCOM
are high-Z while BIST is disabled, not configured or off; R35 says only "active" and "recovery, then updates". JTAG_TDO answers IDCODE and
BYPASS in every lifecycle (R466). -/
def pinOf (s : State) : Land → Pin
  | .ain p => match pinStateOf s (lCHMB (p / 8)) with
    | .unpowered | .reset | .degraded => .highZ
    | .boot => if alive s (lCHMB (p / 8)) && !standby s
      then .input (pinCurrent s (p / 8) (p % 8)) (pinReturn s (p / 8) (p % 8)) (pinTested s (p / 8) (p % 8)) else .highZ
  | .di n => match pinStateOf s lFIO with
    | .boot => if alive s lFIO && diOn s n then .works else .highZ
    | _ => .highZ
  | .dout n => match doLevel s n with | some true => .high | some false => .low | none => .highZ
  | .ao n => match aoCode s n with | some c => .code c | none => .zero
  | .call x => match pinStateOf s lECHO with
    | .boot => if standby s then .highZ else if (callLine s x).off then .driverOff else if framesRun s && cfgBit s lECHO 0x100 x then .frames else .loopPower
    | _ => .loopPower
  | .ssns => match pinStateOf s lSSNS with
    | .boot => if alive s lSSNS then .works else .unmeasured
    | _ => .unmeasured
  | .sysok => if s.pwr.sysokOn then .toggling else .low
  | .pwron => if s.grot.pwron then .high else .low
  | .ppsOut => match pinStateOf s lPTP with
    | .unpowered => .highZ
    | .reset => .low
    | .boot | .degraded => if alive s lPTP && cfgBit s lPTP 0x130 2 && s.ptp.ppsOut then .high else .low
  | .ring p => pinLink (pinStateOf s lNET) (domOn s dNET && (if p = 0 then s.net.linkA else s.net.linkB))
  | .svcEth => pinLink (pinStateOf s lNET) (domOn s dNET && s.net.svcUp)
  | .wakeT1s => pinActive (pinState s) true
  | .pcie n => pinLink (pinStateOf s (lPCIE n)) (s.hostUp.getLsbD n)
  | .qspi n => pinActive (pinStateOf s (lQSPI n)) (unitOn s (lQSPI n))
  | .qspiIrqN n => match pinState s with
    | .unpowered | .reset => .highZ
    | .boot | .degraded => if !unitOn s (lQSPI n) then .highZ else if ctxPend s (BitVec.ofNat 3 (4 + n)) = 0 then .high else .low
  | .canTxd n => pinPort s (lCAN n) .high .works
  | .serTxd n => pinPort s (lSER n) .high .works
  | .serDe n => pinPort s (lSER n) .low (if bit (reg s (lSER n) 0x100) 1 then .works else .high)
  | .ropeTx => match pinStateOf s lROPE with
    | .unpowered => .highZ
    | .reset => .idle
    | .degraded => .faultStatus
    | .boot => if alive s lROPE then .works else .idle
  | .ropeFenceOut => .low
  | .exp => pinActive (pinStateOf s lNET) (alive s lNET && cfgBit s lNET 0x160 15)
  | .pmb => pinActive (pinStateOf s lNET) (alive s lNET && cfgBit s lNET 0x164 3)
  | .jtagTdo => pinActive (pinState s) true
  | .lant => match pinStateOf s lLANT with
    | .boot => if alive s lLANT then .works else .highZ
    | _ => .highZ
  | .bistSeg => if !s.otp.variantA then .highZ else match pinStateOf s lBIST with
    | .unpowered => .highZ
    | .reset | .degraded => .onePotential
    | .boot => if calcOn s then .works else .highZ
  | .bistStale => if !s.otp.variantA then .highZ else if s.bist.stale then .stale else .clear

end Sys2Proof.Machine
end

