-- ==== Sys2Proof/Laws/Pins.lean ====
section
/-! SUPPORT. The field outputs, the call loops, SYSOK and the display lands in reset, in degraded mode and on the -B variant (R35, R36). -/
namespace Sys2Proof.Machine

/-- While outputs are held off no DO is driven and every AO is at zero. -/
theorem outputsOff_pins (s : State) (h : outputsOff s = true) (d : Fin 32) (a : Fin 16) :
    pinOf s (.dout d) = .highZ ∧ pinOf s (.ao a) = .zero := by
  simp [pinOf, doLevel, doCmd, cmdLevel, aoCode, h]

/-- In degraded mode and while a reset source is active, field outputs are off and CALL_x carries loop power without frames. -/
theorem degraded_or_reset_pins (s : State) (h : s.pwr.phase = .inReset ∨ s.pwr.phase = .run ∧ s.pwr.degraded = true)
    (d : Fin 32) (a : Fin 16) (x : Fin 2) :
    pinOf s (.dout d) = .highZ ∧ pinOf s (.ao a) = .zero ∧ pinOf s (.call x) = .loopPower := by
  have ho : outputsOff s = true := by rcases h with h | ⟨_, h⟩ <;> simp [outputsOff, h]
  refine ⟨(outputsOff_pins s ho d a).1, (outputsOff_pins s ho d a).2, ?_⟩
  rcases h with h | ⟨h, hd⟩
  · simp [pinOf, pinStateOf, pinState, h]
  · cases hb : (hdr s lECHO).busy <;> simp [pinOf, pinStateOf, pinState, h, hd, hb]

/-- On the -B variant every display land is high-Z, and the stale pad carries no mark (R35). -/
theorem variantB_pins (s : State) (h : s.otp.variantA = false) :
    pinOf s .lant = .highZ ∧ pinOf s .bistSeg = .highZ ∧ pinOf s .bistStale = .highZ := by
  have hl : alive s lLANT = false := by simp [alive, present, h]
  refine ⟨?_, by simp [pinOf, h], by simp [pinOf, h]⟩
  cases hp : pinStateOf s lLANT <;> simp [pinOf, hp, hl]

end Sys2Proof.Machine
end

