-- ==== Sys2Proof/Tests/Slice0.lean ====
section
/-! SUPPORT. Tests: what the well-formedness check refuses, single values the spec gives, and for every obligation that has hypotheses the
states and operands that meet them. -/
namespace Sys2Proof.Machine.Tests

/-- A state in run: every domain on, every page enabled, the start finished, the outputs released. -/
def wOn : State :=
  { hostUp := 0xF#4, pinLocked := true,
    hdr := (List.range 45).map (fun u => (u, { Hdr.resetOf u with en := true })),
    pwr := { phase := .run, doms := 0xFFFF#16, holdReady := true, rstN := true, sramWiped := true, dramWiped := true, safeRunning := true,
             cfgLoaded := true, appRunning := true, released := true } }

/-- `wOn` with the listed registers set, each a unit, an offset and a value. -/
def wReg (l : List (Nat × Nat × Word)) (s : State) : State := l.foldl (fun t x => setReg t x.1 x.2.1 x.2.2) s

/-- A state with the header of one unit changed. -/
def wHdr (u : Nat) (f : Hdr → Hdr) (s : State) : State := setHdr s u (f (hdr s u))

/-- A sample of channel 0. -/
def wSample : Sample := { ch := 0, stamp := 0#64, value := 0#32 }

/-- An item of channel 0. -/
def wItem : Item := { srcType := 0#3, idx := 0#9, value := 0#32 }

/-- A provisional value of channel 0. -/
def wProv : Prov := { x := wSample, cal := 0#32, lin := 0#32, qual := 0#4 }

/-- A change item of point 0. -/
def wItemChg : ChgItem :=
  { index := 0, st := 1#3, prev := 0#3, prio := 0#2, qual := 0#4, act := 0#8, inst := 1#8, cause := 0, src := 0, stamp := 0#64,
    value := 0#32, cdelta := 0#32, grpEn := false, group := 0#16 }

/-- A frame of the ring that no check discards. -/
def wFrame : RingFrame :=
  { dst := 0#48, src := 1#48, seq := none, vid := none, fcsOk := true, kind := .other, bytes := [] }

/-- A shadow message of channel 0. -/
def wShadow : ShadowMsg := { x := wSample, raw := 0#32, trim := 0#32, value := 0#32, qual := 0#4 }

/-- A window's results, all zero. -/
def wWindow : SsnsWindow :=
  { harm := List.replicate 147 0#32, rotErr := false }

/-- A CAN frame without data. -/
def wCan : CanFrame :=
  { id := 0#29, ide := false, rtr := false, fdf := false, brs := false, esi := false, dlc := 0#4, data := [], errors := 0#8, ago := 0#32 }

/-- The hashes of one public key, the base point of the curve (computed outside the model). -/
def wOtp : Otp := { keyHash := List.replicate 4 0xa955515b71fb2429101880552c64119d6649bf02b427deafae39b3e5fc120797#256 }

/-- An image without payloads at an address, signed with the key 1 and the ephemeral 1 (computed outside the model): the configuration
store's with key slot 1 and FLAGS 1, or a firmware's with key slot 0. -/
def wImage (base : Nat) (config : Bool) : List Host.Cell :=
  let k := if config then 0x01010001 else 0x00000001
  let z := if config then 0x48d694d2687a2bbf586d2cdbaba7b0fea9ad59aeb88a211fc0a67669d9792891
    else 0x80aec4c0b12fde4e6ce1a6b0b9af16aeb9d5312f1a0a81b8a071078ead6183e5
  let v := if config then 0xb3ee66c549a66e07512a13c10f4bf1f120b0d72fe67554c0b547afafb211eb27
    else 0xebc696b3925c2096659e8d961d5357a130d8aeb047f5b559951240d485fa467b
  let m := msetLE (msetLE (msetLE [] base 4 0x49564E4C) (base + 4) 4 k) (base + 8) 4 1
  let m := msetBytes m (base + 32) (natBE 32 z)
  msetLE (msetLE (msetLE (msetLE m (base + 64) 32 p256G.1) (base + 96) 32 v) (base + 128) 32 p256G.1) (base + 160) 32 p256G.2

/-- A state in which CTX_0 holds a nonce of zeros and CLR_TAG is the tag of the clear of all that stands before record 0, under a key of
zeros (computed outside the model). -/
def wClear : State :=
  wReg [(lFLOW, 0x160, 0x6C66CFBC#32), (lFLOW, 0x164, 0xA91128EC#32), (lFLOW, 0x168, 0xF2878B66#32), (lFLOW, 0x16C, 0x57FB3FF7#32),
        (lFLOW, 0x170, 0x266DBDE0#32), (lFLOW, 0x174, 0xA48D3BCF#32), (lFLOW, 0x178, 0x93E2227D#32), (lFLOW, 0x17C, 0x0C9AB738#32)]
    { wOn with pwr := { wOn.pwr with lcState := 3#3 }, flow := { wOn.flow with nonce := some (0#128, 0#3, 0) } }

/-- `wOtp` in a module of a lifecycle state, with an LC_TOKEN that `(r, s)` spells: `r` the base point's x coordinate, `s` computed outside
the model for a device ID and a nonce of zeros. -/
def wLife (state : BitVec 3) (sig : Nat) : State :=
  wReg ((List.range 16).map (fun i => (lPWR, 0x200 + 4 * i, BitVec.ofNat 32 ((p256G.1 + 2 ^ 256 * sig) / 2 ^ (32 * i)))))
    { wOn with otp := wOtp, pwr := { wOn.pwr with lcState := state }, flow := { wOn.flow with exportAt := some 0 } }

/-- Point 0 in a state, every permission given to every context, ARG and SHELVE_MAX at 5. -/
def wGal (st : BitVec 3) : State :=
  wReg [(lGAL, 0x110, 0xFFFFFFFF#32), (lGAL, 0x114, 0xFFFFFFFF#32), (lGAL, 0x100, 5#32), (lGAL, 0x200, 5#32)]
    { wOn with gal := { wOn.gal with pts := [(0, { desc := 0x81#32 :: (List.replicate 11 0#32 ++ [0x400#32]), core := { st := st, inst := 5#8 } })] } }

/-- A message of the alarm ring from a node: VER 1, its type and length, PAIR_ID and SESSION and SEQ and time 0, then a body of zeros whose
first bytes are those given. -/
def wMsg (typ node : Nat) (len : Nat) (head : List Byte) : List Byte :=
  [1#8] ++ leBytes 1 typ ++ leBytes 2 (24 + len) ++ leBytes 2 node ++ List.replicate 18 0#8 ++ head ++ List.replicate (len - head.length) 0#8

/-- The state in which every Echo command is permitted to every context. -/
def wEcho : State := wReg [(lECHO, 0x110, 0xFFFFFFFF#32), (lECHO, 0x10C, 64#32)] wOn

/-- The next state of a step, or the state itself where there is none. -/
def next (s : State) (o : Host.Outcome State Fault Refusal) : State := match o with | .next t => t | _ => s

/-- Each check of `Instr.wf` refuses a term that breaks it. -/
theorem test_wf_refuses :
    (Instr.bootConfigLoad 1199#14 [] 0#45).wf = false ∧ (Instr.bootConfigLoad 10001#14 [] 0#45).wf = false ∧
    (Instr.deviceFault 0#4 0#6 true).wf = false ∧ (Instr.deviceFault 9#4 0#6 true).wf = false ∧ (Instr.deviceFault 1#4 45#6 true).wf = false ∧
    (Instr.pinnedGrantTimeout 45#6 true).wf = false ∧ (Instr.applyCommit 0#3 45#8).wf = false ∧ (Instr.applyDiscard 0#3 63#8).wf = false ∧
    (Instr.applyBadKey 0#3 1#8 0xA5#8).wf = false ∧ (Instr.applyBadKey 0#3 1#8 0x5A#8).wf = false ∧ (Instr.applyBadKey 0#3 192#8 0#8).wf = false ∧
    (Instr.applyBoundary 255#8).wf = false ∧ (Instr.ownerWrite 0#3 45#8 0#32).wf = false ∧ (Instr.ownerLock 0#3 192#8 0#32).wf = false ∧
    (Instr.liveSet 0#3 45#6).wf = false ∧ (Instr.liveClear 0#3 45#6).wf = false ∧ (Instr.blkEnable 0#3 45#6).wf = false ∧
    (Instr.blkDisable 0#3 63#6).wf = false ∧ (Instr.softReset 0#3 45#6).wf = false ∧ (Instr.softResetDone 45#6).wf = false ∧
    (Instr.freezeRequest 0#3 45#6).wf = false ∧ (Instr.freezeReached 45#6).wf = false ∧ (Instr.freezeClear 0#3 45#6).wf = false ∧
    (Instr.irqClrWrite 0#3 45#6 0#32).wf = false ∧ (Instr.ssnsWindowEnd { wWindow with harm := [] }).wf = false ∧
    (Instr.canFrameRx 0 { wCan with data := [0#8] }).wf = false ∧ (Instr.serRawRecord 0 [] false 0#32).wf = false ∧
    (Instr.hostWindowAccess 1#3 0#64 true 1#4 0#64).wf = false ∧ (Instr.hostWindowAccess 6#3 0#64 true 1#4 0#64).wf = false ∧
    (Instr.hostWindowAccess 2#3 0#64 true 0#4 0#64).wf = false ∧ (Instr.hostWindowAccess 2#3 0#64 true 9#4 0#64).wf = false ∧
    (Instr.qspiRead 0#1 0#40 64).wf = false ∧ (Instr.qspiUnknownOpcode 0#1 0x02#8).wf = false ∧ (Instr.qspiUnknownOpcode 0#1 0x0B#8).wf = false ∧
    (Instr.qspiUnknownOpcode 0#1 0x05#8).wf = false := by decide

/-- An ill-formed term is no command: `exec` answers a fault. -/
theorem test_ill_formed_faults : exec (.applyCommit 0#3 45#8) wOn = .fault .illFormed := by rfl

/-- No word spells a command (the table gives no bits), and `withFetchWord` leaves the state as it is. -/
theorem test_no_word_spells_a_command :
    decodeTableWord 32 0 = none ∧ State.reset.withFetchWord 32 0x5A5A = State.reset := ⟨rfl, rfl⟩

/-- The memory of the state after reset has the canonical form. -/
theorem test_reset_memory : Memory.wf State.reset.mem = true := by decide

/-- The queue of the model is first in, first out: the first of two waiting commands has its effect and the second stays. -/
theorem test_queue_first_in_first_out :
    let t := next wOn (step { wOn with pending := [.supplyDip 7#32, .supplyDipClear 9#32] })
    t.pwr.dip = true ∧ t.pending.length = 1 := by decide

/-- R88: 2 ns pass on an empty queue, and stamps are interpolated to 2 ns. -/
theorem test_idle_step : (next wOn (step wOn)).now = 2 ∧ time64 (next wOn (step wOn)) = 2#64 ∧ (next wOn (step wOn)).ptp.time = 0#64 := by
  decide

/-- FIPS 180-4: SHA-256 of "abc". -/
theorem test_sha256 : beNat (sha256 [0x61#8, 0x62#8, 0x63#8]) =
    0xba7816bf8f01cfea414140de5dae2223b00361a396177a9cb410ff61f20015ad := by decide +kernel

/-- RFC 3720: CRC-32C of 32 bytes of zeros. -/
theorem test_crc32c : crc32c (List.replicate 32 0#8) = 0x8A9136AA := by decide +kernel

/-- R96: February has 29 days in 2000 and in 2024, 28 in 2100. -/
theorem test_february : monthDays 2000 2 = 29 ∧ monthDays 2024 2 = 29 ∧ monthDays 2100 2 = 28 := by decide

/-- The point ID of the scope chapter's example: local index 18 on node 12. -/
theorem test_point_id : fld 0x6012#32 22 11 = 12 ∧ fld 0x6012#32 10 0 = 18 := by decide

/-- The worked example of the chapter on integrity: VALUE 423,826 of channel 69 gives 68.0016 °C. -/
theorem test_oil_temperature :
    let s : State := { wOn with act := [(wk lINTG 0x184 69, 0x447A0000#32), (wk lINTG 0x10C 17664, 0x42C80000#32),
      (wk lINTG 0x10C 17665, 0x43340000#32), (wk lINTG 0x10C 17666, 0x42C80000#32), (wk lINTG 0x10C 17667, 0x105#32),
      (wk lINTG 0x10C 17669, 0x4023C109#32), (wk lINTG 0x10C 17670, 0x3A7D96C4#32), (wk lINTG 0x10C 17671, 0x354459E4#32),
      (wk lINTG 0x10C 17672, 0x303E0AD7#32), (wk lINTG 0x10C 17673, 0x2B4E023C#32)] }
    let y := (linearise s 69 (stage2 s 69 (f32OfInt 423826) 0x34A00000#32) f32Zero).1
    f32Le 0x428800C5#32 y = true ∧ f32Le y 0x428800DF#32 = true := by decide +kernel

/-- The worked example of the chapter on the loop engine: the inner slot's output at a setpoint of 50 % and a feedback of 48 %. -/
theorem test_jacket_water_cascade :
    let s := wReg [(uSLOT 0, 0x10, 0x40015083#32), (uSLOT 0, 0x14, 0x1029#32), (uSLOT 0, 0x18, 0x0E100BB8#32), (uSLOT 0, 0x1C, 1#32),
      (uSLOT 0, 0x24, 0x028F5C29#32), (uSLOT 0, 0x30, 0x0147AE14#32), (uSLOT 0, 0x34, 0x1F00001F#32), (uSLOT 0, 0x3C, 0xFFFF#32)]
      { wOn with loop := { slots := [(0, { mode := 1#3, runs := true, arr := some (.value 0 3145728 0#4) }), (1, { mode := 1#3, lat := 3276800 })] } }
    (slot (next s (execLoopSlotExecute 0#6 s)) 0).out = 35388 := by decide +kernel

/-- The worked example of the chapter on field I/O: FORCE_LOCK 0x8258_0000 from CTX_2 takes the lock for 600 s. -/
theorem test_force_lock :
    let s := wReg [(lFIO, 0x100, 0x05000140#32)] wOn
    let t := next s (execForceLockTake 2#3 0x82580000#32 s)
    t.fio.lock = some 2#3 ∧ t.fio.lockUntil = 600000000000 := by decide +kernel

/-- The worked example of the chapter on Calcite: table WF_1 is DC-balanced, 140 ms long, and a cut update shows 0x1103. -/
theorem test_waveform_example :
    let s : State := { wOn with bist := { wf := [(16, 0x1828#32), (17, 0x2428#32), (18, 0x1814#32), (19, 0x2414#32), (20, 0x14#32)] } }
    wfBad s 1 = false ∧ wfLength s 1 = 140 ∧ phaseWord 3 0 1#2 0#2 1 = 0x1103 := by decide


/-- Pins in the boot phase (R35): field outputs off, SYSOK low, PWRON high, the stale mark, no frames. -/
theorem test_boot_pins : pinOf State.reset (.dout 3) = .highZ ∧ pinOf State.reset (.ao 2) = .zero ∧
    pinOf State.reset .sysok = .low ∧ pinOf State.reset .pwron = .high ∧ pinOf State.reset .bistStale = .stale ∧
    pinOf State.reset (.call 1) = .loopPower ∧ pinOf State.reset (.canTxd 0) = .high := by decide
theorem witness_SupplyCommandsComplete :
    (∃ (s : State), domOn s dAON = true ∧ s.pwr.dip = false) ∧
    (∃ (s : State), domOn s dAON = true ∧ s.pwr.dip = true) ∧
    (∃ (s : State), domOn s dAON = true ∧ s.pwr.overV = false) ∧
    (∃ (s : State), domOn s dAON = true ∧ s.pwr.overV = true) ∧
    (∃ (s : State), domOn s dAON = true) ∧
    (∃ (s : State), domOn s dAON = true ∧ s.pwr.holdFault = false) ∧
    (∃ (s : State), s.pwr.phase = .off) ∧
    (∃ (s : State), s.pwr.phase = .powerFail ∧ s.pwr.fail = true) ∧
    (∃ (s : State), powered s = true ∧ s.pwr.fail = false ∧ (cfgBit s lPWR 0x108 8 = false ∨ cfg s lPWR 0x108 5 0 = 0)) ∧
    (∃ (s : State), powered s = true ∧ s.pwr.fail = false ∧ cfgBit s lPWR 0x108 8 = true ∧ cfg s lPWR 0x108 5 0 ≠ 0) ∧
    (∃ (s : State), powered s = true ∧ s.pwr.fail = true) ∧
    (∃ (s : State), powered s = true ∧ s.pwr.fail = true) ∧
    (∃ (s : State), s.pwr.phase = .powerFail ∧ s.pwr.vinAgain = false) ∧
    (∃ (s : State), s.pwr.phase = .powerFail ∧ s.pwr.vinAgain = true) ∧
    (∃ (s : State), (s.pwr.fail = true ∨ s.pwr.phase = .powerFail)) :=
  ⟨⟨wOn, by decide⟩,
   ⟨{ wOn with pwr := { wOn.pwr with dip := true } }, by decide⟩,
   ⟨wOn, by decide⟩,
   ⟨{ wOn with pwr := { wOn.pwr with overV := true } }, by decide⟩,
   ⟨wOn, by decide⟩,
   ⟨wOn, by decide⟩,
   ⟨{ wOn with pwr := { wOn.pwr with phase := .off } }, by decide⟩,
   ⟨{ wOn with pwr := { wOn.pwr with phase := .powerFail, fail := true } }, by decide⟩,
   ⟨wOn, by decide⟩,
   ⟨wReg [(lPWR, 0x108, 0x101#32)] wOn, by decide⟩,
   ⟨{ wOn with pwr := { wOn.pwr with fail := true } }, by decide⟩,
   ⟨{ wOn with pwr := { wOn.pwr with fail := true } }, by decide⟩,
   ⟨{ wOn with pwr := { wOn.pwr with phase := .powerFail } }, by decide⟩,
   ⟨{ wOn with pwr := { wOn.pwr with phase := .powerFail, vinAgain := true } }, by decide⟩,
   ⟨{ wOn with pwr := { wOn.pwr with fail := true } }, by decide⟩⟩

theorem witness_BootCommandsComplete :
    (∃ (s : State), wiping s = true ∧ s.pwr.sramWiped = false) ∧
    (∃ (s : State), wiping s = true ∧ s.pwr.dramWiped = false) ∧
    (∃ (s : State), s.pwr.phase = .boot ∧ s.pwr.sramWiped = true ∧ s.pwr.safeRunning = false ∧ s.pwr.lcState ≠ 0#3 ∧ s.pwr.byWake = false ∧
      s.pwr.bootPending = false ∧ imageOk s (slotBase s.pwr.activeSlot) false = true) ∧
    (∃ (s : State), s.pwr.phase = .boot ∧ s.pwr.sramWiped = true ∧ s.pwr.safeRunning = false ∧ s.pwr.lcState ≠ 0#3 ∧ s.pwr.byWake = false ∧
      s.pwr.bootPending = true ∧ imageOk s (slotBase (!s.pwr.activeSlot)) false = true) ∧
    (∃ (s : State), s.pwr.phase = .boot ∧ s.pwr.sramWiped = true ∧ s.pwr.safeRunning = false ∧ s.pwr.lcState ≠ 0#3 ∧ s.pwr.byWake = false ∧
      s.pwr.bootPending = false ∧ imageOk s (slotBase s.pwr.activeSlot) false = false ∧
      imageOk s (slotBase (!s.pwr.activeSlot)) false = true) ∧
    (∃ (s : State), s.pwr.phase = .boot ∧ s.pwr.sramWiped = true ∧ s.pwr.safeRunning = false ∧ s.pwr.lcState ≠ 0#3 ∧ s.pwr.byWake = false ∧
      s.pwr.bootPending = false ∧ imageOk s (slotBase s.pwr.activeSlot) false = false ∧
      imageOk s (slotBase (!s.pwr.activeSlot)) false = false) ∧
    (∃ (s : State), (s.pwr.phase = .boot ∨ s.pwr.phase = .run) ∧ s.pwr.cfgLoaded = true ∧ s.pwr.appReleased = false ∧ s.pwr.fail = false ∧
      s.pwr.pstate ≠ .doze) ∧
    (∃ (s : State) (c : Ctx), owns s c lPWR = true ∧ s.pwr.trial = false) ∧
    (∃ (s : State) (c : Ctx), owns s c lPWR = true ∧ s.pwr.trial = true ∧ s.pwr.trialApp = false ∧
      s.otp.rollback.toNat < mgetLE s.mem (slotBase s.pwr.slot + 8) 4) ∧
    (∃ (s : State) (c : Ctx), owns s c lPWR = true) ∧
    (∃ (s : State) (c : Ctx), owns s c lPWR = true ∧ cfgBit s lPWR 0x120 0 = true ∧ cfgBit s lPWR 0x144 2 = true) ∧
    (∃ (s : State) (c : Ctx), owns s c lPWR = true ∧ cfgBit s lPWR 0x120 0 = true ∧ cfgBit s lPWR 0x144 2 = false) ∧
    (∃ (s : State), s.pwr.appVerify = true ∧
      (imageOk s (slotBase (!s.pwr.activeSlot)) false = false ∨ safetyPayload s (!s.pwr.activeSlot) ≠ safetyPayload s s.pwr.slot)) ∧
    (∃ (s : State), s.pwr.appVerify = true ∧ imageOk s (slotBase (!s.pwr.activeSlot)) false = true ∧
      safetyPayload s (!s.pwr.activeSlot) = safetyPayload s s.pwr.slot) :=
  ⟨⟨State.reset, by decide⟩,
   ⟨State.reset, by decide⟩,
   ⟨{ wOn with pwr := { wOn.pwr with phase := .boot, safeRunning := false }, otp := wOtp, mem := wImage 0x60000000 false },
     by decide +kernel⟩,
   ⟨{ wOn with pwr := { wOn.pwr with phase := .boot, safeRunning := false, bootPending := true }, otp := wOtp, mem := wImage 0x63000000 false },
     by decide +kernel⟩,
   ⟨{ wOn with pwr := { wOn.pwr with phase := .boot, safeRunning := false }, otp := wOtp, mem := wImage 0x63000000 false },
     by decide +kernel⟩,
   ⟨{ wOn with pwr := { wOn.pwr with phase := .boot, safeRunning := false } }, by decide +kernel⟩,
   ⟨{ wOn with pwr := { wOn.pwr with phase := .boot, safeRunning := false } }, by decide⟩,
   ⟨{ wOn with pwr := { wOn.pwr with phase := .boot, appRunning := false } }, 0#3, by decide⟩,
   ⟨{ wOn with pwr := { wOn.pwr with trial := true }, mem := [(0x60000008, 1#8)] }, 0#3, by decide⟩,
   ⟨{ wOn with pwr := { wOn.pwr with trial := true }, mem := [(0x60000008, 1#8)] }, 0#3, by decide⟩,
   ⟨wReg [(lPWR, 0x120, 1#32), (lPWR, 0x144, 4#32)] wOn, 0#3, by decide⟩,
   ⟨wReg [(lPWR, 0x120, 1#32)] wOn, 0#3, by decide⟩,
   ⟨{ wOn with pwr := { wOn.pwr with appVerify := true } }, by decide⟩,
   ⟨{ wOn with pwr := { wOn.pwr with appVerify := true }, otp := wOtp, mem := wImage 0x63000000 false }, by decide +kernel⟩⟩

theorem witness_PowerStateCommandsComplete :
    (∃ (s : State) (c : Ctx), owns s c lPWR = true ∧ s.pwr.pstate = .doze) ∧
    (∃ (s : State) (c : Ctx), owns s c lPWR = true ∧ s.pwr.pstate = .run) ∧
    (∃ (s : State) (c : Ctx), owns s c lPWR = true ∧ s.pwr.pstate = .run ∧ pointBusy s = false ∧ echoBusy s = false) ∧
    (∃ (s : State) (c : Ctx), owns s c lPWR = true ∧ (pointBusy s = true ∨ echoBusy s = true)) ∧
    (∃ (s : State), (s.pwr.phase = .run ∨ s.pwr.phase = .boot) ∧ s.pwr.goal = some .doze) ∧
    (∃ (s : State), (s.pwr.phase = .run ∨ s.pwr.phase = .boot) ∧ s.pwr.goal = some .run ∧ s.pwr.fail = false ∧ s.pwr.appReleased = true) ∧
    (∃ (s : State), (s.pwr.phase = .run ∨ s.pwr.phase = .boot) ∧ s.pwr.goal = some .sleep) :=
  ⟨⟨{ wOn with pwr := { wOn.pwr with pstate := .doze } }, 0#3, by decide⟩,
   ⟨wOn, 0#3, by decide⟩,
   ⟨wOn, 0#3, by decide⟩,
   ⟨{ wOn with gal := { wOn.gal with pts := [(0, { core := { st := 2#3 }, desc := [1#32] })] } }, 0#3, by decide⟩,
   ⟨{ wOn with pwr := { wOn.pwr with goal := some .doze } }, by decide⟩,
   ⟨{ wOn with pwr := { wOn.pwr with goal := some .run, appReleased := true } }, by decide⟩,
   ⟨{ wOn with pwr := { wOn.pwr with goal := some .sleep } }, by decide⟩⟩

theorem witness_ResetCommandsComplete :
    (∃ (s : State), s.pwr.phase ≠ .off) ∧
    (∃ (s : State), s.pwr.phase ≠ .off) ∧
    (∃ (s : State), wdtRuns s = true ∧ s.pwr.trial = false) ∧
    (∃ (s : State), wdtRuns s = true ∧ s.pwr.trial = true) ∧
    (∃ (s : State), reaches s 0#3 lPWR = true) ∧
    (∃ (s : State) (v : Word), reaches s 0#3 lPWR = true ∧ v ≠ 0x5A5A#32) ∧
    (∃ (s : State), s.pwr.phase = .inReset) :=
  ⟨⟨wOn, by decide⟩,
   ⟨wOn, by decide⟩,
   ⟨wOn, by decide⟩,
   ⟨{ wOn with pwr := { wOn.pwr with trial := true } }, by decide⟩,
   ⟨wOn, by decide⟩,
   ⟨wOn, 0#32, by decide⟩,
   ⟨{ wOn with pwr := { wOn.pwr with phase := .inReset } }, by decide⟩⟩

theorem witness_TimerAndDegradedCommandsComplete :
    (∃ (s : State) (c : Ctx), owns s c lPWR = true ∧ s.pwr.wdtExpectA5 = false) ∧
    (∃ (s : State) (c : Ctx), owns s c lPWR = true ∧ s.pwr.wdtExpectA5 = true) ∧
    (∃ (s : State) (c : Ctx) (v : Word), owns s c lPWR = true ∧ v ≠ (if s.pwr.wdtExpectA5 then 0xA5A5#32 else 0x5A5A#32)) ∧
    (∃ (s : State) (c : Ctx), owns s c lPWR = true ∧ s.pwr.sysokExpectA5 = false ∧ s.pwr.sysokKicks = 0) ∧
    (∃ (s : State) (c : Ctx), owns s c lPWR = true ∧ s.pwr.sysokExpectA5 = true ∧ s.pwr.sysokKicks = 1 ∧ s.pwr.released = true ∧
      s.pwr.phase = .run ∧ s.pwr.degraded = false) ∧
    (∃ (s : State) (c : Ctx) (v : Word), owns s c lPWR = true ∧ v ≠ (if s.pwr.sysokExpectA5 then 0xA5A5#32 else 0x5A5A#32)) ∧
    (∃ (s : State), s.pwr.sysokOn = true) ∧
    (∃ (k : BitVec 4) (l : BitVec 6), 1 ≤ k.toNat ∧ k.toNat ≤ 8 ∧ l.toNat ≤ 44) ∧
    (∃ (s : State) (c : Ctx), owns s c lPWR = true) ∧
    (∃ (l : BitVec 6), l.toNat ≤ 44) ∧
    (∃ (s : State), s.pwr.degraded = true ∧ cfg s lPWR 0x138 7 0 ≠ 0 ∧ degradedCount s < 3) :=
  ⟨⟨wOn, 0#3, by decide⟩,
   ⟨{ wOn with pwr := { wOn.pwr with wdtExpectA5 := true } }, 0#3, by decide⟩,
   ⟨wOn, 0#3, 0#32, by decide⟩,
   ⟨wOn, 0#3, by decide⟩,
   ⟨{ wOn with pwr := { wOn.pwr with sysokExpectA5 := true, sysokKicks := 1 } }, 0#3, by decide⟩,
   ⟨wOn, 0#3, 0#32, by decide⟩,
   ⟨{ wOn with pwr := { wOn.pwr with sysokOn := true } }, by decide⟩,
   ⟨8#4, 44#6, by decide⟩,
   ⟨wOn, 0#3, by decide⟩,
   ⟨44#6, by decide⟩,
   ⟨wReg [(lPWR, 0x138, 1#32)] { wOn with pwr := { wOn.pwr with degraded := true } }, by decide⟩⟩

theorem witness_LifecycleCommandsComplete :
    (∃ (s : State), owns s 0#3 lPWR = true) ∧
    (∃ s : State, owns s 0#3 lPWR = true ∧ (lcAllowed s 1 || lcAllowed s 2 || lcAllowed s 3 || lcAllowed s 4) = false) ∧
    (∃ s : State, owns s 0#3 lPWR = true ∧ lcAllowed s 1 = true) ∧
    (∃ s : State, owns s 0#3 lPWR = true ∧ lcAllowed s 2 = true) ∧
    (∃ s : State, owns s 0#3 lPWR = true ∧ lcAllowed s 3 = true) ∧
    (∃ s : State, owns s 0#3 lPWR = true ∧ lcAllowed s 4 = true) :=
  ⟨⟨wOn, by decide⟩,
   ⟨wLife 4#3 0, by decide⟩,
   ⟨wLife 0#3 0x8595cfdde11b1d0c81e5656b2202dcf7113373c83d4102d11ab08e7f335a73ef, by decide +kernel⟩,
   ⟨wLife 1#3 0xbd53779acdbfa523a93d2088eb36668543edbb5f914e7821c1bc3efd95e964ff, by decide +kernel⟩,
   ⟨wLife 2#3 0xde3c87ba0c7dfda544d4f5f66d74143a2d07f1094f30b7bd2e951eca2ffb598f, by decide +kernel⟩,
   ⟨wLife 2#3 0x5bb4985805cfa0a73a5cca168a69a16a8b713d280572d229e46d338135296d2d, by decide +kernel⟩⟩

theorem witness_GrottoCommandsComplete :
    (∃ (s : State), s.clk.xt32 = true ∧ unitOn s lCLK = true) ∧
    (∃ (s : State), s.clk.xt32 = false ∧ unitOn s lCLK = true) ∧
    (∃ (s : State) (c : Ctx), mayRd s c lGROT = true) ∧
    (∃ (s : State) (c : Ctx), owns s c lGROT = true ∧ grotPending s = false ∧ (hdr s lGROT).frozen = false) ∧
    (∃ (s : State) (c : Ctx), owns s c lGROT = true ∧ grotPending s = false ∧ (hdr s lGROT).frozen = true) ∧
    (∃ (s : State) (d : Word) (t : Word) (sec : Word), s.grot.commit = some (d, t, sec) ∧ calReason d t sec = none) ∧
    (∃ (s : State) (d : Word) (t : Word) (sec : Word) (r : Nat) (o : Nat), s.grot.commit = some (d, t, sec) ∧
      calReason d t sec = some (r, o)) ∧
    (∃ (s : State) (c : Ctx) (v : Word), owns s c lGROT = true ∧ fld v 2 0 ≠ 7) ∧
    (∃ (s : State) (c : Ctx) (v : Word), owns s c lGROT = true ∧ fld v 2 0 = 7) ∧
    (∃ (s : State) (c : Ctx) (v : Word), owns s c lGROT = true ∧ bit v 1 = true) ∧
    (∃ (s : State) (c : Ctx), mayRd s c lGROT = true ∧ cfgBit s lGROT 0x138 31 = false) ∧
    (∃ (s : State) (c : Ctx), owns s c lGROT = true ∧ 0x100 ≤ 4 * cfg s lGROT 0x138 11 2 ∧ cfgBit s lGROT 0x138 31 = false) ∧
    (∃ (s : State) (c : Ctx), owns s c lGROT = true ∧ 4 * cfg s lGROT 0x138 11 2 < 0x100) ∧
    (∃ (s : State), unitOn s lGAL = true) ∧
    (∃ (s : State), s.pwr.phase = .off) ∧
    (∃ (s : State), cfg s lGROT 0x120 25 0 ≠ 0 ∧ s.pwr.pstate = .run ∧ domOn s dAON = true) ∧
    (∃ (s : State), s.grot.almDue = true ∧ s.pwr.pstate = .run ∧ domOn s dAON = true) :=
  ⟨⟨wOn, by decide⟩,
   ⟨{ wOn with clk := { xt32 := false } }, by decide⟩,
   ⟨wOn, 0#3, by decide⟩,
   ⟨wOn, 0#3, by decide⟩,
   ⟨wHdr lGROT (fun h => { h with frozen := true }) wOn, 0#3, by decide⟩,
   ⟨{ wOn with grot := { wOn.grot with commit := some (0x1F0C0FA0#32, 0x00173B00#32, 59#32) } }, 0x1F0C0FA0#32, 0x00173B00#32, 59#32,
     by decide⟩,
   ⟨{ wOn with grot := { wOn.grot with commit := some (0#32, 0#32, 0#32) } }, 0#32, 0#32, 0#32, 0x40, 0x110, by decide⟩,
   ⟨wOn, 0#3, 6#32, by decide⟩,
   ⟨wOn, 0#3, 7#32, by decide⟩,
   ⟨wOn, 0#3, 2#32, by decide⟩,
   ⟨wReg [(lGROT, 0x138, 0x100#32)] wOn, 0#3, by decide⟩,
   ⟨wReg [(lGROT, 0x138, 0x100#32)] wOn, 0#3, by decide⟩,
   ⟨wOn, 0#3, by decide⟩,
   ⟨{ wOn with pwr := { wOn.pwr with phase := .off } }, by decide⟩,
   ⟨{ wOn with pwr := { wOn.pwr with phase := .off } }, by decide⟩,
   ⟨wReg [(lGROT, 0x120, 1#32)] wOn, by decide⟩,
   ⟨{ wOn with grot := { wOn.grot with almDue := true } }, by decide⟩⟩

theorem witness_PtpCommandsComplete :
    (∃ (s : State) (c : Ctx), mayRd s c lPTP = true) ∧
    (∃ (s : State) (c : Ctx), mayRd s c lPTP = true) ∧
    (∃ (s : State) (c : Ctx), owns s c lPTP = true) ∧
    (∃ (s : State) (o : DWord), works s lPTP = true ∧ cfgBit s lPTP 0x114 3 = false ∧ s.ptp.gm = false ∧ s.ptp.lock = 0#2 ∧
      100000 < (sInt64 o).natAbs) ∧
    (∃ (s : State), works s lPTP = true) ∧
    (∃ (s : State), servoOn s = true ∧ s.ptp.lock = 2#2 ∧ cfg s lPTP 0x11C 15 0 ≠ 0) ∧
    (∃ (s : State), servoOn s = true ∧ s.ptp.lock = 1#2) ∧
    (∃ (s : State), servoOn s = true ∧ s.ptp.lock = 3#2) ∧
    (∃ (s : State), unitOn s lPTP = true ∧ cfgBit s lPTP 0x130 0 = true ∧ servoOn s = false ∧ s.ptp.ppsIn = cfgBit s lPTP 0x130 1) ∧
    (∃ (s : State), unitOn s lPTP = true ∧ cfgBit s lPTP 0x130 0 = true ∧ servoOn s = false ∧ s.ptp.ppsIn = !cfgBit s lPTP 0x130 1) ∧
    (∃ (s : State), unitOn s lPTP = true ∧ cfgBit s lPTP 0x130 0 = true ∧ servoOn s = false) ∧
    (∃ (s : State), unitOn s lPTP = true ∧ cfgBit s lPTP 0x130 2 = true ∧ (cfgBit s lPTP 0x130 3 = false ∨ s.ptp.lock = 2#2)) :=
  ⟨⟨wOn, 0#3, by decide⟩,
   ⟨wOn, 0#3, by decide⟩,
   ⟨wOn, 0#3, by decide⟩,
   ⟨wOn, 100001#64, by decide⟩,
   ⟨wOn, by decide⟩,
   ⟨wReg [(lPTP, 0x11C, 1#32)] { wOn with ptp := { wOn.ptp with lock := 2#2 } }, by decide⟩,
   ⟨{ wOn with ptp := { wOn.ptp with lock := 1#2 } }, by decide⟩,
   ⟨{ wOn with ptp := { wOn.ptp with lock := 3#2 } }, by decide⟩,
   ⟨wReg [(lPTP, 0x130, 1#32), (lPTP, 0x114, 8#32)] wOn, by decide⟩,
   ⟨wReg [(lPTP, 0x130, 1#32), (lPTP, 0x114, 8#32)] { wOn with ptp := { wOn.ptp with ppsIn := true } }, by decide⟩,
   ⟨wReg [(lPTP, 0x130, 1#32), (lPTP, 0x114, 8#32)] wOn, by decide⟩,
   ⟨wReg [(lPTP, 0x130, 4#32)] wOn, by decide⟩⟩

theorem witness_FlowstoneCommandsComplete :
    (∃ (s : State) (r : FlowRec) (rest : List FlowRec), s.flow.arriving = r :: rest ∧ flowTakes s r.src = true ∧ s.flow.queue.length < 1024) ∧
    (∃ (s : State) (r : FlowRec) (rest : List FlowRec), s.flow.arriving = r :: rest ∧ flowTakes s r.src = true ∧
      1024 ≤ s.flow.queue.length ∧ 1 ≤ r.src.toNat ∧ r.src.toNat ≤ 5) ∧
    (∃ (s : State) (r : FlowRec) (rest : List FlowRec), writerRuns s = true ∧ s.flow.queue = r :: rest ∧ s.flow.lossDue = false ∧
      s.flow.closed = false ∧ s.flow.headAddr - blkBase s.flow.headBlk + recSize r.payload.length ≤ 0x10000) ∧
    (∃ (s : State) (b : Nat), writerRuns s = true ∧ s.flow.clearing = none ∧ reserveBlock s = some b) ∧
    (∃ (s : State) (q : Nat) (b : Nat) (rest : List Nat), writerRuns s = true ∧ s.flow.clearing = some q ∧ clearBlocks s q = b :: rest) ∧
    (∃ (s : State) (c : Ctx), pathOk s c = true ∧ unitOn s lFLOW = true) ∧
    (∃ (s : State), works s lFLOW = true ∧ s.flow.needRecovery = true ∧ s.flow.stopped = false ∧ s.pwr.phase ≠ .powerFail) ∧
    (∃ (s : State) (x : Ctx), reaches s x lFLOW = true ∧ cfgBit s lFLOW 0x104 (8 + x.toNat) = true) ∧
    (∃ (s : State) (x : Ctx), reaches s x lFLOW = true ∧ (snap s x.toNat).held = true) ∧
    (∃ (s : State) (x : Ctx) (v : DWord), reaches s x lFLOW = true ∧ (snap s x.toNat).cur ≤ v.toNat ∧ v.toNat ≤ (snap s x.toNat).last + 1) ∧
    (∃ (s : State) (x : Ctx) (v : DWord), reaches s x lFLOW = true ∧ (v.toNat < (snap s x.toNat).cur ∨ (snap s x.toNat).last + 1 < v.toNat)) ∧
    (∃ (s : State) (c : Ctx), reaches s c lFLOW = true ∧ cfgBit s lFLOW 0x104 (16 + c.toNat) = true) ∧
    (∃ (s : State) (c : Ctx), reaches s c lFLOW = true ∧ cfgBit s lFLOW 0x104 (16 + c.toNat) = true ∧ clrCheck s c = 1 ∧
      writerRuns s = true ∧ s.flow.queue = []) ∧
    (∃ (s : State) (c : Ctx), reaches s c lFLOW = true ∧ cfgBit s lFLOW 0x104 (16 + c.toNat) = true ∧ clrCheck s c = 1 ∧
      writerRuns s = false) ∧
    (∃ (s : State) (c : Ctx), reaches s c lFLOW = true ∧ cfgBit s lFLOW 0x104 (16 + c.toNat) = true ∧ clrCheck s c ≠ 1) ∧
    (∃ (s : State) (q : Nat), s.flow.clearing = some q ∧ writerRuns s = true ∧ clearBlocks s q = [] ∧ s.flow.queue = []) :=
  ⟨⟨wReg [(lFLOW, 0x100, 0x20000#32)] { wOn with flow := { wOn.flow with arriving := [{ src := 1#4, typ := 1#8, payload := [] }] } },
     { src := 1#4, typ := 1#8, payload := [] }, [], by decide⟩,
   ⟨wReg [(lFLOW, 0x100, 0x20000#32)] { wOn with flow := { wOn.flow with arriving := [{ src := 1#4, typ := 1#8, payload := [] }], queue := List.replicate 1024 { src := 1#4, typ := 1#8, payload := [] } } },
     { src := 1#4, typ := 1#8, payload := [] }, [], by decide +kernel⟩,
   ⟨{ wOn with flow := { wOn.flow with queue := [{ src := 1#4, typ := 1#8, payload := [] }], recovered := true, closed := false } },
     { src := 1#4, typ := 1#8, payload := [] }, [], by decide⟩,
   ⟨wReg [(lFLOW, 0x100, 1#32)] { wOn with flow := { wOn.flow with recovered := true }, mem := [(0x68010000, 1#8)] }, 1, by decide +kernel⟩,
   ⟨{ wOn with flow := { wOn.flow with recovered := true, clearing := some 1 }, mem := [(0x68010000, 1#8)] }, 1, 1, [], by decide +kernel⟩,
   ⟨wOn, 0#3, by decide⟩,
   ⟨{ wOn with flow := { wOn.flow with needRecovery := true } }, by decide⟩,
   ⟨wOn, 0#3, by decide⟩,
   ⟨{ wOn with flow := { wOn.flow with snaps := [(0, { held := true })] } }, 0#3, by decide⟩,
   ⟨wOn, 0#3, 0#64, by decide⟩,
   ⟨wOn, 0#3, 2#64, by decide⟩,
   ⟨wOn, 0#3, by decide⟩,
   ⟨{ wClear with flow := { wClear.flow with recovered := true } }, 0#3, by decide +kernel⟩,
   ⟨wClear, 0#3, by decide +kernel⟩,
   ⟨{ wOn with flow := { wOn.flow with recovered := true, clearing := some 1 } }, 0#3, by decide +kernel⟩,
   ⟨{ wOn with flow := { wOn.flow with recovered := true, clearing := some 1 } }, 1, by decide +kernel⟩⟩

theorem witness_ChamberConversionCommandsComplete :
    (∃ (s : State) (n : BitVec 3), chmStarts s n.toNat = true ∧ backToBack s n.toNat = false ∧ (chm s n.toNat).passOn = false) ∧
    (∃ (s : State) (n : BitVec 3), chmStarts s n.toNat = true ∧ backToBack s n.toNat = false ∧ (chm s n.toNat).passOn = true) ∧
    (∃ (s : State) (n : BitVec 3) (e : Nat) (rest : List (Nat × Bool)), chmStarts s n.toNat = true ∧ (chm s n.toNat).cur = none ∧
      (hdr s (lCHMB n.toNat)).pend = none ∧ (chm s n.toNat).scan = (e, false) :: rest ∧ entMode s n.toNat e 0 = true ∧ s.test.inj = false ∧
      scanWaits s n.toNat e = false) ∧
    (∃ (s : State) (n : BitVec 3) (e : Nat) (rest : List (Nat × Bool)), chmStarts s n.toNat = true ∧ (chm s n.toNat).cur = none ∧
      (hdr s (lCHMB n.toNat)).pend = none ∧ (chm s n.toNat).scan = (e, false) :: rest ∧ entMode s n.toNat e 0 = true ∧ s.test.inj = false ∧
      scanWaits s n.toNat e = true) ∧
    (∃ (s : State) (n : BitVec 3) (f : Strobe) (rest : List Strobe), chmStarts s n.toNat = true ∧ (chm s n.toNat).cur = none ∧
      (hdr s (lCHMB n.toNat)).pend = none ∧ (chm s n.toNat).fbList = f :: rest ∧ entMode s n.toNat f.ent 1 = true) ∧
    (∃ (s : State) (n : BitVec 3) (f : Strobe) (rest : List Strobe), chmStarts s n.toNat = true ∧ (chm s n.toNat).cur = none ∧
      (hdr s (lCHMB n.toNat)).pend = none ∧ (chm s n.toNat).fbList = f :: rest ∧ entMode s n.toNat f.ent 1 = false) ∧
    (∃ (s : State) (n : BitVec 3) (a : AngStrobe) (rest : List AngStrobe) (e : Nat), chmStarts s n.toNat = true ∧
      (chm s n.toNat).cur = none ∧ (hdr s (lCHMB n.toNat)).pend = none ∧ (chm s n.toNat).angQ = a :: rest ∧ angleEntry s n.toNat = some e) ∧
    (∃ (s : State) (n : BitVec 3) (r : EntRun), alive s (lCHMB n.toNat) = true ∧ (chm s n.toNat).cur = some r ∧ (chm s n.toNat).conv = none) ∧
    (∃ (s : State) (n : BitVec 3) (r : EntRun), alive s (lCHMB n.toNat) = true ∧ (chm s n.toNat).conv = some r ∧ s.test.injOn = false ∧
      r.src ≠ .feedback) ∧
    (∃ (s : State) (n : BitVec 3) (r : EntRun) (v : ConvResult), alive s (lCHMB n.toNat) = true ∧ (chm s n.toNat).conv = some r ∧
      s.test.injOn = false ∧ r.src = .feedback ∧ loopGets s ((mergeSample s n.toNat r v).1) = true) ∧
    (∃ (s : State) (n : BitVec 3) (r : EntRun) (v : ConvResult), alive s (lCHMB n.toNat) = true ∧ (chm s n.toNat).conv = some r ∧
      s.test.injOn = false ∧ r.src = .feedback ∧ loopGets s ((mergeSample s n.toNat r v).1) = false) ∧
    (∃ (s : State) (n : BitVec 3) (e : Nat) (b : Bool) (x : Nat × Bool) (rest : List (Nat × Bool)), chmStarts s n.toNat = true ∧
      (chm s n.toNat).cur = none ∧ (chm s n.toNat).scan = (e, b) :: x :: rest) :=
  ⟨⟨wReg [(lCHMB 0, 0x100, 1#32)] wOn, 0#3, by decide⟩,
   ⟨wReg [(lCHMB 0, 0x100, 1#32)] { wOn with chmb := [(0, { passOn := true })] }, 0#3, by decide⟩,
   ⟨wReg [(lCHMB 0, 0x200, 1#32)] { wOn with chmb := [(0, { scan := [(0, false)] })] }, 0#3, 0, [], by decide⟩,
   ⟨wReg [(lCHMB 0, 0x200, 1#32)] { wOn with chmb := [(0, { scan := [(0, false)], fbList := [{ slot := 0, ent := 0, phase := 0 }] })] },
     0#3, 0, [], by decide⟩,
   ⟨wReg [(lCHMB 0, 0x200, 3#32)] { wOn with chmb := [(0, { fbList := [{ slot := 0, ent := 0, phase := 0 }] })] }, 0#3,
     { slot := 0, ent := 0, phase := 0 }, [], by decide⟩,
   ⟨{ wOn with chmb := [(0, { fbList := [{ slot := 0, ent := 0, phase := 0 }] })] }, 0#3, { slot := 0, ent := 0, phase := 0 }, [],
     by decide⟩,
   ⟨wReg [(lCHMB 0, 0x200, 5#32)] { wOn with chmb := [(0, { angQ := [{ time := 0, idx := 0, decim := 0 }] })] }, 0#3,
     { time := 0, idx := 0, decim := 0 }, [], 0, by decide⟩,
   ⟨{ wOn with chmb := [(0, { cur := some { ent := 0, src := .scan, sel := 0#32, exc := 0#32, tim := 0#32 } })] }, 0#3,
     { ent := 0, src := .scan, sel := 0#32, exc := 0#32, tim := 0#32 }, by decide⟩,
   ⟨{ wOn with chmb := [(0, { conv := some { ent := 0, src := .angle, sel := 0#32, exc := 0#32, tim := 0#32 } })] }, 0#3,
     { ent := 0, src := .angle, sel := 0#32, exc := 0#32, tim := 0#32 }, by decide⟩,
   ⟨{ wOn with act := [(wk lINTG 0x180 0, 1#32)], chmb := [(0, { conv := some { ent := 0, src := .feedback, sel := 0#32, exc := 0#32, tim := 0#32 } })] },
     0#3, { ent := 0, src := .feedback, sel := 0#32, exc := 0#32, tim := 0#32 }, { hg := 0#20, lg := 0#20 }, by decide⟩,
   ⟨{ wOn with chmb := [(0, { conv := some { ent := 0, src := .feedback, sel := 0#32, exc := 0#32, tim := 0#32 } })] }, 0#3,
     { ent := 0, src := .feedback, sel := 0#32, exc := 0#32, tim := 0#32 }, { hg := 0#20, lg := 0#20 }, by decide⟩,
   ⟨{ wOn with chmb := [(0, { scan := [(0, false), (0, false)] })] }, 0#3, 0, false, (0, false), [], by decide⟩⟩

theorem witness_ChamberServiceCommandsComplete :
    (∃ (s : State) (n : BitVec 3) (f : Strobe), chmStarts s n.toNat = true ∧ (chm s n.toNat).fbSent = [f] ∧ (chm s n.toNat).fbList = [] ∧
      (chm s n.toNat).angQ = [] ∧ entMode s n.toNat f.ent 1 = true) ∧
    (∃ (s : State) (n : BitVec 3), unitOn s (lCHMB n.toNat) = true ∧ chmStarts s n.toNat = false) ∧
    (∃ (s : State) (n : BitVec 3) (d : BitVec 3), chmStarts s n.toNat = true ∧ cfg s (lCHMB n.toNat) 0x110 2 0 = d.toNat ∧
      cfg s (lCHMB n.toNat) 0x110 7 4 ≠ d.toNat) ∧
    (∃ (s : State) (n : BitVec 3) (d : BitVec 3), chmStarts s n.toNat = true ∧ cfg s (lCHMB n.toNat) 0x110 2 0 ≠ d.toNat ∧
      cfg s (lCHMB n.toNat) 0x110 7 4 = d.toNat) ∧
    (∃ (s : State) (n : BitVec 3), chmStarts s n.toNat = true ∧ (chm s n.toNat).angLocked = true) ∧
    (∃ (s : State) (c : Ctx) (n : BitVec 3), owns s c (lCHMB n.toNat) = true ∧ (hdr s (lCHMB n.toNat)).frozen = true) ∧
    (∃ (s : State) (c : Ctx) (n : BitVec 3), owns s c (lCHMB n.toNat) = true ∧ (hdr s (lCHMB n.toNat)).frozen = false) ∧
    (∃ (s : State) (n : BitVec 3), (chm s n.toNat).calBusy = true ∧ cfg s (lCHMB n.toNat) 0x100 19 0 ≠ 0) ∧
    (∃ (s : State) (n : BitVec 3) (r : CalResult), cfgBit s (lCHMB n.toNat) 0x104 8 = true ∧
      4096 ≤ tget (chm s n.toNat).track r.set.toNat 0 ∧ trackSmall s n.toNat r = true) ∧
    (∃ (s : State) (n : BitVec 3), unitOn s (lCHMB n.toNat) = true ∧ s.test.inj = false ∧ (chm s n.toNat).fbList = [] ∧
      (∀ r, (chm s n.toNat).cur = some r ∨ (chm s n.toNat).conv = some r → r.src ≠ .feedback)) ∧
    (∃ (s : State) (n : BitVec 3) (f : Strobe), unitOn s (lCHMB n.toNat) = true ∧ s.test.inj = false ∧ (chm s n.toNat).fbList = [f] ∧
      (chm s n.toNat).cur = none ∧ (chm s n.toNat).conv = none) ∧
    (∃ (s : State) (n : BitVec 3), alive s (lCHMB n.toNat) = true ∧ (chm s n.toNat).chvp = true ∧ (chm s n.toNat).chvl = false ∧
      (chm s n.toNat).coupler = false) :=
  ⟨⟨wReg [(lCHMB 0, 0x200, 3#32)] { wOn with chmb := [(0, { fbSent := [{ slot := 0, ent := 0, phase := 0 }] })] }, 0#3,
     { slot := 0, ent := 0, phase := 0 }, by decide⟩,
   ⟨wHdr (lCHMB 0) (fun h => { h with freeze := true }) wOn, 0#3, by decide⟩,
   ⟨wReg [(lCHMB 0, 0x110, 0x70#32)] wOn, 0#3, 0#3, by decide⟩,
   ⟨wReg [(lCHMB 0, 0x110, 0x7#32)] wOn, 0#3, 0#3, by decide⟩,
   ⟨{ wOn with chmb := [(0, { angLocked := true })] }, 0#3, by decide⟩,
   ⟨wHdr (lCHMB 0) (fun h => { h with frozen := true }) wOn, 0#3, 0#3, by decide⟩,
   ⟨wOn, 0#3, 0#3, by decide⟩,
   ⟨wReg [(lCHMB 0, 0x100, 1#32)] { wOn with chmb := [(0, { calBusy := true })] }, 0#3, by decide⟩,
   ⟨wReg [(lCHMB 0, 0x104, 0x100#32), (lCHMB 0, 0x184, 0#32)] { wOn with chmb := [(0, { track := [(0, 4096)] })] }, 0#3,
     { set := 0#3, gain := 0#32, ofs := 0#32, misP := 0#16, misN := 0#16 }, by decide⟩,
   ⟨wOn, 0#3, by decide, by decide, by decide, by rintro r (h | h) <;> cases h⟩,
   ⟨{ wOn with chmb := [(0, { fbList := [{ slot := 0, ent := 0, phase := 0 }] })] }, 0#3, { slot := 0, ent := 0, phase := 0 }, by decide⟩,
   ⟨{ wOn with chmb := [(0, { chvp := true })] }, 0#3, by decide⟩⟩

theorem witness_SupplySenseCommandsComplete :
    (∃ (s : State), works s lSSNS = true ∧ (hdr s lSSNS).pend = none) ∧
    (∃ (s : State) (w : SsnsWindow), wfWindow w = true ∧ works s lSSNS = true ∧ s.ssns.win.n ≠ 0 ∧ unitOn s lINTG = true) ∧
    (∃ (s : State) (w : SsnsWindow), wfWindow w = true ∧ works s lSSNS = true ∧ s.ssns.win.n = 0) ∧
    (∃ (s : State) (f : BitVec 20) (p : Bool), works s lSSNS = true ∧ freqOk f p = false) ∧
    (∃ (s : State) (f : BitVec 20) (p : Bool), works s lSSNS = true ∧ freqOk f p = true ∧ s.ssns.windowed = true) ∧
    (∃ (s : State) (f : BitVec 20) (p : Bool), works s lSSNS = true ∧ freqOk f p = true ∧ s.ssns.windowed = false) ∧
    (∃ s : State, works s lSSNS = true ∧ s.ssns.halfA.n ≠ 0 ∧ s.ssns.halfB.n ≠ 0 ∧ s.ssns.halfC.n ≠ 0 ∧ s.ssns.sag = 0#3 ∧
      s.ssns.swell = 0#3 ∧ (∀ m, m = s.ssns.halfA ∨ m = s.ssns.halfB ∨ m = s.ssns.halfC → halfLow s m = false ∧ halfHigh s m = false)) ∧
    (∃ (s : State), works s lSSNS = true ∧ s.ssns.halfA.n ≠ 0 ∧ s.ssns.sag.getLsbD 0 = false ∧ s.ssns.swell.getLsbD 0 = false ∧
      halfLow s s.ssns.halfA = true ∧ halfHigh s s.ssns.halfA = false ∧ s.ssns.sag = 0#3 ∧ standby s = false ∧ unitOn s lINTG = true) ∧
    (∃ (s : State) (a : Bool) (b : Bool) (c : Bool), works s lSSNS = true ∧ (a = true → s.ssns.halfA.n = 0) ∧
      (b = true → s.ssns.halfB.n = 0) ∧ (c = true → s.ssns.halfC.n = 0)) ∧
    (∃ (s : State) (d : DWord), works s lSSNS = true ∧ s.ssns.boRun = some d ∧ s.ssns.blackout = false) ∧
    (∃ (s : State), works s lSSNS = true ∧ s.ssns.blackout = true ∧ s.ssns.above = 7#3) :=
  ⟨⟨wReg [(lSSNS, 0x104, 0x1000#32), (lSSNS, 0x108, 0x10000#32), (lSSNS, 0x100, 0x10000#32)] wOn, by decide⟩,
   ⟨{ wOn with ssns := { wOn.ssns with win := { n := 1 } } }, wWindow, by decide +kernel⟩,
   ⟨wOn, wWindow, by decide +kernel⟩,
   ⟨wOn, 1#20, false, by decide⟩,
   ⟨{ wOn with ssns := { wOn.ssns with windowed := true } }, 50000#20, true, by decide⟩,
   ⟨wOn, 50000#20, true, by decide⟩,
   ⟨wReg [(lSSNS, 0x108, 0xFF00#32)] { wOn with ssns := { wOn.ssns with halfA := { n := 1 }, halfB := { n := 1 }, halfC := { n := 1 } } },
     by decide, by decide, by decide, by decide, by decide, by decide, by rintro m (rfl | rfl | rfl) <;> decide⟩,
   ⟨wReg [(lSSNS, 0x108, 0x0101#32), (lSSNS, 0x100, 0x10000#32), (lSSNS, 0x104, 0x1#32)] { wOn with ssns := { wOn.ssns with halfA := { n := 1 } } },
     by decide⟩,
   ⟨wReg [(lSSNS, 0x108, 0x0101#32), (lSSNS, 0x100, 0x10000#32)] wOn, false, false, false, by decide⟩,
   ⟨{ wOn with ssns := { wOn.ssns with boRun := some 0#64 } }, 0#64, by decide⟩,
   ⟨{ wOn with ssns := { wOn.ssns with blackout := true, above := 7#3 } }, by decide⟩⟩

theorem witness_IntegrityCommandsComplete :
    (∃ (s : State) (x : Sample) (rest : List IntgIn), s.intg.inq = .sample x :: rest ∧ alive s lINTG = true ∧
      (hdr s lINTG).freeze = false ∧ bit (chReg s 0x180 x.ch) 0 = true ∧ x.oc = false) ∧
    (∃ (s : State) (c : Nat) (v : F32) (d : DWord) (rest : List IntgIn), s.intg.inq = .ssns c v d :: rest ∧ alive s lINTG = true ∧
      (hdr s lINTG).freeze = false ∧ bit (chReg s 0x180 c) 0 = true) ∧
    (∃ (s : State) (x : IntgIn) (rest : List IntgIn), s.intg.inq = x :: rest ∧ alive s lINTG = true ∧ (hdr s lINTG).freeze = true) ∧
    (∃ (s : State) (c : BitVec 9) (p : Prov) (rest : List Prov), alive s lINTG = true ∧ (chan s c.toNat).inflight = p :: rest ∧
      p.late = false ∧ p.cross.isSome = true ∧ failedChecks p ≠ [] ∧ (chan s c.toNat).strike = false) ∧
    (∃ (s : State) (c : BitVec 9) (p : Prov) (rest : List Prov), alive s lINTG = true ∧ (chan s c.toNat).inflight = p :: rest ∧
      p.late = false ∧ p.cross.isSome = true ∧ failedChecks p = [] ∧ p.pairSquash = false) ∧
    (∃ (s : State) (c : BitVec 9) (p : Prov) (rest : List Prov), alive s lINTG = true ∧ (chan s c.toNat).inflight = p :: rest ∧
      p.late = false ∧ p.cross.isSome = true ∧ failedChecks p ≠ [] ∧ (chan s c.toNat).strike = true ∧ p.pairSquash = false) ∧
    (∃ (s : State) (c : BitVec 9) (p : Prov) (rest : List Prov), alive s lINTG = true ∧ (chan s c.toNat).inflight = p :: rest ∧
      p.cross = none ∧ firstDue (chan s c.toNat) = some p.due ∧ (chan s c.toNat).tmoStrike = false) ∧
    (∃ (s : State) (c : BitVec 9) (p : Prov) (rest : List Prov), alive s lINTG = true ∧ (chan s c.toNat).inflight = p :: rest ∧
      p.cross = none ∧ firstDue (chan s c.toNat) = some p.due ∧ (chan s c.toNat).tmoStrike = true) ∧
    (∃ (s : State) (c : BitVec 9) (p : Prov) (q : Prov), alive s lINTG = true ∧ (chan s c.toNat).inflight = [p, q] ∧ p.late = false ∧
      p.cross.isSome = true ∧ q.cross = none ∧ q.late = false) ∧
    (∃ (s : State) (c : Ctx) (v : Word), owns s c lINTG = true ∧ bit v 31 = true) ∧
    (∃ (s : State) (n : Noise), s.intg.noise = some n ∧ n.got = n.want) ∧
    (∃ (s : State) (x : Ctx) (v : Word), reaches s x lINTG = true ∧ fld v 8 0 ≤ 269) ∧
    (∃ (s : State) (c : Ctx) (v : Word), owns s c lINTG = true ∧ fld v 8 0 ≤ 269) ∧
    (∃ (s : State) (c : Ctx) (v : Word), owns s c lINTG = true ∧ 269 < fld v 8 0) :=
  ⟨⟨{ wOn with intg := { wOn.intg with inq := [.sample wSample] }, act := [(wk lINTG 0x180 0, 1#32)] }, wSample, [], by decide⟩,
   ⟨{ wOn with intg := { wOn.intg with inq := [.ssns 0 0#32 0#64] }, act := [(wk lINTG 0x180 0, 1#32)] }, 0, 0#32, 0#64, [], by decide⟩,
   ⟨wHdr lINTG (fun h => { h with freeze := true }) { wOn with intg := { wOn.intg with inq := [.sample wSample] } }, .sample wSample, [],
     by decide⟩,
   ⟨{ wOn with intg := { wOn.intg with chan := [(0, { inflight := [{ wProv with agreeFail := true }] })] } }, 0#9,
     { wProv with agreeFail := true }, [], by decide⟩,
   ⟨{ wOn with intg := { wOn.intg with chan := [(0, { inflight := [wProv] })] } }, 0#9, wProv, [], by decide⟩,
   ⟨{ wOn with intg := { wOn.intg with chan := [(0, { inflight := [{ wProv with agreeFail := true }], strike := true })] } }, 0#9,
     { wProv with agreeFail := true }, [], by decide⟩,
   ⟨{ wOn with intg := { wOn.intg with chan := [(0, { inflight := [{ wProv with cross := none }] })] } }, 0#9,
     { wProv with cross := none }, [], by decide⟩,
   ⟨{ wOn with intg := { wOn.intg with chan := [(0, { inflight := [{ wProv with cross := none }], tmoStrike := true })] } }, 0#9,
     { wProv with cross := none }, [], by decide⟩,
   ⟨{ wOn with intg := { wOn.intg with chan := [(0, { inflight := [wProv, { wProv with cross := none }] })] } }, 0#9, wProv,
     { wProv with cross := none }, by decide⟩,
   ⟨wOn, 0#3, 0x80000000#32, by decide⟩,
   ⟨{ wOn with intg := { wOn.intg with noise := some { ch := 0, want := 0 } } }, { ch := 0, want := 0 }, by decide⟩,
   ⟨wOn, 0#3, 269#32, by decide⟩,
   ⟨wOn, 0#3, 269#32, by decide⟩,
   ⟨wOn, 0#3, 270#32, by decide⟩⟩

theorem witness_GalleryEventsComplete :
    (∃ (s : State) (p : BitVec 11) (d : List Word), galRuns s = true ∧ (pnt s p.toNat).next = some d ∧ (pnt s p.toNat).wait = none ∧
      (pnt s p.toNat).eval = none) ∧
    (∃ (s : State) (i : Item) (rest : List GalMsg) (p : Nat) (pt : Point), s.galIn = .item i :: rest ∧ alive s lGAL = true ∧
      s.gal.pts = [(p, pt)] ∧ takesItem pt i = true ∧ pt.slot = none) ∧
    (∃ (s : State) (p : BitVec 11) (i : Item), galRuns s = true ∧ (pnt s p.toNat).slot = some i ∧ (pnt s p.toNat).eval = none ∧
      p.toNat ∉ s.gal.ready) ∧
    (∃ (s : State) (p : Nat) (rest : List Nat) (i : Item), galRuns s = true ∧ s.gal.ready = p :: rest ∧ (pnt s p).next = none ∧
      (pnt s p).slot = some i) ∧
    (∃ (s : State) (p : BitVec 11) (i : Item), works s lGAL = true ∧ standby s = false ∧ (pnt s p.toNat).wait = none ∧
      (pnt s p.toNat).eval = some i ∧ i.prov = false) ∧
    (∃ (s : State) (p : BitVec 11) (i : Item), works s lGAL = true ∧ standby s = false ∧ (pnt s p.toNat).wait = none ∧
      (pnt s p.toNat).eval = some i ∧ i.prov = true ∧ (pnt s p.toNat).evalRes = none) ∧
    (∃ (s : State) (p : BitVec 11) (i : Item), galRuns s = true ∧ (pnt s p.toNat).wait = none ∧ (pnt s p.toNat).prov = some i ∧
      (pnt s p.toNat).res = some none) ∧
    (∃ (s : State) (p : BitVec 11) (k : BitVec 3) (t : Tmr), galRuns s = true ∧ (pnt s p.toNat).wait = none ∧
      tget (pnt s p.toNat).core.tmr k.toNat none = some t) ∧
    (∃ (s : State) (p : BitVec 11), galRuns s = true ∧ (pnt s p.toNat).wait = none ∧ (pnt s p.toNat).core.shelf = true ∧
      (pnt s p.toNat).core.st ≠ 4#3) ∧
    (∃ (s : State) (p : BitVec 11), galRuns s = true ∧ (pnt s p.toNat).wait = none ∧ (pnt s p.toNat).core.shelf = true ∧
      (pnt s p.toNat).core.st = 4#3) ∧
    (∃ (s : State) (p : BitVec 11) (w : PtWait) (sup : Bool), unitOn s lGAL = true ∧ (hdr s lGAL).en = true ∧
      (pnt s p.toNat).wait = some w ∧ s.gal.vans = [(p.toNat, sup)]) ∧
    (∃ (s : State) (p : BitVec 11) (w : PtWait), unitOn s lGAL = true ∧ (hdr s lGAL).en = true ∧ (pnt s p.toNat).wait = some w ∧
      s.gal.vans = []) ∧
    (∃ (s : State) (p : Nat) (on : Bool) (rest : List (Nat × Bool)), galRuns s = true ∧ s.grp.supq = (p, on) :: rest ∧
      (pnt s p).wait = none) :=
  ⟨⟨{ wOn with gal := { wOn.gal with pts := [(0, { next := some [] })] } }, 0#11, [], by decide⟩,
   ⟨{ wOn with gal := { wOn.gal with pts := [(0, { desc := [1#32] })] }, galIn := [.item wItem] }, wItem, [], 0, { desc := [1#32] },
     by decide⟩,
   ⟨{ wOn with gal := { wOn.gal with pts := [(0, { slot := some wItem })] } }, 0#11, wItem, by decide⟩,
   ⟨{ wOn with gal := { wOn.gal with pts := [(0, { slot := some wItem })], ready := [0] } }, 0, [], wItem, by decide⟩,
   ⟨{ wOn with gal := { wOn.gal with pts := [(0, { eval := some wItem })] } }, 0#11, wItem, by decide⟩,
   ⟨{ wOn with gal := { wOn.gal with pts := [(0, { eval := some { wItem with prov := true } })] } }, 0#11, { wItem with prov := true },
     by decide⟩,
   ⟨{ wOn with gal := { wOn.gal with pts := [(0, { prov := some wItem, res := some none })] } }, 0#11, wItem, by decide⟩,
   ⟨{ wOn with gal := { wOn.gal with pts := [(0, { core := { tmr := [(0, some { on := true, at0 := 0, ms := 0, stamp := 0#64 })] } })] } },
     0#11, 0#3, { on := true, at0 := 0, ms := 0, stamp := 0#64 }, by decide⟩,
   ⟨{ wOn with gal := { wOn.gal with pts := [(0, { core := { shelf := true } })] } }, 0#11, by decide⟩,
   ⟨{ wOn with gal := { wOn.gal with pts := [(0, { core := { shelf := true, st := 4#3 } })] } }, 0#11, by decide⟩,
   ⟨{ wOn with gal := { wOn.gal with pts := [(0, { wait := some { core := {}, cause := 0, src := 0, stamp := none } })], vans := [(0, false)] } },
     0#11, { core := {}, cause := 0, src := 0, stamp := none }, false, by decide⟩,
   ⟨{ wOn with gal := { wOn.gal with pts := [(0, { wait := some { core := {}, cause := 0, src := 0, stamp := none } })] } }, 0#11,
     { core := {}, cause := 0, src := 0, stamp := none }, by decide⟩,
   ⟨{ wOn with grp := { wOn.grp with supq := [(0, false)] } }, 0, false, [], by decide⟩⟩

theorem witness_GalleryCommandsComplete :
    (∃ (s : State) (x : Ctx), reaches s x lGAL = true ∧ cmdBusy s x.toNat = false) ∧
    (∃ s : State, galRuns s = true ∧ s.gal.pts.all (fun e => e.2.wait.isNone) = true ∧ reaches s 0#3 lGAL = true ∧ cmdBusy s 0 = false ∧
      mayAck s 0 0 = true ∧ unacked (pnt s 0).core = true ∧ (pnt s 0).core.inst = BitVec.ofNat 8 (reg s lGAL 0x200).toNat) ∧
    (∃ s : State, galRuns s = true ∧ s.gal.pts.all (fun e => e.2.wait.isNone) = true ∧ reaches s 0#3 lGAL = true ∧ cmdBusy s 0 = false ∧
      ackSet s (some 0) 0#64 = [0] ∧ (ackSet s (some 0) 0#64).all (fun q => mayAck s 0 q) = true) ∧
    (∃ s : State, galRuns s = true ∧ s.gal.pts.all (fun e => e.2.wait.isNone) = true ∧ reaches s 0#3 lGAL = true ∧ cmdBusy s 0 = false ∧
      ackSet s none 0#64 = [0] ∧ (ackSet s none 0#64).all (fun q => mayAck s 0 q) = true) ∧
    (∃ s : State, galRuns s = true ∧ s.gal.pts.all (fun e => e.2.wait.isNone) = true ∧ reaches s 0#3 lGAL = true ∧ cmdBusy s 0 = false ∧
      mayShelve s 0 0 = true ∧ dFlag (pnt s 0).desc 2 = true ∧ (pnt s 0).core.st ≠ 6#3 ∧ (pnt s 0).core.st ≠ 7#3 ∧
      (reg s lGAL 0x200).toNat ≠ 0 ∧ (reg s lGAL 0x200).toNat ≤ cfg s lGAL 0x100 15 0) ∧
    (∃ s : State, galRuns s = true ∧ s.gal.pts.all (fun e => e.2.wait.isNone) = true ∧ reaches s 0#3 lGAL = true ∧ cmdBusy s 0 = false ∧
      mayShelve s 0 0 = true ∧ (pnt s 0).core.st = 4#3) ∧
    (∃ s : State, galRuns s = true ∧ s.gal.pts.all (fun e => e.2.wait.isNone) = true ∧ reaches s 0#3 lGAL = true ∧ cmdBusy s 0 = false ∧
      cfgBit s lGAL 0x114 0 = true ∧ (pnt s 0).core.st ≠ 6#3 ∧ (pnt s 0).core.st ≠ 7#3) ∧
    (∃ s : State, galRuns s = true ∧ s.gal.pts.all (fun e => e.2.wait.isNone) = true ∧ reaches s 0#3 lGAL = true ∧ cmdBusy s 0 = false ∧
      cfgBit s lGAL 0x114 0 = true ∧ (pnt s 0).core.st = 6#3) ∧
    (∃ s : State, galRuns s = true ∧ s.gal.pts.all (fun e => e.2.wait.isNone) = true ∧ reaches s 0#3 lGAL = true ∧ cmdBusy s 0 = false ∧
      cfgBit s lGAL 0x114 8 = true ∧ f32Finite (reg s lGAL 0x200) = true ∧ cfg s lGAL 0x204 3 0 ≤ 11) ∧
    (∃ s : State, reaches s 0#3 lGAL = true ∧ cmdBusy s 0 = false ∧ cfgBit s lGAL 0x218 31 = false) ∧
    (∃ s : State, reaches s 1#3 lGAL = true ∧ cmdBusy s 1 = false ∧ s.pinLocked = true ∧ (hdr s lGAL).frozen = true) :=
  ⟨⟨wOn, 0#3, by decide⟩,
   ⟨wGal 1#3, by decide⟩,
   ⟨wGal 3#3, by decide⟩,
   ⟨wGal 1#3, by decide⟩,
   ⟨wGal 0#3, by decide⟩,
   ⟨wGal 4#3, by decide⟩,
   ⟨wGal 0#3, by decide⟩,
   ⟨wGal 6#3, by decide⟩,
   ⟨wGal 0#3, by decide⟩,
   ⟨wOn, by decide⟩,
   ⟨wHdr lGAL (fun h => { h with frozen := true }) wOn, by decide⟩⟩

theorem witness_GroupingCommandsComplete :
    (∃ (s : State) (c : ChgItem) (rest : List ChgItem), grpRuns s = true ∧ s.grp.locals = c :: rest) ∧
    (∃ (s : State) (p : BitVec 23), grpRuns s = true ∧ cstate s p.toNat = 2#2 ∧ causeOf s p.toNat = none) ∧
    (∃ (s : State) (p : BitVec 23) (i : Nat), grpRuns s = true ∧ cstate s p.toNat = 2#2 ∧ causeOf s p.toNat = some i) ∧
    (∃ (s : State) (g : BitVec 16), grpRuns s = true ∧ (grpHdr s g.toNat).fo = 1#2 ∧ s.grp.master = false) ∧
    (∃ (s : State) (g : BitVec 16), grpRuns s = true ∧ (grpHdr s g.toNat).fo = 1#2 ∧ s.grp.master = true) ∧
    (∃ (s : State) (p : Nat) (rest : List Nat), works s lGRP = true ∧ (hdr s lGRP).freeze = false ∧ s.gal.vreq = p :: rest) ∧
    (∃ (s : State) (c : Ctx), owns s c lGRP = true ∧ (hdr s lGRP).frozen = true) ∧
    (∃ (s : State) (c : Ctx), owns s c lGRP = true ∧ (hdr s lGRP).frozen = false) ∧
    (∃ (s : State) (c : Ctx), mayRd s c lGRP = true) ∧
    (∃ (s : State) (c : Ctx) (e : BitVec 24), pathOk s c = true ∧ unitOn s lGRP = true ∧ domOn s dDRAM = true ∧ s.pinLocked = true ∧
      4 * e.toNat + 4 ≤ graphSize s ∧ (hdr s lGRP).frozen = true ∧ c.toNat ≤ 1) ∧
    (∃ (s : State) (c : Ctx) (e : BitVec 24), pathOk s c = true ∧ unitOn s lGRP = true ∧ domOn s dDRAM = true ∧ s.pinLocked = true ∧
      4 * e.toNat + 4 ≤ graphSize s ∧ ((hdr s lGRP).frozen = false ∨ 1 < c.toNat)) ∧
    (∃ (s : State) (c : Ctx), pathOk s c = true ∧ unitOn s lGRP = true ∧ domOn s dDRAM = true ∧ s.pinLocked = true) ∧
    (∃ (s : State), works s lGRP = true ∧ s.grp.rebuild = true ∧ s.grp.due = []) ∧
    (∃ (s : State) (c : Ctx), owns s c lGRP = true) :=
  ⟨⟨{ wOn with grp := { wOn.grp with locals := [wItemChg] } }, wItemChg, [], by decide⟩,
   ⟨{ wOn with grp := { wOn.grp with cstate := [(1, 2#2)] } }, 1#23, by decide⟩,
   ⟨wReg [(lGRP, 0x118, 1#32)] { wOn with grp := { wOn.grp with cstate := [(1, 2#2)], causes := [(0, 0x80000001#32)] } }, 1#23, 0,
     by decide⟩,
   ⟨{ wOn with grp := { wOn.grp with grps := [(0, { fo := 1#2 })] } }, 0#16, by decide⟩,
   ⟨{ wOn with grp := { wOn.grp with grps := [(0, { fo := 1#2 })], master := true } }, 0#16, by decide⟩,
   ⟨{ wOn with gal := { wOn.gal with vreq := [0] } }, 0, [], by decide⟩,
   ⟨wHdr lGRP (fun h => { h with frozen := true }) wOn, 0#3, by decide⟩,
   ⟨wOn, 0#3, by decide⟩,
   ⟨wOn, 0#3, by decide⟩,
   ⟨wReg [(lDMA, 0x190, 0x200000#32)] (wHdr lGRP (fun h => { h with frozen := true }) wOn), 1#3, 0x7FFFF#24, by decide⟩,
   ⟨wReg [(lDMA, 0x190, 0x200000#32)] wOn, 2#3, 0#24, by decide⟩,
   ⟨wOn, 0#3, by decide⟩,
   ⟨{ wOn with grp := { wOn.grp with rebuild := true } }, by decide⟩,
   ⟨wOn, 0#3, by decide⟩⟩

theorem witness_AlarmMessagesReceived :
    (∃ (s : State), domOn s dNET = true ∧ alive s lGRP = true) ∧
    (∃ (s : State) (m : List Byte), (domOn s dNET = true ∧ alive s lGRP = true) ∧ 24 ≤ m.length ∧ leNat (m.take 1) = 1 ∧
      leNat ((m.drop 2).take 2) = m.length ∧ bodyOk (leNat ((m.drop 1).take 1)) (m.drop 24).length = true ∧
      bitsOf (leNat ((m.drop 4).take 2)) 11 0 ≠ nodeId s ∧ leNat ((m.drop 1).take 1) = 1) ∧
    (∃ (s : State) (m : List Byte), (domOn s dNET = true ∧ alive s lGRP = true) ∧ 24 ≤ m.length ∧ leNat (m.take 1) = 1 ∧
      leNat ((m.drop 2).take 2) = m.length ∧ bodyOk (leNat ((m.drop 1).take 1)) (m.drop 24).length = true ∧
      bitsOf (leNat ((m.drop 4).take 2)) 11 0 ≠ nodeId s ∧ leNat ((m.drop 1).take 1) = 2) ∧
    (∃ (s : State) (m : List Byte), (domOn s dNET = true ∧ alive s lGRP = true) ∧ 24 ≤ m.length ∧ leNat (m.take 1) = 1 ∧
      leNat ((m.drop 2).take 2) = m.length ∧ bodyOk (leNat ((m.drop 1).take 1)) (m.drop 24).length = true ∧
      bitsOf (leNat ((m.drop 4).take 2)) 11 0 ≠ nodeId s ∧ leNat ((m.drop 1).take 1) = 3) ∧
    (∃ (s : State) (m : List Byte), (domOn s dNET = true ∧ alive s lGRP = true) ∧ 24 ≤ m.length ∧ leNat (m.take 1) = 1 ∧
      leNat ((m.drop 2).take 2) = m.length ∧ bodyOk (leNat ((m.drop 1).take 1)) (m.drop 24).length = true ∧
      bitsOf (leNat ((m.drop 4).take 2)) 11 0 ≠ nodeId s ∧ leNat ((m.drop 1).take 1) = 5) ∧
    (∃ (s : State) (m : List Byte), (domOn s dNET = true ∧ alive s lGRP = true) ∧ 24 ≤ m.length ∧ leNat (m.take 1) = 1 ∧
      leNat ((m.drop 2).take 2) = m.length ∧ bodyOk (leNat ((m.drop 1).take 1)) (m.drop 24).length = true ∧
      bitsOf (leNat ((m.drop 4).take 2)) 11 0 ≠ nodeId s ∧ leNat ((m.drop 1).take 1) = 6) ∧
    (∃ (s : State) (m : List Byte), (domOn s dNET = true ∧ alive s lGRP = true) ∧ 24 ≤ m.length ∧ leNat (m.take 1) = 1 ∧
      leNat ((m.drop 2).take 2) = m.length ∧ bodyOk (leNat ((m.drop 1).take 1)) (m.drop 24).length = true ∧
      bitsOf (leNat ((m.drop 4).take 2)) 11 0 ≠ nodeId s ∧ leNat ((m.drop 1).take 1) = 4 ∧ leNat ((m.drop 24).take 2) = 0xFFFF ∧
      standby s = false) ∧
    (∃ (s : State) (m : List Byte), (domOn s dNET = true ∧ alive s lGRP = true) ∧ 24 ≤ m.length ∧ leNat (m.take 1) = 1 ∧
      leNat ((m.drop 2).take 2) = m.length ∧ bodyOk (leNat ((m.drop 1).take 1)) (m.drop 24).length = true ∧
      bitsOf (leNat ((m.drop 4).take 2)) 11 0 ≠ nodeId s ∧ leNat ((m.drop 1).take 1) = 0x10) ∧
    (∃ (s : State) (m : List Byte), (domOn s dNET = true ∧ alive s lGRP = true) ∧ 24 ≤ m.length ∧ leNat (m.take 1) = 1 ∧
      leNat ((m.drop 2).take 2) = m.length ∧ bodyOk (leNat ((m.drop 1).take 1)) (m.drop 24).length = true ∧
      bitsOf (leNat ((m.drop 4).take 2)) 11 0 ≠ nodeId s ∧ leNat ((m.drop 1).take 1) = 0x11) ∧
    (∃ (s : State) (m : List Byte), (domOn s dNET = true ∧ alive s lGRP = true) ∧ 24 ≤ m.length ∧ leNat (m.take 1) = 1 ∧
      leNat ((m.drop 2).take 2) = m.length ∧ bodyOk (leNat ((m.drop 1).take 1)) (m.drop 24).length = true ∧
      bitsOf (leNat ((m.drop 4).take 2)) 11 0 ≠ nodeId s ∧ leNat ((m.drop 1).take 1) = 0x12 ∧ leNat ((m.drop 24).take 2) ≠ nodeId s ∧
      s.grp.masterNode ≠ some 4095) ∧
    (∃ (s : State) (m : List Byte), domOn s dNET = true ∧ alive s lGRP = true ∧ leNat (m.take 1) ≠ 1) :=
  ⟨⟨wOn, by decide⟩,
   ⟨wOn, wMsg 1 4095 16 [], by decide +kernel⟩,
   ⟨wOn, wMsg 2 4095 24 [], by decide +kernel⟩,
   ⟨wOn, wMsg 3 4095 16 [], by decide +kernel⟩,
   ⟨wOn, wMsg 5 4095 16 [], by decide +kernel⟩,
   ⟨wOn, wMsg 6 4095 260 [], by decide +kernel⟩,
   ⟨wOn, wMsg 4 4095 4 [0xFF#8, 0xFF#8], by decide +kernel⟩,
   ⟨wOn, wMsg 0x10 4095 8 [], by decide +kernel⟩,
   ⟨wOn, wMsg 0x11 4095 4 [], by decide +kernel⟩,
   ⟨wOn, wMsg 0x12 4095 4 [1#8], by decide +kernel⟩,
   ⟨wOn, [], by decide⟩⟩

theorem witness_AlarmTransportCommandsComplete :
    (∃ (s : State) (r : TxRec), publishes s = true ∧ alive s lGRP = true ∧ domOn s dNET = true ∧ s.grp.txq = [r] ∧ r.typ ≠ 3) ∧
    (∃ (s : State), (hdr s lGRP).en = true ∧ unitOn s lGRP = true ∧ domOn s dNET = true ∧ s.pwr.phase ≠ .powerFail) ∧
    (∃ (s : State) (n : Nat) (v : Node), alive s lGRP = true ∧ s.grp.nodes = [(n, v)] ∧ v.asked = true ∧ v.lost = false ∧
      (s.grp.allAsked = false ∨ v.seen = true)) ∧
    (∃ (s : State), alive s lGRP = true ∧ publishes s = true ∧ s.grp.snapDue = true ∧ s.gal.pts = []) ∧
    (∃ (s : State) (n : BitVec 12), alive s lGRP = true ∧ (node s n.toNat).seen = true ∧ (node s n.toNat).lost = false ∧
      cfgBit s lGRP 0x100 16 = false ∧ s.grp.masterNode ≠ some n.toNat) ∧
    (∃ (s : State), alive s lGRP = true ∧ s.grp.started = true) ∧
    (∃ (s : State), s.grp.claimWait = true ∧ s.grp.masterNode = none ∧ eligible s = true ∧ ranksFirst s = true) ∧
    (∃ (s : State) (c : Ctx), owns s c lGRP = true ∧ alive s lGRP = true ∧ s.grp.master = false) ∧
    (∃ (s : State) (c : Ctx) (n : Nat), owns s c lGRP = true ∧ alive s lGRP = true ∧ s.grp.master = true ∧ nextMaster s = some n) ∧
    (∃ (s : State) (c : Ctx), owns s c lGRP = true ∧ s.grp.yielded = true) ∧
    (∃ (s : State) (c : Ctx), owns s c lGRP = true ∧ alive s lGRP = true ∧ s.grp.nodes = []) ∧
    (∃ (s : State) (x : Ctx), reaches s x lGRP = true ∧ alive s lGRP = true ∧ nackBusy s x.toNat = false) :=
  ⟨⟨{ wOn with grp := { wOn.grp with txq := [{ typ := 1, body := [] }] } }, { typ := 1, body := [] }, by decide⟩,
   ⟨wOn, by decide⟩,
   ⟨{ wOn with grp := { wOn.grp with nodes := [(0, { seen := true, asked := true })] } }, 0, { seen := true, asked := true }, by decide⟩,
   ⟨{ wOn with grp := { wOn.grp with snapDue := true } }, by decide⟩,
   ⟨wReg [(lGRP, 0x100, 0#32)] { wOn with grp := { wOn.grp with nodes := [(0, { seen := true })] } }, 0#12, by decide⟩,
   ⟨{ wOn with grp := { wOn.grp with started := true } }, by decide⟩,
   ⟨wReg [(lGRP, 0x104, 0x10000#32)] { wOn with grp := { wOn.grp with claimWait := true, syncTmo := true } }, by decide⟩,
   ⟨wOn, 0#3, by decide⟩,
   ⟨{ wOn with grp := { wOn.grp with master := true, nodes := [(1, { seen := true, m0 := { at0 := some 0, flags := 9#8 } })] } }, 0#3, 1,
     by decide⟩,
   ⟨{ wOn with grp := { wOn.grp with yielded := true } }, 0#3, by decide⟩,
   ⟨wOn, 0#3, by decide⟩,
   ⟨wOn, 0#3, by decide⟩⟩

theorem witness_EchoCommandsComplete :
    (∃ (s : State) (c : ChgItem) (k : Nat) (rest : List EchoIn), echoRuns s = true ∧ s.echo.inq = .point c k :: rest) ∧
    (∃ (s : State) (g : Nat) (k : Nat) (term : Bool) (rose : Bool) (rest : List EchoIn), echoRuns s = true ∧
      s.echo.inq = .group g k term rose :: rest) ∧
    (∃ (s : State) (k : Fin 17), callsRun s = true ∧ (hdr s lECHO).frozen = false ∧ (call s k.val).st = 1#2 ∧
      (call s k.val).stage.toNat < 4) ∧
    (∃ (s : State), framesRun s = true) ∧
    (∃ (s : State) (x : BitVec 1) (a : Nat) (r : CuReply), framesRun s = true ∧ lineFault (callLine s x.toNat) = false ∧
      (callLine s x.toNat).poll = some a ∧ crc8 13 (256 * a + r.stat.toNat) = r.crc.toNat) ∧
    (∃ (s : State) (x : BitVec 1) (a : Nat), framesRun s = true ∧ lineFault (callLine s x.toNat) = false ∧
      (callLine s x.toNat).poll = some a) ∧
    (∃ (s : State) (x : BitVec 1), alive s lECHO = true ∧ (List.range 32).any (fun a => cuEnabled s (32 * x.toNat + a)) = true ∧
      (callLine s x.toNat).opened = false) ∧
    (∃ (s : State) (x : BitVec 1), alive s lECHO = true ∧ (callLine s x.toNat).short = false) ∧
    (∃ (s : State) (x : BitVec 1), alive s lECHO = true ∧ (callLine s x.toNat).short = true) ∧
    (∃ (s : State) (x : BitVec 1), alive s lECHO = true ∧ lineFault (callLine s x.toNat) = true ∧ (callLine s x.toNat).off = false) ∧
    (∃ (s : State), domOn s dAON = true ∧ domOn s dGAL = true ∧ standby s = false ∧ callsRun s = false ∧ s.echo.dm.slept = false ∧
      s.echo.dm.st = 1#2) ∧
    (∃ (s : State), domOn s dAON = true ∧ domOn s dGAL = true ∧ standby s = false ∧ callsRun s = false ∧ s.echo.dm.slept = false ∧
      s.echo.dm.st = 2#2) ∧
    (∃ (s : State), domOn s dAON = true ∧ domOn s dGAL = true ∧ callsRun s = true ∧ s.echo.dm.st = 1#2 ∧ s.echo.dm.owedExp = false) ∧
    (∃ (s : State), domOn s dAON = true ∧ domOn s dGAL = true ∧ callsRun s = true ∧ s.echo.dm.st = 2#2 ∧ s.echo.dm.owedPrew = false ∧
      (call s 16).st = 0#2) ∧
    (∃ (s : State), domOn s dAON = true ∧ domOn s dGAL = false ∧ standby s = false ∧ s.echo.dm.st = 1#2) ∧
    (∃ (s : State), domOn s dAON = true ∧ domOn s dGAL = false ∧ standby s = false ∧ s.echo.dm.st = 2#2) ∧
    (∃ (s : State) (x : Ctx), reaches s x lECHO = true ∧ alive s lECHO = true ∧ (hdr s lECHO).freeze = false ∧ standby s = false) ∧
    (∃ (s : State), alive s lECHO = true) ∧
    (∃ s : State, reaches s 7#3 lECHO = true ∧ alive s lECHO = true ∧ (hdr s lECHO).freeze = false ∧ standby s = false ∧
      cfgBit s lECHO 0x110 7 = true ∧ (call s 16).st = 1#2) ∧
    (∃ s : State, reaches s 7#3 lECHO = true ∧ alive s lECHO = true ∧ (hdr s lECHO).freeze = false ∧ standby s = false ∧
      cfgBit s lECHO 0x110 15 = true ∧ s.echo.dm.st ≠ 0#2) ∧
    (∃ s : State, reaches s 7#3 lECHO = true ∧ alive s lECHO = true ∧ (hdr s lECHO).freeze = false ∧ standby s = false ∧
      cfgBit s lECHO 0x110 15 = true ∧ 64 ≤ cfg s lECHO 0x10C 6 0 ∧ s.echo.dm.st = 0#2) ∧
    (∃ s : State, reaches s 7#3 lECHO = true ∧ alive s lECHO = true ∧ (hdr s lECHO).freeze = false ∧ standby s = false ∧
      cfgBit s lECHO 0x110 15 = true ∧ 64 ≤ cfg s lECHO 0x10C 6 0 ∧ s.echo.dm.st ≠ 0#2) ∧
    (∃ s : State, reaches s 7#3 lECHO = true ∧ alive s lECHO = true ∧ (hdr s lECHO).freeze = false ∧ standby s = false ∧
      cfgBit s lECHO 0x110 23 = true) :=
  ⟨⟨{ wOn with echo := { wOn.echo with inq := [.point wItemChg 0] } }, wItemChg, 0, [], by decide⟩,
   ⟨{ wOn with echo := { wOn.echo with inq := [.group 0 0 false false] } }, 0, 0, false, false, [], by decide⟩,
   ⟨{ wOn with echo := { wOn.echo with calls := [(0, { st := 1#2, stage := 3#3 })] } }, 0, by decide⟩,
   ⟨wOn, by decide⟩,
   ⟨{ wOn with echo := { wOn.echo with a := { poll := some 0 } } }, 0#1, 0, { stat := 0#8, crc := 0#8 }, by decide⟩,
   ⟨{ wOn with echo := { wOn.echo with a := { poll := some 0 } } }, 0#1, 0, by decide⟩,
   ⟨wReg [(lECHO, 0x100, 1#32), (lECHO, 0x400, 1#32)] wOn, 0#1, by decide⟩,
   ⟨wOn, 0#1, by decide⟩,
   ⟨{ wOn with echo := { wOn.echo with a := { short := true } } }, 0#1, by decide⟩,
   ⟨{ wOn with echo := { wOn.echo with a := { short := true } } }, 0#1, by decide⟩,
   ⟨{ wOn with echo := { wOn.echo with dm := { st := 1#2 } }, pwr := { wOn.pwr with released := false } }, by decide⟩,
   ⟨{ wOn with echo := { wOn.echo with dm := { st := 2#2 } }, pwr := { wOn.pwr with released := false } }, by decide⟩,
   ⟨{ wOn with echo := { wOn.echo with dm := { st := 1#2 } } }, by decide⟩,
   ⟨{ wOn with echo := { wOn.echo with dm := { st := 2#2 } } }, by decide⟩,
   ⟨{ wOn with echo := { wOn.echo with dm := { st := 1#2 } }, pwr := { wOn.pwr with doms := 2#16 } }, by decide⟩,
   ⟨{ wOn with echo := { wOn.echo with dm := { st := 2#2 } }, pwr := { wOn.pwr with doms := 2#16 } }, by decide⟩,
   ⟨wOn, 0#3, by decide⟩,
   ⟨wOn, by decide⟩,
   ⟨{ wEcho with echo := { wEcho.echo with calls := [(16, { st := 1#2 })] } }, by decide⟩,
   ⟨{ wEcho with echo := { wEcho.echo with dm := { st := 3#2 } } }, by decide⟩,
   ⟨wEcho, by decide⟩,
   ⟨{ wEcho with echo := { wEcho.echo with dm := { st := 3#2 } } }, by decide⟩,
   ⟨wEcho, by decide⟩⟩

theorem witness_DigitalInputCommandsComplete :
    (∃ (s : State) (n : BitVec 6) (mv : BitVec 16), diOn s n.toNat = true ∧ (diCh s n.toNat).wb = false ∧ works s lFIO = true ∧
      (diCh s n.toNat).filt ≠ (decide ((if bit (diCfg s n.toNat) 1 then 9000 else 12500) ≤ mv.toNat) || (decide ((if bit (diCfg s n.toNat) 1 then 7000 else 10000) < mv.toNat) && (diCh s n.toNat).raw))) ∧
    (∃ (s : State) (n : BitVec 6) (mv : BitVec 16), diOn s n.toNat = true ∧ (diCh s n.toNat).wb = false ∧ works s lFIO = true ∧
      (diCh s n.toNat).filt = (decide ((if bit (diCfg s n.toNat) 1 then 9000 else 12500) ≤ mv.toNat) || (decide ((if bit (diCfg s n.toNat) 1 then 7000 else 10000) < mv.toNat) && (diCh s n.toNat).raw)) ∧
      (diCh s n.toNat).first = true) ∧
    (∃ (s : State) (n : BitVec 6) (mv : BitVec 16), diOn s n.toNat = true ∧ (diCh s n.toNat).wb = false ∧ works s lFIO = true ∧
      (diCh s n.toNat).filt = (decide ((if bit (diCfg s n.toNat) 1 then 9000 else 12500) ≤ mv.toNat) || (decide ((if bit (diCfg s n.toNat) 1 then 7000 else 10000) < mv.toNat) && (diCh s n.toNat).raw)) ∧
      (diCh s n.toNat).first = false) ∧
    (∃ (s : State) (n : BitVec 6), diOn s n.toNat = true ∧ (diCh s n.toNat).wb = false ∧ alive s lFIO = true ∧ (hdr s lFIO).frozen = true) ∧
    (∃ (s : State) (n : BitVec 6), works s lFIO = true ∧ diOn s n.toNat = true ∧ bit (diCfg s n.toNat) 2 = true ∧
      (diCh s n.toNat).wb = false) ∧
    (∃ (s : State) (n : BitVec 6), works s lFIO = true ∧ diOn s n.toNat = true ∧ (diCh s n.toNat).wb = true) ∧
    (∃ (s : State) (n : BitVec 3) (b : Bool), alive s lFIO = true ∧ diOn s n.toNat = true ∧ edgeCounts s b = true) ∧
    (∃ (s : State) (n : BitVec 3), works s lFIO = true ∧ diOn s n.toNat = true ∧ (diCh s n.toNat).gateN < 2) ∧
    (∃ (s : State) (n : BitVec 3), works s lFIO = true ∧ diOn s n.toNat = true ∧ 2 ≤ (diCh s n.toNat).gateN ∧
      (diCh s n.toNat).gateFirst.toNat < (diCh s n.toNat).gateLast.toNat) ∧
    (∃ (s : State) (n : BitVec 3), alive s lFIO = true ∧ (hdr s lFIO).frozen = true ∧ diOn s n.toNat = true) ∧
    (∃ (s : State) (n : BitVec 3), s.fio.wakeEn.getLsbD n.toNat = true ∧ s.pwr.pstate = .sleep ∧ s.pwr.phase = .run) :=
  ⟨⟨wReg [(lFIO, 0x100, 1#32), (lFIO, 0x200, 5#32)] { wOn with fio := { wOn.fio with di := [(0, { filt := true })] } }, 0#6, 0#16,
     by decide⟩,
   ⟨wReg [(lFIO, 0x100, 1#32), (lFIO, 0x200, 5#32)] { wOn with fio := { wOn.fio with di := [(0, { first := true })] } }, 0#6, 0#16,
     by decide⟩,
   ⟨wReg [(lFIO, 0x100, 1#32), (lFIO, 0x200, 5#32)] wOn, 0#6, 0#16, by decide⟩,
   ⟨wReg [(lFIO, 0x100, 1#32), (lFIO, 0x200, 5#32)] (wHdr lFIO (fun h => { h with frozen := true }) wOn), 0#6, by decide⟩,
   ⟨wReg [(lFIO, 0x100, 1#32), (lFIO, 0x200, 5#32)] { wOn with fio := { wOn.fio with di := [(0, { first := true })] } }, 0#6, by decide⟩,
   ⟨wReg [(lFIO, 0x100, 1#32), (lFIO, 0x200, 5#32)] { wOn with fio := { wOn.fio with di := [(0, { wb := true })] } }, 0#6, by decide⟩,
   ⟨wReg [(lFIO, 0x100, 1#32), (lFIO, 0x200, 5#32)] wOn, 0#3, true, by decide⟩,
   ⟨wReg [(lFIO, 0x100, 1#32), (lFIO, 0x200, 5#32)] wOn, 0#3, by decide⟩,
   ⟨wReg [(lFIO, 0x100, 1#32), (lFIO, 0x200, 5#32)] { wOn with fio := { wOn.fio with di := [(0, { gateN := 2, gateLast := 1#64 })] } },
     0#3, by decide⟩,
   ⟨wReg [(lFIO, 0x100, 1#32), (lFIO, 0x200, 5#32)] (wHdr lFIO (fun h => { h with frozen := true }) wOn), 0#3, by decide⟩,
   ⟨{ wOn with fio := { wOn.fio with wakeEn := 1#8 }, pwr := { wOn.pwr with pstate := .sleep } }, 0#3, by decide⟩⟩

theorem witness_OutputCommandsComplete :
    (∃ (s : State), works s lFIO = true ∧ (hdr s lFIO).pend = none) ∧
    (∃ (s : State) (c : Ctx), owns s c lFIO = true) ∧
    (∃ (s : State) (c : Ctx), owns s c lFIO = true) ∧
    (∃ (s : State) (n : BitVec 5), readsBack s n.toNat = true ∧ (doCh s n.toNat).rbErr = false) ∧
    (∃ (s : State) (n : BitVec 5), readsBack s n.toNat = true ∧ (doCh s n.toNat).rbErr = true) ∧
    (∃ (s : State) (n : BitVec 5), doCmd s n.toNat ≠ .off) ∧
    (∃ (s : State) (c : Ctx), owns s c lFIO = true) ∧
    (∃ (s : State) (n : BitVec 5), alive s lFIO = true ∧ bit (doCfg s n.toNat) 7 = true ∧ (doCh s n.toNat).tripped = true) ∧
    (∃ (s : State) (n : BitVec 5), works s lFIO = true ∧ bit (doCfg s n.toNat) 6 = true ∧ steadyHigh (doCmd s n.toNat) = true ∧
      s.fio.sup.getLsbD (n.toNat / 8) = false ∧ (doCh s n.toNat).openLoad = false) ∧
    (∃ (s : State) (n : BitVec 5), works s lFIO = true ∧ s.fio.sup.getLsbD (n.toNat / 8) = false ∧ (doCh s n.toNat).openLoad = true) ∧
    (∃ (s : State) (b : Fin 6), supplyWatched s b.val = true ∧ s.fio.sup.getLsbD b.val = false) ∧
    (∃ (s : State) (b : Fin 6), alive s lFIO = true ∧ s.fio.sup.getLsbD b.val = true) ∧
    (∃ (s : State) (n : BitVec 4) (x : Nat), aoCode s n.toNat = some x ∧ bit (aoCfg s n.toNat) 2 = true ∧ (aoCh s n.toNat).short = false) ∧
    (∃ (s : State) (n : BitVec 4) (x : Nat), works s lFIO = true ∧ aoCode s n.toNat = some x ∧ bit (aoCfg s n.toNat) 2 = false ∧
      bit (aoCfg s n.toNat) 3 = true ∧ (aoCh s n.toNat).loopBreak = false) ∧
    (∃ (s : State), alive s lFIO = true) ∧
    (∃ (s : State) (c : Ctx) (v : Word), reaches s c lFIO = true ∧ cfgBit s lFIO 0x100 (24 + c.toNat) = true ∧
      (s.fio.lock = none ∨ s.fio.lock = some c) ∧ 1 ≤ fld (v ||| 0x80000000#32) 27 16 ∧ fld (v ||| 0x80000000#32) 27 16 ≤ 3600) ∧
    (∃ (s : State) (c : Ctx), reaches s c lFIO = true ∧ cfgBit s lFIO 0x100 (24 + c.toNat) = true ∧ s.fio.lock = some c) ∧
    (∃ (s : State), alive s lFIO = true ∧ s.fio.lock ≠ none) ∧
    (∃ (s : State) (c : Ctx), reaches s c lFIO = true ∧ s.fio.lock = some c) ∧
    (∃ (s : State) (c : Ctx), reaches s c lFIO = true ∧ s.fio.lock = some c) :=
  ⟨⟨wOn, by decide⟩,
   ⟨wOn, 0#3, by decide⟩,
   ⟨wOn, 0#3, by decide⟩,
   ⟨wReg [(lFIO, 0x100, 0x1100#32), (lFIO, 0x300, 0x41#32), (lFIO, 0x120, 1#32)] wOn, 0#5, by decide⟩,
   ⟨wReg [(lFIO, 0x100, 0x1100#32), (lFIO, 0x300, 0x41#32), (lFIO, 0x120, 1#32)] { wOn with fio := { wOn.fio with dout := [(0, { rbErr := true })] } },
     0#5, by decide⟩,
   ⟨wReg [(lFIO, 0x100, 0x1100#32), (lFIO, 0x300, 0x41#32), (lFIO, 0x120, 1#32)] wOn, 0#5, by decide⟩,
   ⟨wOn, 0#3, by decide⟩,
   ⟨wReg [(lFIO, 0x300, 0x80#32)] { wOn with fio := { wOn.fio with dout := [(0, { tripped := true })] } }, 0#5, by decide⟩,
   ⟨wReg [(lFIO, 0x100, 0x1100#32), (lFIO, 0x300, 0x41#32), (lFIO, 0x120, 1#32)] wOn, 0#5, by decide⟩,
   ⟨{ wOn with fio := { wOn.fio with dout := [(0, { openLoad := true })] } }, 0#5, by decide⟩,
   ⟨wReg [(lFIO, 0x100, 0x1100#32), (lFIO, 0x300, 0x41#32), (lFIO, 0x120, 1#32)] wOn, 0, by decide⟩,
   ⟨{ wOn with fio := { wOn.fio with sup := 1#6 } }, 0, by decide⟩,
   ⟨wReg [(lFIO, 0x100, 0x1100#32), (lFIO, 0x500, 5#32)] wOn, 0#4, 0, by decide⟩,
   ⟨wReg [(lFIO, 0x100, 0x1100#32), (lFIO, 0x500, 9#32)] wOn, 0#4, 0, by decide⟩,
   ⟨wReg [(lFIO, 0x100, 0x01000000#32)] wOn, by decide⟩,
   ⟨wReg [(lFIO, 0x100, 0x01000000#32)] wOn, 0#3, 0x0E100000#32, by decide⟩,
   ⟨{ wOn with fio := { wOn.fio with lock := some 0#3 } }, 0#3, by decide⟩,
   ⟨{ wOn with fio := { wOn.fio with lock := some 0#3 } }, by decide⟩,
   ⟨{ wOn with fio := { wOn.fio with lock := some 0#3 } }, 0#3, by decide⟩,
   ⟨{ wOn with fio := { wOn.fio with lock := some 0#3 } }, 0#3, by decide⟩⟩

theorem witness_LoopCommandsComplete :
    (∃ (s : State), loopRuns s = true ∧ (hdr s lLOOP).freeze = false ∧ (hdr s lLOOP).pend = none) ∧
    (∃ (s : State), loopRuns s = true ∧ (hdr s lLOOP).freeze = true) ∧
    (∃ (s : State) (n : BitVec 6), slotEnters s n.toNat = true ∧ (slot s n.toNat).old = [] ∧ slotRel s n.toNat = true) ∧
    (∃ (s : State) (n : BitVec 6), slotEnters s n.toNat = true ∧ (slot s n.toNat).old = [] ∧ (slot s n.toNat).early = [] ∧
      slotRel s n.toNat = false ∧ sFbKind s n.toNat = 0 ∧ sSpec s n.toNat = true ∧ (slot s n.toNat).core.held = none) ∧
    (∃ (s : State) (n : BitVec 6) (m : BitVec 6), slotWaits s m.toNat = true ∧ slotReady s m.toNat = true ∧
      slotBefore s m.toNat n.toNat = true) ∧
    (∃ (s : State) (n : BitVec 6) (x : Sample), alive s lLOOP = true ∧ (slot s n.toNat).evalIn = some x ∧ (slot s n.toNat).early = []) ∧
    (∃ (s : State) (n : BitVec 6) (q : Nat) (r : Option (BitVec 4)) (rest : List (Nat × Option (BitVec 4))), alive s lLOOP = true ∧
      (slot s n.toNat).resIn = (q, r) :: rest ∧ tooEarly s n.toNat q = false) ∧
    (∃ (s : State) (n : BitVec 6) (q : Nat) (r : Option (BitVec 4)) (rest : List (Nat × Option (BitVec 4))), alive s lLOOP = true ∧
      (slot s n.toNat).resIn = (q, r) :: rest ∧ tooEarly s n.toNat q = true) ∧
    (∃ (s : State) (n : BitVec 6), slotWaits s n.toNat = true ∧ runFbKind s n.toNat = 0 ∧ runSpec s n.toNat = false ∧
      slotReady s n.toNat = false ∧ slotEnters (setSlot s n.toNat { slot s n.toNat with late := true, readyAt := s.now }) n.toNat = true ∧
      (slot s n.toNat).old = [] ∧ slotRel s n.toNat = true) ∧
    (∃ (s : State) (n : BitVec 6), slotWaits s n.toNat = true ∧ runFbKind s n.toNat = 0 ∧ runSpec s n.toNat = false ∧
      slotReady s n.toNat = false ∧ slotEnters (setSlot s n.toNat { slot s n.toNat with late := true, readyAt := s.now }) n.toNat = false) ∧
    (∃ (s : State) (n : BitVec 6), loopRuns s = true ∧ (slot s n.toNat).due = true ∧ slotRel s n.toNat = true ∧ (slot s n.toNat).old = []) ∧
    (∃ (s : State) (c : Ctx) (n : BitVec 6) (i : Instr) (op : BitVec 2), owns s c (uSLOT n.toNat) = true ∧ ((i = .loopCmdAuto c n ∧
      op = 1#2) ∨ (i = .loopCmdManual c n ∧ op = 2#2) ∨ (i = .loopCmdTripClr c n ∧ op = 3#2))) ∧
    (∃ (s : State) (c : Ctx) (w : BitVec 16), pathOk s c = true ∧ unitOn s lLOOP = true ∧ s.pinLocked = true ∧ w.toNat < 0x4000 ∧
      bankLocked s (4 * w.toNat / 0x400) (4 * w.toNat / 0x200 % 2) = false) ∧
    (∃ (s : State) (c : Ctx) (w : BitVec 16), pathOk s c = true ∧ unitOn s lLOOP = true ∧ s.pinLocked = true ∧
      (0x4000 ≤ w.toNat ∨ bankLocked s (4 * w.toNat / 0x400) (4 * w.toNat / 0x200 % 2) = true)) :=
  ⟨⟨wOn, by decide⟩,
   ⟨wHdr lLOOP (fun h => { h with freeze := true }) wOn, by decide⟩,
   ⟨wReg [((uSLOT 0), 0x10, 3#32)] { wOn with loop := { slots := [(0, { mode := 1#3, runs := true, arr := some .noSample })] } }, 0#6,
     by decide⟩,
   ⟨wReg [((uSLOT 0), 0x10, 3#32)] { wOn with loop := { slots := [(0, { runs := true, arr := some .noSample })] } }, 0#6, by decide⟩,
   ⟨wReg [((uSLOT 0), 0x10, 3#32)] { wOn with loop := { slots := [(0, { runs := true, arr := some .noSample })] } }, 1#6, 0#6, by decide⟩,
   ⟨{ wOn with loop := { slots := [(0, { evalIn := some wSample })] } }, 0#6, wSample, by decide⟩,
   ⟨{ wOn with loop := { slots := [(0, { resIn := [(0, none)] })] } }, 0#6, 0, none, [], by decide⟩,
   ⟨{ wOn with loop := { slots := [(0, { resIn := [(65536, none)], evalIn := some { wSample with ch := 1 } })] } }, 0#6, 65536, none, [],
     by decide⟩,
   ⟨wReg [((uSLOT 0), 0x10, 1#32)] { wOn with loop := { slots := [(0, { mode := 1#3, runs := true })] } }, 0#6, by decide⟩,
   ⟨wReg [((uSLOT 0), 0x10, 1#32), ((uSLOT 1), 0x10, 3#32)] { wOn with loop := { slots := [(0, { runs := true }), (1, { runs := true, arr := some .noSample })] } },
     0#6, by decide⟩,
   ⟨{ wOn with loop := { slots := [(0, { mode := 1#3, due := true })] } }, 0#6, by decide⟩,
   ⟨wOn, 0#3, 0#6, .loopCmdAuto 0#3 0#6, 1#2, by decide⟩,
   ⟨wOn, 0#3, 0#16, by decide⟩,
   ⟨wOn, 0#3, 0x4000#16, by decide⟩⟩

theorem witness_DisplayCommandsComplete :
    (∃ (s : State), lantScans s = true ∧ works s lLANT = true ∧ (hdr s lLANT).pend = none ∧ s.lant.commits = [] ∧ s.lant.updates = []) ∧
    (∃ (s : State) (c : Ctx) (v : Word), owns s c lLANT = true ∧ bit v 31 = true ∧ bit v 15 = false) ∧
    (∃ (s : State) (c : Ctx) (v : Word), owns s c lLANT = true ∧ bit v 31 = true ∧ bit v 15 = true) ∧
    (∃ (s : State) (c : Ctx), owns s c lLANT = true ∧ atSel s = 0) ∧
    (∃ (s : State) (c : Ctx) (v : Word), owns s c lLANT = true ∧ atSel s = 1 ∧ atOk (atStaged s (atEntry s) 0) v = true) ∧
    (∃ (s : State) (c : Ctx) (v : Word), owns s c lLANT = true ∧ atSel s = 1 ∧ atOk (atStaged s (atEntry s) 0) v = false) ∧
    (∃ (s : State) (c : Ctx), owns s c lLANT = true ∧ 2 ≤ atSel s) ∧
    (∃ (s : State) (c : Ctx), owns s c lLANT = true) ∧
    (∃ (s : State), present s lLANT = true) ∧
    (∃ (s : State) (r : BitVec 5) (l : BitVec 2), updMay s = true ∧ bEn s r.toNat = true ∧ (bReg s r.toNat).run = false ∧
      (bReg s r.toNat).steps = [] ∧ (bReg s r.toNat).begun = true ∧ (bReg s r.toNat).pend = some l ∧ l ≠ (bReg s r.toNat).shown) ∧
    (∃ (s : State) (r : BitVec 5), stepRuns s r.toNat = true) ∧
    (∃ (s : State), calcMay s = true ∧ s.bist.recovered = false ∧ s.bist.recovery = false ∧ s.grot.calcOk = false) ∧
    (∃ (s : State), calcMay s = true ∧ s.bist.recovered = false ∧ s.bist.recovery = false ∧ s.grot.calcOk = true) ∧
    (∃ (s : State), s.bist.recovery = true ∧ calcOn s = true ∧ s.pwr.fail = false ∧ regionsOn s = []) ∧
    (∃ (s : State), calcMay s = true ∧ initDone s = true ∧ regionsOn s ≠ [] ∧ s.bist.stale = true) ∧
    (∃ (s : State) (c : Ctx) (r : BitVec 5) (v : Word), owns s c lBIST = true ∧ bSrc s r.toNat = true ∧ bit v 31 = true) ∧
    (∃ (s : State) (c : Ctx) (r : BitVec 5), owns s c lBIST = true ∧ bSrc s r.toNat = false) ∧
    (∃ (s : State) (c : Ctx), owns s c lBIST = true ∧ cfg s lBIST 0x10C 3 0 ∉ wfNamed s) ∧
    (∃ (s : State) (c : Ctx), owns s c lBIST = true ∧ cfg s lBIST 0x10C 3 0 ∈ wfNamed s) ∧
    (∃ (s : State), present s lBIST = true) :=
  ⟨⟨wOn, by decide⟩,
   ⟨wOn, 0#3, 0x80000000#32, by decide⟩,
   ⟨wOn, 0#3, 0x80008000#32, by decide⟩,
   ⟨wOn, 0#3, by decide⟩,
   ⟨wReg [(lLANT, 0x118, 0x10000#32)] wOn, 0#3, 0#32, by decide⟩,
   ⟨wReg [(lLANT, 0x118, 0x10000#32)] wOn, 0#3, 4#32, by decide⟩,
   ⟨wReg [(lLANT, 0x118, 0x20000#32)] wOn, 0#3, by decide⟩,
   ⟨wReg [(lLANT, 0x118, 0x10000#32)] wOn, 0#3, by decide⟩,
   ⟨wOn, by decide⟩,
   ⟨wReg [(lBIST, 0x200, 1#32)] { wOn with bist := { wOn.bist with recovered := true, regs := [(0, { begun := true, pend := some 1#2 })] } },
     0#5, 1#2, by decide⟩,
   ⟨{ wOn with bist := { wOn.bist with regs := [(0, { steps := [{ wf := 0, p := 0, eighths := 0 }] })] } }, 0#5, by decide⟩,
   ⟨{ wOn with grot := { wOn.grot with calcOk := false } }, by decide⟩,
   ⟨wOn, by decide⟩,
   ⟨{ wOn with bist := { wOn.bist with recovery := true } }, by decide⟩,
   ⟨wReg [(lBIST, 0x200, 1#32)] { wOn with bist := { wOn.bist with recovered := true, stale := true, regs := [(0, { init := true })] } },
     by decide⟩,
   ⟨wReg [(lBIST, 0x200, 1#32), (lBIST, 0x204, 0x100#32)] wOn, 0#3, 0#5, 0x80000000#32, by decide⟩,
   ⟨wOn, 0#3, 0#5, by decide⟩,
   ⟨wReg [(lBIST, 0x10C, 1#32)] wOn, 0#3, by decide⟩,
   ⟨wOn, 0#3, by decide⟩,
   ⟨wOn, by decide⟩⟩

theorem witness_DmaCommandsComplete :
    (∃ (s : State) (q : BitVec 6) (b : List Byte), dmaRuns s = true ∧ (queue s q.toNat).run = none ∧ (hdr s (uQUEUE q.toNat)).pend = none ∧
      qState s q.toNat = 2 ∧ qEvent s q.toNat = false ∧ qHost s q.toNat = true ∧ qHostUp s q.toNat = true ∧ b.length = 32) ∧
    (∃ (s : State) (q : BitVec 6), dmaRuns s = true ∧ (queue s q.toNat).run = none ∧ (hdr s (uQUEUE q.toNat)).pend = none ∧
      qState s q.toNat = 2 ∧ qEvent s q.toNat = false ∧ qHost s q.toNat = true ∧ qHostUp s q.toNat = true) ∧
    (∃ (s : State) (q : BitVec 6) (r : QRun) (b : List Byte), dmaRuns s = true ∧ qState s q.toNat = 2 ∧ qFunc s q.toNat = 0 ∧
      (queue s q.toNat).run = some r ∧ r.code = none ∧ r.prog < r.d.len ∧ bitsOf r.d.ctrl 1 0 = 1 ∧ bitsOf r.d.ctrl 3 2 = 1 ∧
      qHostUp s q.toNat = true ∧ b.length = beatLen (r.d.dst + r.prog) (r.d.len - r.prog)) ∧
    (∃ (s : State) (q : BitVec 6) (r : QRun), dmaRuns s = true ∧ qState s q.toNat = 2 ∧ qFunc s q.toNat = 0 ∧
      (queue s q.toNat).run = some r ∧ r.code = none ∧ r.prog = r.d.len) ∧
    (∃ (s : State) (q : BitVec 6) (r : QRun) (c : Nat), dmaRuns s = true ∧ qState s q.toNat = 2 ∧ (queue s q.toNat).run = some r ∧
      r.code = some c) ∧
    (∃ (s : State) (c : Ctx) (q : BitVec 6), owns s c (uQUEUE q.toNat) = true ∧ (qState s q.toNat = 3 ∨ qState s q.toNat = 4)) ∧
    (∃ (s : State) (c : Ctx) (q : BitVec 6), owns s c (uQUEUE q.toNat) = true ∧ qState s q.toNat ≠ 3 ∧ qState s q.toNat ≠ 4) ∧
    (∃ (s : State) (c : Ctx) (q : BitVec 6) (r : QRun), owns s c (uQUEUE q.toNat) = true ∧ (qState s q.toNat = 3 ∨ qState s q.toNat = 4) ∧
      qFill s q.toNat ≠ 0 ∧ qEvent s q.toNat = false ∧ (queue s q.toNat).run = some r) ∧
    (∃ (s : State) (c : Ctx) (q : BitVec 6), owns s c (uQUEUE q.toNat) = true ∧ qState s q.toNat = 2) ∧
    (∃ (s : State) (c : Ctx) (q : BitVec 6) (v : Word), owns s c (uQUEUE q.toNat) = true ∧ qEvent s q.toNat = false ∧
      (BitVec.ofNat 16 v.toNat - (queue s q.toNat).head).toNat ≤ qDepth s q.toNat ∧
      qFill s q.toNat ≤ (BitVec.ofNat 16 v.toNat - (queue s q.toNat).head).toNat) ∧
    (∃ (s : State) (c : Ctx) (q : BitVec 6) (v : Word), owns s c (uQUEUE q.toNat) = true ∧ qEvent s q.toNat = true ∧
      ((queue s q.toNat).tail - BitVec.ofNat 16 v.toNat).toNat ≤ qFill s q.toNat) ∧
    (∃ (s : State) (c : Ctx) (e : HostEvt) (rest : List HostEvt) (n : Nat), s.evq = e :: rest ∧ e.ctx = c.toNat ∧ domOn s dHOST = true ∧
      eventQueue s c = some n) ∧
    (∃ (s : State) (c : Ctx) (e : HostEvt) (rest : List HostEvt), s.evq = e :: rest ∧ e.ctx = c.toNat ∧ domOn s dHOST = true ∧
      eventQueue s c = none) ∧
    (∃ (s : State) (q : BitVec 6), dmaRuns s = true ∧ qState s q.toNat = 2 ∧ (queue s q.toNat).promoted = false) ∧
    (∃ (s : State) (v : Word), owns s 0#3 lDMA = true ∧ s.pinLocked = false ∧ bit v 0 = true ∧ pinFailure s = 0) ∧
    (∃ (s : State) (v : Word), owns s 0#3 lDMA = true ∧ s.pinLocked = false ∧ bit v 0 = true ∧ pinFailure s ≠ 0) :=
  ⟨⟨wReg [((uQUEUE 0), 0x10, 0x40000001#32)] { wOn with dma := { wOn.dma with q := [(0, { tail := 1#16 })] } }, 0#6, List.replicate 32 0#8,
     by decide⟩,
   ⟨wReg [((uQUEUE 0), 0x10, 0x40000001#32)] { wOn with dma := { wOn.dma with q := [(0, { tail := 1#16 })] } }, 0#6, by decide⟩,
   ⟨wReg [((uQUEUE 0), 0x10, 0x1#32)] { wOn with dma := { wOn.dma with q := [(0, { tail := 1#16, run := some { d := { src := 0, dst := 0, len := 1, ctrl := 5 } } })] } },
     0#6, { d := { src := 0, dst := 0, len := 1, ctrl := 5 } }, [0#8], by decide⟩,
   ⟨wReg [((uQUEUE 0), 0x10, 0x1#32)] { wOn with dma := { wOn.dma with q := [(0, { tail := 1#16, run := some { d := { src := 0, dst := 0, len := 0, ctrl := 0 } } })] } },
     0#6, { d := { src := 0, dst := 0, len := 0, ctrl := 0 } }, by decide⟩,
   ⟨wReg [((uQUEUE 0), 0x10, 0x1#32)] { wOn with dma := { wOn.dma with q := [(0, { tail := 1#16, run := some { d := { src := 0, dst := 0, len := 0, ctrl := 0 }, code := some 1 } })] } },
     0#6, { d := { src := 0, dst := 0, len := 0, ctrl := 0 }, code := some 1 }, 1, by decide⟩,
   ⟨wReg [((uQUEUE 0), 0x10, 0x1#32)] { wOn with dma := { wOn.dma with q := [(0, { tail := 1#16, stopped := true })] } }, 0#3, 0#6,
     by decide⟩,
   ⟨wOn, 0#3, 0#6, by decide⟩,
   ⟨wReg [((uQUEUE 0), 0x10, 0x1#32)] { wOn with dma := { wOn.dma with q := [(0, { tail := 1#16, run := some { d := { src := 0, dst := 0, len := 0, ctrl := 0 } }, faulted := true })] } },
     0#3, 0#6, { d := { src := 0, dst := 0, len := 0, ctrl := 0 } }, by decide⟩,
   ⟨wReg [((uQUEUE 0), 0x10, 0x1#32)] { wOn with dma := { wOn.dma with q := [(0, { tail := 1#16 })] } }, 0#3, 0#6, by decide⟩,
   ⟨wOn, 0#3, 0#6, 0#32, by decide⟩,
   ⟨wReg [((uQUEUE 0), 0x10, 0x50001#32)] { wOn with dma := { wOn.dma with q := [(0, { tail := 1#16 })] } }, 0#3, 0#6, 1#32, by decide⟩,
   ⟨wReg [((uQUEUE 0), 0x10, 0x50001#32)] { wOn with dma := { wOn.dma with q := [(0, { tail := 1#16 })] }, evq := [{ ctx := 0, kind := 1, body := [] }] },
     0#3, { ctx := 0, kind := 1, body := [] }, [], 0, by decide⟩,
   ⟨{ wOn with evq := [{ ctx := 0, kind := 1, body := [] }] }, 0#3, { ctx := 0, kind := 1, body := [] }, [], by decide⟩,
   ⟨wReg [((uQUEUE 0), 0x10, 0x1#32)] { wOn with dma := { wOn.dma with q := [(0, { tail := 1#16 })] } }, 0#6, by decide⟩,
   ⟨wReg [(lDMA, 0x180, 0x20000000#32), (lDMA, 0x184, 0x20020000#32), (lDMA, 0x188, 0x80000000#32)] { wOn with pinLocked := false }, 1#32,
     by decide⟩,
   ⟨{ wOn with pinLocked := false }, 1#32, by decide⟩⟩

theorem witness_HostCommandsComplete :
    (∃ (s : State) (c : Ctx), owns s c lIOMMU = true) ∧
    (∃ (s : State), s.dma.inv ≠ []) ∧
    (∃ (s : State) (p : BitVec 2), s.hostUp.getLsbD p.toNat = true) ∧
    (∃ (s : State) (p : BitVec 2), domOn s dHOST = true ∧ (hdr s (37 + p.toNat)).en = true ∧ cfgBit s (37 + p.toNat) 0x100 0 = true ∧
      s.hostUp.getLsbD p.toNat = false) ∧
    (∃ (s : State) (c : Ctx) (n : BitVec 4), 2 ≤ c.toNat ∧ c.toNat ≤ 5 ∧ 1 ≤ n.toNat ∧ n.toNat ≤ 8 ∧ pathOk s c = true) ∧
    (∃ (s : State) (c : Ctx) (a : DWord) (n : BitVec 4) (t : State) (b : List Byte), 2 ≤ c.toNat ∧ c.toNat ≤ 5 ∧ 1 ≤ n.toNat ∧
      n.toNat ≤ 8 ∧ pathOk s c = true ∧ windowRead { s with rdata := 0#64 } c (winBase s (35 + c.toNat) + a.toNat) n.toNat = (t, some b)) :=
  ⟨⟨wOn, 0#3, by decide⟩,
   ⟨{ wOn with dma := { wOn.dma with inv := [(0, 0, 0)] } }, by decide⟩,
   ⟨wOn, 0#2, by decide⟩,
   ⟨wReg [(37, 0x100, 1#32)] { wOn with hostUp := 0#4 }, 0#2, by decide⟩,
   ⟨wOn, 5#3, 8#4, by decide⟩,
   ⟨{ wOn with pwr := { wOn.pwr with phase := .recovery } }, 4#3, 0#64, 1#4,
     { { wOn with pwr := { wOn.pwr with phase := .recovery } } with rdata := 0#64 }, [0#8], by decide⟩⟩

theorem witness_NetworkCommandsComplete :
    (∃ (s : State), netOn s = true ∧ s.net.linkA = false) ∧
    (∃ (s : State), netOn s = true ∧ s.net.linkB = false) ∧
    (∃ (s : State), netOn s = true ∧ s.net.linkA = true) ∧
    (∃ (s : State), netOn s = true ∧ s.net.linkB = true) ∧
    (∃ (s : State) (up : Bool), netOn s = true ∧ s.net.svcUp = !up) ∧
    (∃ (s : State) (b : List Byte), works s lNET = true ∧ b.length = 24 ∧ b.getD 0 0#8 = 1#8 ∧ b.getD 1 0#8 = 1#8) ∧
    (∃ (s : State) (v : BitVec 8), netOn s = true ∧ nvDir s v.toNat = 1 ∧ (nvEnt s v.toNat).stale = false) ∧
    (∃ (s : State) (c : Ctx) (v : BitVec 8), owns s c lNET = true ∧ nvNamed s v.toNat = false ∧ nvDir s v.toNat = 2) ∧
    (∃ (s : State) (c : Ctx) (v : BitVec 8), owns s c lNET = true ∧ nvNamed s v.toNat = true) ∧
    (∃ (s : State), netOn s = true ∧ (hdr s lNET).frozen = false ∧ s.pwr.degraded = false ∧ standby s = false) ∧
    (∃ (s : State) (f : RingFrame), netOn s = true ∧ s.net.linkA = true ∧ f.fcsOk = false ∧ cfgBit s lNET 0x100 0 = true) ∧
    (∃ (s : State) (f : RingFrame), netOn s = true ∧ s.net.linkB = true ∧ f.fcsOk = false ∧ cfgBit s lNET 0x100 0 = true) ∧
    (∃ (s : State) (f : RingFrame) (m : List Byte), netOn s = true ∧ s.net.linkA = true ∧ f.fcsOk = true ∧ f.src ≠ s.otp.mac ∧
      cfgBit s lNET 0x100 0 = true ∧ f.seq = none ∧ f.kind = .alarm m ∧ toNode (netCount s 0x130) f.dst = true ∧
      vlanTaken (netCount s 0x130) f = true) ∧
    (∃ (s : State) (f : RingFrame) (q : BitVec 16) (e : DupEnt), netOn s = true ∧ s.net.linkB = true ∧ f.fcsOk = true ∧ f.src ≠ s.otp.mac ∧
      cfgBit s lNET 0x100 0 = true ∧ f.seq = some q ∧ f.kind = .other ∧ dupFind (netCount s 0x134) f.src q = some e) ∧
    (∃ (s : State) (f : RingFrame) (q : BitVec 16), netOn s = true ∧ s.net.linkA = true ∧ f.fcsOk = true ∧ f.src ≠ s.otp.mac ∧
      cfgBit s lNET 0x100 0 = false ∧ f.seq = some q ∧ f.kind = .other ∧ dupFind (netCount s 0x130) f.src q = none ∧ toNode s f.dst = false) ∧
    (∃ (s : State) (f : RingFrame) (r : BitVec 32), netOn s = true ∧ s.net.linkB = true ∧ f.fcsOk = true ∧ f.src ≠ s.otp.mac ∧
      cfgBit s lNET 0x100 0 = false ∧ f.kind = .ptp true r ∧ toNode s f.dst = false ∧ alive s lPTP = true ∧ cfg s lPTP 0x114 1 0 = 2) ∧
    (∃ (s : State) (f : RingFrame), netOn s = true ∧ s.net.svcUp = true ∧ f.fcsOk = true ∧ f.vid = none ∧ f.dst = s.otp.mac + 1#48 ∧
      f.kind = .request ∧ cfgBit s lNET 0x100 3 = true) ∧
    (∃ (s : State), netOn s = true) ∧
    (∃ (s : State), t1sOn s = true) ∧
    (∃ (s : State) (p : BitVec 4), t1sOn s = true ∧ unitOn s lNET = true ∧ s.net.present.getLsbD p.toNat = false) ∧
    (∃ (s : State) (p : BitVec 4), t1sOn s = true ∧ unitOn s lNET = true ∧ s.net.present.getLsbD p.toNat = true) ∧
    (∃ (s : State) (c : Ctx) (v : Word), owns s c lNET = true ∧ bit v 31 = true ∧ t1sOn s = true) ∧
    (∃ (s : State) (m : BitVec 16), t1sOn s = true ∧ s.pwr.phase = .run ∧ s.pwr.pstate = .sleep ∧ bit s.net.t1sCfg 25 = true ∧
      m.getLsbD (fld s.net.t1sCfg 3 0) = true) :=
  ⟨⟨wOn, by decide⟩,
   ⟨wOn, by decide⟩,
   ⟨{ wOn with net := { wOn.net with linkA := true } }, by decide⟩,
   ⟨{ wOn with net := { wOn.net with linkB := true } }, by decide⟩,
   ⟨{ wOn with net := { wOn.net with svcUp := true } }, false, by decide⟩,
   ⟨wOn, [1#8, 1#8] ++ List.replicate 22 0#8, by decide⟩,
   ⟨{ wOn with net := { wOn.net with nv := [(0, { stale := false })] }, act := [(wk lNET 0x174 0, 1#32)] }, 0#8, by decide⟩,
   ⟨{ wOn with act := [(wk lNET 0x174 0, 2#32)] }, 0#3, 0#8, by decide⟩,
   ⟨wReg [((uSLOT 0), 0x10, 0x201#32)] wOn, 0#3, 0#8, by decide⟩,
   ⟨wOn, by decide⟩,
   ⟨wReg [(lNET, 0x100, 1#32)] { wOn with net := { wOn.net with linkA := true } }, { wFrame with fcsOk := false }, by decide⟩,
   ⟨wReg [(lNET, 0x100, 1#32)] { wOn with net := { wOn.net with linkB := true } }, { wFrame with fcsOk := false }, by decide⟩,
   ⟨wReg [(lNET, 0x100, 0x41#32)] { wOn with net := { wOn.net with linkA := true } }, { wFrame with kind := .alarm [] }, [], by decide⟩,
   ⟨wReg [(lNET, 0x100, 0x41#32)] { wOn with net := { wOn.net with linkB := true, dup := [{ mac := 1#48, seq := 0#16, at0 := 0, fromA := true, fromB := false }] } },
     { wFrame with seq := some 0#16 }, 0#16, { mac := 1#48, seq := 0#16, at0 := 0, fromA := true, fromB := false }, by decide⟩,
   ⟨{ wOn with net := { wOn.net with linkA := true } }, { wFrame with dst := 2#48, seq := some 0#16 }, 0#16, by decide⟩,
   ⟨wReg [(lPTP, 0x114, 2#32)] { wOn with net := { wOn.net with linkB := true } }, { wFrame with dst := 2#48, kind := .ptp true 0#32 },
     0#32, by decide⟩,
   ⟨wReg [(lNET, 0x100, 8#32)] { wOn with net := { wOn.net with svcUp := true } },
     { wFrame with dst := wOn.otp.mac + 1#48, kind := .request }, by decide⟩,
   ⟨{ wOn with net := { wOn.net with t1sCfg := 0x1000000#32 } }, by decide⟩,
   ⟨{ wOn with net := { wOn.net with t1sCfg := 0x1000000#32 } }, by decide⟩,
   ⟨{ wOn with net := { wOn.net with t1sCfg := 0x1000000#32 } }, 0#4, by decide⟩,
   ⟨{ wOn with net := { wOn.net with t1sCfg := 0x1000000#32, present := 1#16 } }, 0#4, by decide⟩,
   ⟨{ wOn with net := { wOn.net with t1sCfg := 0x1000000#32 } }, 0#3, 0x80000000#32, by decide⟩,
   ⟨{ wOn with net := { wOn.net with t1sCfg := 0x3000000#32 }, pwr := { wOn.pwr with pstate := .sleep } }, 1#16, by decide⟩⟩

theorem witness_FieldLinkCommandsComplete :
    (∃ (s : State) (n : Fin 6) (f : CanFrame), f.data.length = canDataLen f ∧ alive s (lCAN n.val) = true ∧
      (hdr s (lCAN n.val)).frozen = true ∧ portsStopped s = false ∧ (canSt s n.val).st ≠ 2#2 ∧ cfgBit s (lCAN n.val) 0x100 2 = false) ∧
    (∃ (s : State) (n : Fin 6) (f : CanFrame), f.data.length = canDataLen f ∧ linkRuns s (lCAN n.val) = true ∧
      (f.fdf = false ∨ cfgBit s (lCAN n.val) 0x100 0 = true) ∧ (canSt s n.val).st ≠ 2#2 ∧ cfgBit s (lCAN n.val) 0x100 2 = false ∧
      (canSt s n.val).rx + f.errors.toNat ≤ 127) ∧
    (∃ (s : State) (n : Fin 6) (r : QRun), linkRuns s (lCAN n.val) = true ∧ (canSt s n.val).st ≠ 2#2 ∧
      cfgBit s (lCAN n.val) 0x100 1 = false ∧ cfgBit s (lCAN n.val) 0x100 2 = false ∧
      txRun s (cfgBit s (lCAN n.val) 0x100 23) (cfg s (lCAN n.val) 0x100 21 16) n.val = some r) ∧
    (∃ (s : State) (n : Fin 6), linkRuns s (lCAN n.val) = true ∧ (canSt s n.val).st ≠ 2#2) ∧
    (∃ (s : State) (n : Fin 6), linkRuns s (lCAN n.val) = true ∧ (canSt s n.val).st = 2#2 ∧
      (cfgBit s (lCAN n.val) 0x100 3 = true ∨ (canSt s n.val).restart = true)) ∧
    (∃ (s : State) (c : Ctx) (n : Fin 6), owns s c (lCAN n.val) = true ∧ (canSt s n.val).st = 2#2) ∧
    (∃ (s : State) (c : Ctx) (n : Fin 6), owns s c (lCAN n.val) = true ∧ (canSt s n.val).st ≠ 2#2) ∧
    (∃ (s : State) (n : Fin 6) (b : List Byte), b ≠ [] ∧ b.length ≤ 256 ∧ serHears s n.val false = true) ∧
    (∃ (s : State) (n : Fin 6) (c : Byte) (r : List Byte) (l : List Byte), serHears s n.val true = true ∧ isStart c = true ∧
      scanSentence [c] 1 r = some (l, .whole, []) ∧ sentCheck l = (true, true)) ∧
    (∃ (s : State) (n : Fin 6) (r : QRun), linkRuns s (lSER n.val) = true ∧
      txRun s (cfgBit s (lSER n.val) 0x10C 7) (cfg s (lSER n.val) 0x10C 5 0) (8 + n.val) = some r) ∧
    (∃ (s : State) (q : BitVec 6) (rx : List Byte) (r : QRun), xferRun s q.toNat 17 (cfgBit s lNET 0x160 15) = some r ∧ rx.length = r.d.len) ∧
    (∃ (s : State) (q : BitVec 6) (rx : List Byte) (r : QRun) (p : Bool), xferRun s q.toNat 18 (cfgBit s lNET 0x164 3) = some r ∧
      rx.length = (r.buf.getD 2 0#8).toNat ∧ (((r.buf.getD 3 0#8).getLsbD 0 = false ∧ cfgBit s lNET 0x164 2 = false) ∨ p = true)) ∧
    (∃ (s : State) (q : BitVec 6) (r : QRun), xferRun s q.toNat 18 (cfgBit s lNET 0x164 3) = some r) :=
  ⟨⟨wHdr (lCAN 0) (fun h => { h with frozen := true }) wOn, 0, wCan, by decide⟩,
   ⟨wOn, 0, wCan, by decide⟩,
   ⟨wReg [((uQUEUE 0), 0x10, 0x10001#32), ((lCAN 0), 0x100, 0x800000#32)] { wOn with dma := { wOn.dma with q := [(0, { tail := 1#16, run := some { d := { src := 0, dst := 0, len := 0, ctrl := 0 } } })] } },
     0, { d := { src := 0, dst := 0, len := 0, ctrl := 0 } }, by decide⟩,
   ⟨wOn, 0, by decide⟩,
   ⟨{ wOn with net := { wOn.net with can := [(0, { st := 2#2, restart := true })] } }, 0, by decide⟩,
   ⟨{ wOn with net := { wOn.net with can := [(0, { st := 2#2 })] } }, 0#3, 0, by decide⟩,
   ⟨wOn, 0#3, 0, by decide⟩,
   ⟨wReg [((lSER 0), 0x100, 0#32)] wOn, 0, List.replicate 256 0#8, by decide +kernel⟩,
   ⟨wReg [((lSER 0), 0x100, 1#32)] wOn, 0, 0x24#8, [0x2A#8, 0x30#8, 0x30#8, 0x0D#8, 0x0A#8],
     [0x24#8, 0x2A#8, 0x30#8, 0x30#8, 0x0D#8, 0x0A#8], by decide⟩,
   ⟨wReg [((uQUEUE 0), 0x10, 0x8010001#32), ((lSER 0), 0x10C, 0x80#32)] { wOn with dma := { wOn.dma with q := [(0, { tail := 1#16, run := some { d := { src := 0, dst := 0, len := 0, ctrl := 0 } } })] } },
     0, { d := { src := 0, dst := 0, len := 0, ctrl := 0 } }, by decide⟩,
   ⟨wReg [((uQUEUE 0), 0x10, 0x11030001#32), (lNET, 0x160, 0x8000#32)] { wOn with dma := { wOn.dma with q := [(0, { tail := 1#16, run := some { d := { src := 0, dst := 0, len := 0, ctrl := 0 } } })] } },
     0#6, [], { d := { src := 0, dst := 0, len := 0, ctrl := 0 } }, by decide⟩,
   ⟨wReg [((uQUEUE 0), 0x10, 0x12030001#32), (lNET, 0x164, 8#32)] { wOn with dma := { wOn.dma with q := [(0, { tail := 1#16, run := some { d := { src := 0, dst := 0, len := 0, ctrl := 0 } } })] } },
     0#6, [], { d := { src := 0, dst := 0, len := 0, ctrl := 0 } }, false, by decide⟩,
   ⟨wReg [((uQUEUE 0), 0x10, 0x12030001#32), (lNET, 0x164, 8#32)] { wOn with dma := { wOn.dma with q := [(0, { tail := 1#16, run := some { d := { src := 0, dst := 0, len := 0, ctrl := 0 } } })] } },
     0#6, { d := { src := 0, dst := 0, len := 0, ctrl := 0 } }, by decide⟩⟩

theorem witness_BlockTestStartsComplete :
    (∃ (s : State) (c : Ctx) (k : BitVec 3), owns s c (lCHMB k.toNat) = true ∧ (hdr s (lCHMB k.toNat)).tRun = false ∧
      works s (lCHMB k.toNat) = true) ∧
    (∃ (s : State) (c : Ctx) (k : BitVec 3), owns s c (lCHMB k.toNat) = true ∧ (hdr s (lCHMB k.toNat)).tRun = false ∧
      alive s (lCHMB k.toNat) = true ∧ (hdr s (lCHMB k.toNat)).frozen = true) ∧
    (∃ (s : State) (c : Ctx), owns s c lSSNS = true ∧ (hdr s lSSNS).tRun = false ∧ alive s lSSNS = true ∧ (hdr s lSSNS).frozen = true) ∧
    (∃ (s : State) (c : Ctx), owns s c lINTG = true ∧ (hdr s lINTG).tRun = false ∧ works s lINTG = true) ∧
    (∃ (s : State) (c : Ctx), owns s c lGAL = true ∧ (hdr s lGAL).tRun = false ∧ works s lGAL = true) ∧
    (∃ (s : State) (c : Ctx), owns s c lGRP = true ∧ (hdr s lGRP).tRun = false ∧ works s lGRP = true) ∧
    (∃ (s : State) (c : Ctx), owns s c lECHO = true ∧ (hdr s lECHO).tRun = false ∧ works s lECHO = true) ∧
    (∃ (s : State) (c : Ctx), owns s c lLOOP = true ∧ (hdr s lLOOP).tRun = false ∧ works s lLOOP = true) ∧
    (∃ (s : State) (c : Ctx), owns s c lFIO = true ∧ (hdr s lFIO).tRun = false ∧ works s lFIO = true) ∧
    (∃ (s : State) (c : Ctx), owns s c lLANT = true ∧ (hdr s lLANT).tRun = false ∧ works s lLANT = true) ∧
    (∃ (s : State) (c : Ctx), owns s c lFLOW = true ∧ (hdr s lFLOW).tRun = false ∧ works s lFLOW = true) ∧
    (∃ (s : State) (c : Ctx), owns s c lBIST = true ∧ (hdr s lBIST).tRun = false ∧ works s lBIST = true ∧ s.pwr.lcState = 3#3) ∧
    (∃ (s : State) (c : Ctx), owns s c lNET = true ∧ (hdr s lNET).tRun = false ∧ works s lNET = true ∧ s.pwr.lcState = 3#3) ∧
    (∃ (s : State) (c : Ctx), owns s c lROPE = true ∧ (hdr s lROPE).tRun = false ∧ works s lROPE = true ∧ cfgBit s lROPE 0x100 0 = true) ∧
    (∃ (s : State) (c : Ctx) (i : Instr) (u : Nat), owns s c u = true ∧
      (i, u) ∈ [(.ssnsRefCheck c, lSSNS), (.intgStoreScrub c, lINTG), (.galDescScan c, lGAL), (.grpGraphScan c, lGRP), (.echoLineCheck c, lECHO), (.loopArith c, lLOOP), (.fioWbCheck c, lFIO), (.lantLamp c, lLANT), (.bistSweep c, lBIST), (.flowWriteTest c, lFLOW), (.netPhyLoop c, lNET), (.ropeFenceTest c, lROPE)] ∧
      (hdr s u).tRun = true) :=
  ⟨⟨wOn, 0#3, 0#3, by decide⟩,
   ⟨wHdr (lCHMB 0) (fun h => { h with frozen := true }) wOn, 0#3, 0#3, by decide⟩,
   ⟨wHdr lSSNS (fun h => { h with frozen := true }) wOn, 0#3, by decide⟩,
   ⟨wOn, 0#3, by decide⟩,
   ⟨wOn, 0#3, by decide⟩,
   ⟨wOn, 0#3, by decide⟩,
   ⟨wOn, 0#3, by decide⟩,
   ⟨wOn, 0#3, by decide⟩,
   ⟨wOn, 0#3, by decide⟩,
   ⟨wOn, 0#3, by decide⟩,
   ⟨wOn, 0#3, by decide⟩,
   ⟨{ wOn with pwr := { wOn.pwr with lcState := 3#3 } }, 0#3, by decide⟩,
   ⟨{ wOn with pwr := { wOn.pwr with lcState := 3#3 } }, 0#3, by decide⟩,
   ⟨wReg [(lROPE, 0x100, 1#32)] wOn, 0#3, by decide⟩,
   ⟨wHdr lSSNS (fun h => { h with tRun := true }) wOn, 0#3, .ssnsRefCheck 0#3, lSSNS, by decide⟩⟩

theorem witness_ServiceEventsComplete :
    (∃ (s : State) (u : BitVec 6), u.toNat < 45 ∧ (hdr s u.toNat).tRun = true ∧ alive s u.toNat = true ∧
      ((hdr s u.toNat).freeze = false ∨ testFrozen u.toNat (hdr s u.toNat).tKind.toNat = true) ∧ u.toNat ≠ lGAL ∧ u.toNat ≠ lGRP ∧
      u.toNat ≠ lECHO ∧ u.toNat ≠ lLANT ∧ u.toNat ≠ lBIST ∧ u.toNat ≠ lROPE) ∧
    (∃ (s : State), (hdr s lROPE).tRun = true ∧ works s lROPE = true ∧ (hdr s lROPE).freeze = false) ∧
    (∃ (s : State), (hdr s lGAL).tRun = true ∧ alive s lGAL = true ∧ (hdr s lGAL).freeze = false) ∧
    (∃ (s : State), (hdr s lGRP).tRun = true ∧ alive s lGRP = true ∧ (hdr s lGRP).freeze = false) ∧
    (∃ (s : State), s.test.inj = true) ∧
    (∃ (s : State) (app : Bool), (s.pwr.lcState = 0#3 ∨ (app = true ∧ (s.pwr.lcState = 1#3 ∨ s.pwr.lcState = 3#3))) ∧ unitOn s lTEST = true) ∧
    (∃ (s : State), s.test.attached = true ∧ debugAllowed s true = true ∧ domOn s dAPP = true) :=
  ⟨⟨wHdr (lCHMB 0) (fun h => { h with tRun := true }) wOn, 5#6, by decide⟩,
   ⟨wHdr lROPE (fun h => { h with tRun := true }) wOn, by decide⟩,
   ⟨wHdr lGAL (fun h => { h with tRun := true }) wOn, by decide⟩,
   ⟨wHdr lGRP (fun h => { h with tRun := true }) wOn, by decide⟩,
   ⟨{ wOn with test := { wOn.test with inj := true } }, by decide⟩,
   ⟨{ wOn with pwr := { wOn.pwr with lcState := 0#3 } }, false, by decide⟩,
   ⟨{ wOn with test := { wOn.test with attached := true }, pwr := { wOn.pwr with lcState := 3#3 } }, by decide⟩⟩

theorem witness_PairLinkCommandsComplete :
    (∃ (s : State), ropeOn s = true ∧ (takeEffect s lROPE).1 = s ∧ s.rope.role = 5#3) ∧
    (∃ (s : State) (h : Heartbeat), ropeOn s = true ∧ s.rope.peerLost = false ∧ h.role ≠ 4#8 ∧ h.role ≠ 5#8) ∧
    (∃ (s : State) (h : Heartbeat), ropeOn s = true ∧ s.rope.peerLost = false ∧ h.role = 5#8 ∧ standby s = true) ∧
    (∃ (s : State), ropeOn s = true) ∧
    (∃ (s : State), ropeOn s = true ∧ s.rope.miss < 2) ∧
    (∃ (s : State), ropeOn s = true ∧ s.rope.miss = 2 ∧ s.rope.peerLost = false ∧ s.rope.peerRole ≠ 7#3 ∧
      (s.rope.role = 2#3 ∨ s.rope.role = 3#3)) ∧
    (∃ (s : State), ropeOn s = true ∧ s.rope.miss = 2 ∧ s.rope.peerLost = false ∧ s.rope.peerRole = 7#3 ∧
      (s.rope.role = 2#3 ∨ s.rope.role = 3#3)) ∧
    (∃ (s : State), ropeOn s = true ∧ s.rope.miss = 2 ∧ s.rope.peerLost = false ∧ s.rope.peerRole ≠ 7#3 ∧ s.rope.role = 5#3) ∧
    (∃ (s : State), ropeOn s = true ∧ s.rope.role = 1#3 ∧ fenceSeen s = false ∧ member1 s = false) ∧
    (∃ (s : State), ropeOn s = true ∧ s.rope.role = 1#3 ∧ fenceSeen s = false ∧ member1 s = true ∧ s.pwr.degraded = false) ∧
    (∃ (s : State), ropeOn s = true ∧ s.rope.role = 1#3 ∧ fenceSeen s = true ∧ member1 s = true) ∧
    (∃ (s : State), ropeOn s = true ∧ s.rope.role = 4#3) ∧
    (∃ (s : State), ropeOn s = true ∧ s.pwr.degraded = false) ∧
    (∃ (s : State), ropeOn s = true) ∧
    (∃ (s : State), alive s lROPE = true) ∧
    (∃ (s : State) (c : Ctx), owns s c lROPE = true ∧ works s lROPE = true ∧ ropeOn s = true ∧ s.rope.role = 5#3 ∧ s.rope.peerRole = 3#3 ∧
      peerHealthOk s = true) ∧
    (∃ (s : State) (c : Ctx), owns s c lROPE = true ∧ works s lROPE = true ∧ s.rope.role ≠ 5#3) ∧
    (∃ (s : State), owns s 0#3 lROPE = true ∧ works s lROPE = true ∧ ropeOn s = true ∧ s.pwr.degraded = false) ∧
    (∃ (s : State) (c : Ctx), owns s c lROPE = true ∧ c ≠ 0#3) ∧
    (∃ (s : State) (c : Ctx), owns s c lROPE = true ∧ works s lROPE = true ∧ ropeOn s = true ∧ s.rope.role = 3#3) :=
  ⟨⟨wReg [(lROPE, 0x100, 0x1#32)] { wOn with rope := { wOn.rope with role := 5#3 } }, by decide +kernel⟩,
   ⟨wReg [(lROPE, 0x100, 0x1#32)] { wOn with rope := { wOn.rope with role := 5#3 } },
     { role := 3#8, flags := 0#8, ack := 0#32, evtSeq := 0#32, session := 0#32 }, by decide⟩,
   ⟨wReg [(lROPE, 0x100, 0x1#32)] { wOn with rope := { wOn.rope with role := 3#3 } },
     { role := 5#8, flags := 0#8, ack := 0#32, evtSeq := 0#32, session := 0#32 }, by decide⟩,
   ⟨wReg [(lROPE, 0x100, 0x1#32)] { wOn with rope := { wOn.rope with role := 5#3 } }, by decide⟩,
   ⟨wReg [(lROPE, 0x100, 0x1#32)] { wOn with rope := { wOn.rope with miss := 1 } }, by decide⟩,
   ⟨wReg [(lROPE, 0x100, 0x1#32)] { wOn with rope := { wOn.rope with miss := 2, peerRole := 5#3, role := 3#3 } }, by decide⟩,
   ⟨wReg [(lROPE, 0x100, 0x1#32)] { wOn with rope := { wOn.rope with miss := 2, peerRole := 7#3, role := 3#3 } }, by decide⟩,
   ⟨wReg [(lROPE, 0x100, 0x1#32)] { wOn with rope := { wOn.rope with miss := 2, peerRole := 3#3, role := 5#3 } }, by decide⟩,
   ⟨wReg [(lROPE, 0x100, 0x1#32)] { wOn with rope := { wOn.rope with role := 1#3 } }, by decide⟩,
   ⟨wReg [(lROPE, 0x100, 0x3#32)] { wOn with rope := { wOn.rope with role := 1#3 } }, by decide⟩,
   ⟨wReg [(lROPE, 0x100, 0x3#32)] { wOn with rope := { wOn.rope with role := 1#3, fenceAt := some 0 } }, by decide⟩,
   ⟨wReg [(lROPE, 0x100, 0x1#32)] { wOn with rope := { wOn.rope with role := 4#3 } }, by decide⟩,
   ⟨wReg [(lROPE, 0x100, 0x1#32)] { wOn with rope := { wOn.rope with role := 5#3 } }, by decide⟩,
   ⟨wReg [(lROPE, 0x100, 0x1#32)] { wOn with rope := { wOn.rope with role := 5#3 } }, by decide⟩,
   ⟨wOn, by decide⟩,
   ⟨wReg [(lROPE, 0x100, 0x1#32)] { wOn with rope := { wOn.rope with role := 5#3, peerRole := 3#3, peerFlags := 8#8 } }, 0#3, by decide⟩,
   ⟨wOn, 0#3, by decide⟩,
   ⟨wReg [(lROPE, 0x100, 0x1#32)] { wOn with rope := { wOn.rope with role := 5#3 } }, by decide⟩,
   ⟨wHdr lROPE (fun h => { h with owner := 2#3 }) wOn, 2#3, by decide⟩,
   ⟨wReg [(lROPE, 0x100, 0x1#32)] { wOn with rope := { wOn.rope with role := 3#3 } }, 0#3, by decide⟩⟩

theorem witness_MirrorCommandsComplete :
    (∃ (s : State), ropeOn s = true ∧ s.rope.role = 5#3 ∧ takeFit 252 s.rope.snap ≠ []) ∧
    (∃ (s : State), ropeOn s = true ∧ s.rope.role = 5#3 ∧ s.rope.snap = [] ∧ takeFit 252 (mirDueKeys s) ≠ []) ∧
    (∃ (s : State) (f : MirFrame) (r : List MirFrame), ropeOn s = true ∧ s.rope.role = 5#3 ∧ s.rope.peerAck ≠ s.rope.mseq ∧
      s.rope.frames = f :: r ∧ f.mseq = s.rope.peerAck + 1#32) ∧
    (∃ (s : State), ropeOn s = true ∧ s.rope.role = 5#3 ∧ s.rope.peerAck ≠ s.rope.mseq ∧ s.rope.frames = [] ∧ cfgMatch s = true) ∧
    (∃ (s : State) (m : Word), ropeOn s = true ∧ s.rope.role = 3#3 ∧ cfgMatch s = true ∧ m = s.rope.ack + 1#32) ∧
    (∃ (s : State) (m : Word), ropeOn s = true ∧ s.rope.role = 3#3 ∧ cfgMatch s = true ∧ m ≠ s.rope.ack + 1#32) ∧
    (∃ (s : State), ropeOn s = true ∧ s.rope.role = 3#3 ∧ cfgMatch s = true) ∧
    (∃ (s : State) (m : Word), ropeOn s = true ∧ s.rope.role = 2#3 ∧ cfgMatch s = true ∧ s.rope.snapOn = true ∧ s.rope.copied = false ∧
      m = s.rope.ack + 1#32) ∧
    (∃ (s : State) (c : Nat) (m : ShadowMsg), ropeOn s = true ∧ s.rope.role = 5#3 ∧ s.rope.shadowCh = c ∧ c < 270 ∧
      bit (chReg s 0x180 c) 0 = true ∧ (chan s c).shadow = some m) ∧
    (∃ (s : State) (m : ShadowMsg), ropeOn s = true ∧ works s lROPE = true ∧ standby s = true ∧ cfgMatch s = true ∧
      fld (chReg s 0x18C m.x.ch) 24 16 = 511 ∧ fld (chReg s 0x18C m.x.ch) 8 0 = 511 ∧ bit (chReg s 0x180 m.x.ch) 5 = false ∧
      (linearise s m.x.ch (stage2 s m.x.ch m.raw m.trim) f32Zero).1 = m.value ∧
      stage4Qual s m.x.ch m.x (stage2 s m.x.ch m.raw m.trim) m.value (linearise s m.x.ch (stage2 s m.x.ch m.raw m.trim) f32Zero).2 = m.qual.toNat) ∧
    (∃ (s : State) (m : ShadowMsg), ropeOn s = true ∧ works s lROPE = true ∧ standby s = true ∧ cfgMatch s = true ∧
      fld (chReg s 0x18C m.x.ch) 24 16 = 511 ∧ fld (chReg s 0x18C m.x.ch) 8 0 = 511 ∧ bit (chReg s 0x180 m.x.ch) 5 = false ∧
      (linearise s m.x.ch (stage2 s m.x.ch m.raw m.trim) f32Zero).1 ≠ m.value) ∧
    (∃ (s : State), ropeOn s = true) ∧
    (∃ (s : State) (b : List Byte), ropeOn s = true ∧ b.length = 64 ∧ b.headD 0#8 = 1#8 ∧ leNat (b.drop 60) = crc32c (b.take 60)) ∧
    (∃ (s : State), ropeOn s = true ∧ works s lROPE = true ∧ standby s = true) ∧
    (∃ (s : State), ropeOn s = true ∧ works s lROPE = true ∧ standby s = true) ∧
    (∃ (s : State), ropeOn s = true ∧ works s lROPE = true ∧ standby s = true) :=
  ⟨⟨wReg [(lROPE, 0x100, 0x1#32)] { wOn with rope := { wOn.rope with role := 5#3, snap := [.dout 0] } }, by decide⟩,
   ⟨wReg [(lROPE, 0x100, 0x1#32)] { wOn with rope := { wOn.rope with role := 5#3 } }, by decide +kernel⟩,
   ⟨wReg [(lROPE, 0x100, 0x1#32)] { wOn with rope := { wOn.rope with role := 5#3, mseq := 1#32, frames := [{ mseq := 1#32, snap := false, recs := [] }] } },
     { mseq := 1#32, snap := false, recs := [] }, [], by decide⟩,
   ⟨wReg [(lROPE, 0x100, 0x1#32)] { wOn with rope := { wOn.rope with role := 5#3, mseq := 1#32, own := List.replicate 64 0#8, peer := List.replicate 64 0#8 } },
     by decide⟩,
   ⟨wReg [(lROPE, 0x100, 0x1#32)] { wOn with rope := { wOn.rope with role := 3#3, own := List.replicate 64 0#8, peer := List.replicate 64 0#8 } },
     1#32, by decide⟩,
   ⟨wReg [(lROPE, 0x100, 0x1#32)] { wOn with rope := { wOn.rope with role := 3#3, own := List.replicate 64 0#8, peer := List.replicate 64 0#8 } },
     0#32, by decide⟩,
   ⟨wReg [(lROPE, 0x100, 0x1#32)] { wOn with rope := { wOn.rope with role := 3#3, own := List.replicate 64 0#8, peer := List.replicate 64 0#8 } },
     by decide⟩,
   ⟨wReg [(lROPE, 0x100, 0x1#32)] { wOn with rope := { wOn.rope with role := 2#3, snapOn := true, own := List.replicate 64 0#8, peer := List.replicate 64 0#8 } },
     1#32, by decide⟩,
   ⟨wReg [(lROPE, 0x100, 0x1#32)] { wOn with rope := { wOn.rope with role := 5#3 }, intg := { wOn.intg with chan := [(0, { shadow := some wShadow })] }, act := [(wk lINTG 0x180 0, 1#32)] },
     0, wShadow, by decide⟩,
   ⟨wReg [(lROPE, 0x100, 0x1#32)] { wOn with rope := { wOn.rope with role := 3#3, own := List.replicate 64 0#8, peer := List.replicate 64 0#8 }, act := [(wk lINTG 0x18C 0, 0x01FF01FF#32)] },
     wShadow, by decide +kernel⟩,
   ⟨wReg [(lROPE, 0x100, 0x1#32)] { wOn with rope := { wOn.rope with role := 3#3, own := List.replicate 64 0#8, peer := List.replicate 64 0#8 }, act := [(wk lINTG 0x18C 0, 0x01FF01FF#32)] },
     { wShadow with value := 1#32 }, by decide +kernel⟩,
   ⟨wReg [(lROPE, 0x100, 0x1#32)] { wOn with rope := { wOn.rope with role := 5#3 } }, by decide⟩,
   ⟨wReg [(lROPE, 0x100, 0x1#32)] { wOn with rope := { wOn.rope with role := 5#3 } },
     1#8 :: (List.replicate 59 0#8 ++ [0x6A#8, 0xA1#8, 0xB0#8, 0x2F#8]), by decide +kernel⟩,
   ⟨wReg [(lROPE, 0x100, 0x1#32)] { wOn with rope := { wOn.rope with role := 3#3 } }, by decide⟩,
   ⟨wReg [(lROPE, 0x100, 0x1#32)] { wOn with rope := { wOn.rope with role := 3#3 } }, by decide⟩,
   ⟨wReg [(lROPE, 0x100, 0x1#32)] { wOn with rope := { wOn.rope with role := 3#3 } }, by decide⟩⟩

theorem witness_ApplyCommandsComplete :
    (∃ (s : State) (c : Ctx) (u : BitVec 8), unitOk u.toNat = true ∧ owns s c u.toNat = true ∧ liveOn s u.toNat = false ∧
      (u.toNat ≠ lGROT ∨ grotPending s = false) ∧ firstFail (checks s (withStaged s u.toNat) u.toNat) = none) ∧
    (∃ (s : State) (c : Ctx) (u : BitVec 8) (k : Chk), unitOk u.toNat = true ∧ owns s c u.toNat = true ∧ liveOn s u.toNat = false ∧
      (u.toNat ≠ lGROT ∨ grotPending s = false) ∧ firstFail (checks s (withStaged s u.toNat) u.toNat) = some k) ∧
    (∃ (s : State) (c : Ctx) (u : BitVec 8), unitOk u.toNat = true ∧ owns s c u.toNat = true ∧ liveOn s u.toNat = true) ∧
    (∃ (s : State) (c : Ctx) (u : BitVec 8), unitOk u.toNat = true ∧ owns s c u.toNat = true ∧ liveOn s u.toNat = false) ∧
    (∃ (s : State) (c : Ctx) (u : BitVec 8) (k : BitVec 8), unitOk u.toNat = true ∧ owns s c u.toNat = true ∧ k ≠ 0xA5#8 ∧ k ≠ 0x5A#8 ∧
      liveOn s u.toNat = false) ∧
    (∃ (s : State) (c : Ctx) (u : BitVec 8) (k : BitVec 8), unitOk u.toNat = true ∧ owns s c u.toNat = true ∧ k ≠ 0xA5#8 ∧ k ≠ 0x5A#8 ∧
      liveOn s u.toNat = true) ∧
    (∃ (s : State) (u : BitVec 8), unitOk u.toNat = true ∧ present s u.toNat = true ∧ unitOn s u.toNat = true ∧
      (hdr s u.toNat).pend.isSome = true ∧ u.toNat ≠ lFIO ∧ u.toNat ≠ lSSNS ∧ ¬(5 ≤ u.toNat ∧ u.toNat ≤ 12) ∧ ¬(64 ≤ u.toNat ∧
      u.toNat < 128)) ∧
    (∃ (s : State) (u : BitVec 8), 5 ≤ u.toNat ∧ u.toNat ≤ 12 ∧ unitOn s u.toNat = true ∧ (hdr s u.toNat).pend.isSome = true) ∧
    (∃ (s : State) (u : BitVec 8), 64 ≤ u.toNat ∧ u.toNat < 128 ∧ unitOn s u.toNat = true ∧ (hdr s u.toNat).pend.isSome = true) ∧
    (∃ (s : State), unitOn s lSSNS = true ∧ (hdr s lSSNS).pend.isSome = true) ∧
    (∃ (s : State) (c : Ctx) (u : BitVec 6), u.toNat ≤ 44 ∧ owns s c u.toNat = true ∧ (hdr s u.toNat).live = false ∧
      (∀ x ∈ unitsOf u.toNat, stagedOf s x = [] ∧ pendingSet s x = false)) ∧
    (∃ (s : State) (c : Ctx) (u : BitVec 6) (x : Nat), u.toNat ≤ 44 ∧ owns s c u.toNat = true ∧ (hdr s u.toNat).live = false ∧
      x ∈ unitsOf u.toNat ∧ (stagedOf s x ≠ [] ∨ pendingSet s x = true)) ∧
    (∃ (s : State) (c : Ctx) (u : BitVec 6), u.toNat ≤ 44 ∧ owns s c u.toNat = true ∧ (hdr s u.toNat).live = true) :=
  ⟨⟨{ wOn with stg := [(rk lPWR 0x108, some 50#32)] }, 0#3, (BitVec.ofNat 8 lPWR), by decide⟩,
   ⟨{ wOn with stg := [(rk lPWR 0x108, some 51#32)] }, 0#3, (BitVec.ofNat 8 lPWR),
     { fields := [(rk lPWR 0x108, 0x3F)], reason := 1, bad := true }, by decide⟩,
   ⟨wHdr lPWR (fun h => { h with live := true }) wOn, 0#3, (BitVec.ofNat 8 lPWR), by decide⟩,
   ⟨{ wOn with stg := [(rk lPWR 0x108, some 51#32)] }, 0#3, (BitVec.ofNat 8 lPWR), by decide⟩,
   ⟨wOn, 0#3, (BitVec.ofNat 8 lPWR), 0#8, by decide⟩,
   ⟨wHdr lPWR (fun h => { h with live := true }) wOn, 0#3, (BitVec.ofNat 8 lPWR), 0#8, by decide⟩,
   ⟨wHdr lPWR (fun h => { h with pend := some [] }) wOn, (BitVec.ofNat 8 lPWR), by decide⟩,
   ⟨wHdr 12 (fun h => { h with pend := some [] }) wOn, 12#8, by decide⟩,
   ⟨wHdr 64 (fun h => { h with pend := some [] }) wOn, 64#8, by decide⟩,
   ⟨wHdr lSSNS (fun h => { h with pend := some [] }) wOn, by decide⟩,
   ⟨wOn, 0#3, (BitVec.ofNat 6 lPWR), by decide, by decide, by decide, by decide⟩,
   ⟨{ wOn with stg := [(rk lPWR 0x108, some 51#32)] }, 0#3, (BitVec.ofNat 6 lPWR), lPWR, by decide⟩,
   ⟨wHdr lPWR (fun h => { h with live := true }) wOn, 0#3, (BitVec.ofNat 6 lPWR), by decide⟩⟩

theorem witness_BlockControlCommandsComplete :
    (∃ (s : State) (c : Ctx) (u : BitVec 6), 4 ≤ u.toNat ∧ u.toNat ≤ 44 ∧ owns s c u.toNat = true ∧ (hdr s u.toNat).en = false ∧
      (needsPins u.toNat = false ∨ s.pinLocked = true)) ∧
    (∃ (s : State) (c : Ctx) (u : BitVec 6), 4 ≤ u.toNat ∧ u.toNat ≤ 44 ∧ owns s c u.toNat = true ∧ (hdr s u.toNat).en = false ∧
      needsPins u.toNat = true ∧ s.pinLocked = false) ∧
    (∃ (s : State) (c : Ctx) (u : BitVec 6), 4 ≤ u.toNat ∧ u.toNat ≤ 44 ∧ owns s c u.toNat = true ∧ (hdr s u.toNat).en = true) ∧
    (∃ (s : State) (c : Ctx) (u : BitVec 6), u.toNat ≤ 44 ∧ owns s c u.toNat = true ∧ (hdr s u.toNat).en = true) ∧
    (∃ (s : State) (c : Ctx) (u : BitVec 6), u.toNat ≤ 44 ∧ owns s c u.toNat = true ∧ (hdr s u.toNat).en = false) ∧
    (∃ (s : State) (c : Ctx) (u : BitVec 6), u.toNat ≤ 3 ∧ owns s c u.toNat = true) ∧
    (∃ (s : State) (c : Ctx) (u : BitVec 6), u.toNat ≤ 44 ∧ u.toNat ≠ lDMA ∧ u.toNat ≠ lPTP ∧ owns s c u.toNat = true ∧
      (hdr s u.toNat).frozen = true) ∧
    (∃ (s : State) (c : Ctx), owns s c lPTP = true ∧ (hdr s lPTP).frozen = true ∧ (hdr s lPTP).tRun = false ∧ s.ptp.lock ≠ 0#2) ∧
    (∃ (s : State) (c : Ctx), owns s c lDMA = true ∧ (hdr s lDMA).frozen = true ∧ (hdr s lDMA).tRun = false) ∧
    (∃ (s : State) (c : Ctx) (u : BitVec 6), u.toNat ≤ 44 ∧ owns s c u.toNat = true ∧ (hdr s u.toNat).frozen = false) ∧
    (∃ (s : State) (u : BitVec 6), u.toNat ≤ 44 ∧ u.toNat ≠ lECHO ∧ (hdr s u.toNat).busy = true) ∧
    (∃ (s : State) (c : Ctx) (u : BitVec 6), u.toNat ≤ 44 ∧ owns s c u.toNat = true ∧ (freezeGuarded u.toNat = false ∨ c = 0#3)) ∧
    (∃ (s : State) (c : Ctx) (u : BitVec 6), u.toNat ≤ 44 ∧ owns s c u.toNat = true ∧ freezeGuarded u.toNat = true ∧ c ≠ 0#3) ∧
    (∃ (s : State) (u : BitVec 6), u.toNat ≤ 44 ∧ present s u.toNat = true ∧ unitOn s u.toNat = true ∧ (hdr s u.toNat).freeze = true ∧
      (hdr s u.toNat).frozen = false ∧ workDone s u.toNat = true ∧ u.toNat ≠ lECHO ∧ u.toNat ≠ lLOOP ∧ u.toNat ≠ lFIO ∧ u.toNat ≠ lGROT ∧
      ¬(5 ≤ u.toNat ∧ u.toNat ≤ 12)) ∧
    (∃ (s : State), unitOn s lGROT = true ∧ (hdr s lGROT).freeze = true ∧ (hdr s lGROT).frozen = false) ∧
    (∃ (s : State) (c : Ctx), (hdr s lGAL).freeze = true ∧ owns s c lGAL = true ∧ testFrozen lGAL (hdr s lGAL).tKind.toNat = false) ∧
    (∃ (s : State) (c : Ctx), (hdr s lGRP).freeze = true ∧ owns s c lGRP = true ∧ s.net.linkA = false ∧ s.net.linkB = false) ∧
    (∃ (s : State) (c : Ctx), (hdr s lECHO).freeze = true ∧ owns s c lECHO = true) ∧
    (∃ (s : State) (c : Ctx), (hdr s lBIST).freeze = true ∧ owns s c lBIST = true) ∧
    (∃ (s : State) (c : Ctx) (u : BitVec 6), u.toNat ≤ 44 ∧ owns s c u.toNat = true ∧ (hdr s u.toNat).freeze = true ∧
      (hdr s u.toNat).frozen = false ∧ ¬(5 ≤ u.toNat ∧ u.toNat ≤ 12) ∧ u.toNat ≠ lGAL ∧ u.toNat ≠ lGRP ∧ u.toNat ≠ lECHO ∧ u.toNat ≠ lBIST) ∧
    (∃ (s : State) (c : Ctx) (u : BitVec 8) (v : Word), unitOk u.toNat = true ∧ reaches s c u.toNat = true ∧ (hdr s u.toNat).lock = false ∧
      (c = (hdr s u.toNat).owner ∨ c = 0#3) ∧ BitVec.ofNat 3 (fld v 2 0) ≠ (hdr s u.toNat).owner) ∧
    (∃ (s : State) (c : Ctx) (u : BitVec 8) (v : Word), unitOk u.toNat = true ∧ reaches s c u.toNat = true ∧ (hdr s u.toNat).lock = false ∧
      (c = (hdr s u.toNat).owner ∨ c = 0#3) ∧ BitVec.ofNat 3 (fld v 2 0) = (hdr s u.toNat).owner) ∧
    (∃ (s : State) (c : Ctx) (u : BitVec 8) (v : Word), unitOk u.toNat = true ∧ reaches s c u.toNat = true ∧ (hdr s u.toNat).lock = false ∧
      (c = (hdr s u.toNat).owner ∨ c = 0#3) ∧ BitVec.ofNat 3 (fld v 2 0) = (hdr s u.toNat).owner) ∧
    (∃ (s : State) (c : Ctx) (u : BitVec 8) (v : Word), unitOk u.toNat = true ∧ reaches s c u.toNat = true ∧ (hdr s u.toNat).lock = false ∧
      (c = (hdr s u.toNat).owner ∨ c = 0#3) ∧ BitVec.ofNat 3 (fld v 2 0) ≠ (hdr s u.toNat).owner) ∧
    (∃ (s : State) (c : Ctx) (u : BitVec 8), unitOk u.toNat = true ∧ reaches s c u.toNat = true ∧
      ((hdr s u.toNat).lock = true ∨ (c ≠ (hdr s u.toNat).owner ∧ c ≠ 0#3))) ∧
    (∃ (s : State) (c : Ctx) (u : BitVec 6) (v : Word), u.toNat ≤ 44 ∧ (u.toNat ≠ lIOMMU ∨ bit v 0 = false) ∧ owns s c u.toNat = true) :=
  ⟨⟨wHdr 4 (fun h => { h with en := false }) wOn, 0#3, 4#6, by decide⟩,
   ⟨wHdr lGAL (fun h => { h with en := false }) { wOn with pinLocked := false }, 0#3, (BitVec.ofNat 6 lGAL), by decide⟩,
   ⟨wOn, 0#3, 44#6, by decide⟩,
   ⟨wOn, 0#3, 3#6, by decide⟩,
   ⟨wHdr 44 (fun h => { h with en := false }) wOn, 0#3, 44#6, by decide⟩,
   ⟨wOn, 0#3, 3#6, by decide⟩,
   ⟨wHdr 44 (fun h => { h with frozen := true }) wOn, 0#3, 44#6, by decide⟩,
   ⟨wHdr lPTP (fun h => { h with frozen := true }) { wOn with ptp := { wOn.ptp with lock := 2#2 } }, 0#3, by decide⟩,
   ⟨wHdr lDMA (fun h => { h with frozen := true }) wOn, 0#3, by decide⟩,
   ⟨wOn, 0#3, 44#6, by decide⟩,
   ⟨wHdr 44 (fun h => { h with busy := true }) wOn, 44#6, by decide⟩,
   ⟨wOn, 0#3, 44#6, by decide⟩,
   ⟨wHdr 19 (fun h => { h with owner := 2#3 }) wOn, 2#3, 19#6, by decide⟩,
   ⟨wHdr 44 (fun h => { h with freeze := true }) wOn, 44#6, by decide⟩,
   ⟨wHdr lGROT (fun h => { h with freeze := true }) wOn, by decide⟩,
   ⟨wHdr lGAL (fun h => { h with freeze := true }) wOn, 0#3, by decide⟩,
   ⟨wHdr lGRP (fun h => { h with freeze := true }) wOn, 0#3, by decide⟩,
   ⟨wHdr lECHO (fun h => { h with freeze := true }) wOn, 0#3, by decide⟩,
   ⟨wHdr lBIST (fun h => { h with freeze := true }) wOn, 0#3, by decide⟩,
   ⟨wHdr 44 (fun h => { h with freeze := true }) wOn, 0#3, 44#6, by decide⟩,
   ⟨wOn, 0#3, 1#8, 2#32, by decide⟩,
   ⟨wOn, 0#3, 1#8, 0#32, by decide⟩,
   ⟨wOn, 0#3, 1#8, 0#32, by decide⟩,
   ⟨wOn, 0#3, 1#8, 2#32, by decide⟩,
   ⟨wHdr 1 (fun h => { h with lock := true }) wOn, 0#3, 1#8, by decide⟩,
   ⟨wOn, 0#3, 0#6, 0#32, by decide⟩⟩

theorem witness_AccessCommandsComplete :
    (∃ (s : State) (c : Ctx) (a : Word) (p : Place), 0x40000000 ≤ a.toNat ∧ a.toNat < 0x40120000 ∧
      placeOf (a.toNat - 0x40000000) = some p ∧ reaches s c p.unit = true ∧ p.av = false ∧ a.toNat % 4 = 0) ∧
    (∃ (s : State) (c : Ctx) (a : Word) (p : Place), 0x40000000 ≤ a.toNat ∧ a.toNat < 0x40120000 ∧
      placeOf (a.toNat - 0x40000000) = some p ∧ reaches s c p.unit = true ∧ p.av = false ∧ widthOk p a.toNat true = true) ∧
    (∃ (s : State) (c : Ctx) (a : Word) (p : Place), 0x40000000 ≤ a.toNat ∧ a.toNat < 0x40120000 ∧
      placeOf (a.toNat - 0x40000000) = some p ∧ reaches s c p.unit = true ∧ p.av = false ∧ widthOk p a.toNat true = false) ∧
    (∃ (s : State) (c : Ctx) (a : Word) (p : Place), 0x40000000 ≤ a.toNat ∧ a.toNat < 0x40120000 ∧
      placeOf (a.toNat - 0x40000000) = some p ∧ reaches s c p.unit = true ∧ p.av = false ∧ a.toNat % 4 ≠ 0) ∧
    (∃ (s : State) (c : Ctx) (u : Nat) (o : Nat) (v : Word), reaches s c u = true ∧ inHdr u o = false ∧ specialWrite s c u o v = none ∧
      (hdr s u).owner ≠ c) ∧
    (∃ (s : State) (c : Ctx) (u : Nat) (o : Nat) (v : Word) (d : RegDef) (k : Nat), reaches s c u = true ∧ inHdr u o = false ∧
      specialWrite s c u o v = none ∧ (hdr s u).owner = c ∧ regAt u o = some d ∧ viewKey s u o = some k) ∧
    (∃ (s : State) (c : Ctx) (u : Nat) (o : Nat) (v : Word), reaches s c u = true ∧ inHdr u o = false ∧ specialWrite s c u o v = none ∧
      (hdr s u).owner = c ∧ (regAt u o = none ∨ viewKey s u o = none)) ∧
    (∃ (u : Nat) (o : Nat), inHdr u o = true) ∧
    (∃ (s : State) (u : Nat) (k : Nat) (v : Word), s.stg = [] ∧ (hdr s u).pend = none ∧ keyUnit k = u ∧ v ≠ rget s k &&& rwsOfKey k ∧
      (∀ x ∈ checks (stage s k v) (withStaged (stage s k v) u) u, x.bad = false)) ∧
    (∃ (s : State) (c : Ctx) (a : Word) (p : Place), 0x40000000 ≤ a.toNat ∧ a.toNat < 0x40120000 ∧
      placeOf (a.toNat - 0x40000000) = some p ∧ reaches s c p.unit = true ∧ p.av = true ∧ a.toNat % 4 = 0 ∧ (hdr s p.unit).owner = c) ∧
    (∃ (s : State) (c : Ctx) (a : Word) (p : Place), 0x40000000 ≤ a.toNat ∧ a.toNat < 0x40120000 ∧
      placeOf (a.toNat - 0x40000000) = some p ∧ reaches s c p.unit = true ∧ p.av = true ∧ a.toNat % 4 = 0 ∧ (hdr s p.unit).owner ≠ c) ∧
    (∃ (s : State) (c : Ctx), pathOk s c = false) ∧
    (∃ (s : State) (c : Ctx) (a : Word) (p : Place), 0x40000000 ≤ a.toNat ∧ a.toNat < 0x40120000 ∧
      placeOf (a.toNat - 0x40000000) = some p ∧ reaches s c p.unit = true) ∧
    (∃ (s : State) (c : Ctx) (a : Word), 0x40000000 ≤ a.toNat ∧ a.toNat < 0x40120000 ∧ pathOk s c = true ∧
      placeOf (a.toNat - 0x40000000) = none) ∧
    (∃ (s : State) (c : Ctx) (a : Word) (p : Place), 0x40000000 ≤ a.toNat ∧ a.toNat < 0x40120000 ∧
      placeOf (a.toNat - 0x40000000) = some p ∧ reaches s c p.unit = true ∧ a.toNat % 4 = 0 ∧ mayRead s c p = true ∧ p.av = false) ∧
    (∃ (s : State) (c : Ctx) (a : Word) (p : Place), 0x40000000 ≤ a.toNat ∧ a.toNat < 0x40120000 ∧
      placeOf (a.toNat - 0x40000000) = some p ∧ reaches s c p.unit = true ∧ a.toNat % 4 = 0 ∧ mayRead s c p = true ∧ p.av = true) ∧
    (∃ (s : State) (c : Ctx) (a : Word) (p : Place), 0x40000000 ≤ a.toNat ∧ a.toNat < 0x40120000 ∧
      placeOf (a.toNat - 0x40000000) = some p ∧ reaches s c p.unit = true ∧ widthOk p a.toNat true = true ∧ mayRead s c p = true ∧
      (p.unit ≠ lPTP ∨ p.off ≠ 0x100)) ∧
    (∃ (s : State) (c : Ctx) (a : Word) (p : Place), 0x40000000 ≤ a.toNat ∧ a.toNat < 0x40120000 ∧
      placeOf (a.toNat - 0x40000000) = some p ∧ reaches s c p.unit = true ∧ a.toNat % 4 = 0 ∧ mayRead s c p = false) ∧
    (∃ (s : State) (u : Nat) (o : Nat) (d : RegDef), plainRead u o = true ∧ inHdr u o = false ∧ regAt u o = some d ∧ freeBits s u o = 0#32) ∧
    (∃ (u : Nat) (o : Nat), u ≤ 44 ∧ inHdr u o = true) ∧
    (∃ (s : State) (c : Ctx) (a : Word), a.toNat = 0x40000000 + rk lFLOW 0x12C ∧ mayRd s c lFLOW = true) ∧
    (∃ (s : State) (c : Ctx) (a : Word), a.toNat = 0x40000000 + rk lFLOW 0x130 ∧ mayRd s c lFLOW = true) ∧
    (∃ (s : State) (c : Ctx), owns s c lINTG = true ∧ linKey s = none) ∧
    (∃ (s : State) (c : Ctx), mayRd s c lINTG = true) ∧
    (∃ (s : State) (c : Ctx), owns s c lGAL = true) ∧
    (∃ (s : State) (x : Xing) (r : List Xing), s.xing = x :: r ∧ unitOn s x.dst = true) ∧
    (∃ (s : State) (x : Xing) (r : List Xing), s.xing = x :: r ∧ unitOn s x.dst = false ∧ domOn s dAON = true) :=
  ⟨⟨wOn, 0#3, (BitVec.ofNat 32 (0x40000000 + rk lPWR 0x108)), { unit := lPWR, off := 0x108, av := false }, by decide +kernel⟩,
   ⟨wOn, 0#3, (BitVec.ofNat 32 (0x40000000 + rk lPTP 0x100)), { unit := lPTP, off := 0x100, av := false }, by decide +kernel⟩,
   ⟨wOn, 0#3, (BitVec.ofNat 32 (0x40000000 + rk lPWR 0x108)), { unit := lPWR, off := 0x108, av := false }, by decide +kernel⟩,
   ⟨wOn, 0#3, 0x4000100A#32, { unit := lPWR, off := 10, av := false }, by decide +kernel⟩,
   ⟨wHdr lPWR (fun h => { h with owner := 2#3 }) wOn, 0#3, lPWR, 0x108, 0#32, by decide +kernel⟩,
   ⟨wOn, 0#3, lPWR, 0x108, 0#32, ((regAt lPWR 0x108).getD { off := 0 }), (rk lPWR 0x108), by decide +kernel⟩,
   ⟨wOn, 0#3, lPWR, 0x7F0, 0#32, by decide +kernel⟩,
   ⟨0, 0, by decide⟩,
   ⟨wOn, lPWR, (rk lPWR 0x108), 50#32, by decide +kernel⟩,
   ⟨wOn, 0#3, (BitVec.ofNat 32 (0x40000000 + rk lPWR 0x108 + 0x800)), { unit := lPWR, off := 0x108, av := true }, by decide +kernel⟩,
   ⟨wHdr lPWR (fun h => { h with owner := 2#3 }) wOn, 0#3, (BitVec.ofNat 32 (0x40000000 + rk lPWR 0x108 + 0x800)),
     { unit := lPWR, off := 0x108, av := true }, by decide +kernel⟩,
   ⟨{ wOn with pwr := { wOn.pwr with phase := .off } }, 0#3, by decide⟩,
   ⟨wOn, 0#3, (BitVec.ofNat 32 (0x40000000 + rk lPWR 0x108)), { unit := lPWR, off := 0x108, av := false }, by decide +kernel⟩,
   ⟨wOn, 0#3, 0x4011FFFF#32, by decide⟩,
   ⟨wOn, 0#3, (BitVec.ofNat 32 (0x40000000 + rk lPWR 0x108)), { unit := lPWR, off := 0x108, av := false }, by decide +kernel⟩,
   ⟨wOn, 0#3, (BitVec.ofNat 32 (0x40000000 + rk lPWR 0x108 + 0x800)), { unit := lPWR, off := 0x108, av := true }, by decide +kernel⟩,
   ⟨wOn, 0#3, (BitVec.ofNat 32 (0x40000000 + rk lPTP 0x138)), { unit := lPTP, off := 0x138, av := false }, by decide +kernel⟩,
   ⟨wHdr lPWR (fun h => { h with owner := 2#3 }) wOn, 0#3, (BitVec.ofNat 32 (0x40000000 + rk lPWR 0x108)),
     { unit := lPWR, off := 0x108, av := false }, by decide +kernel⟩,
   ⟨wOn, lPWR, 0x108, ((regAt lPWR 0x108).getD { off := 0 }), by decide +kernel⟩,
   ⟨0, 0, by decide⟩,
   ⟨wOn, 0#3, (BitVec.ofNat 32 (0x40000000 + rk lFLOW 0x12C)), by decide⟩,
   ⟨wOn, 0#3, (BitVec.ofNat 32 (0x40000000 + rk lFLOW 0x130)), by decide⟩,
   ⟨wReg [(lINTG, 0x108, 0x01FF#32)] wOn, 0#3, by decide⟩,
   ⟨wOn, 0#3, by decide⟩,
   ⟨wOn, 0#3, by decide⟩,
   ⟨{ wOn with xing := [{ src := 5, dst := 18, what := .grotto false }] }, { src := 5, dst := 18, what := .grotto false }, [], by decide⟩,
   ⟨{ wOn with pwr := { wOn.pwr with doms := 2#16 }, xing := [{ src := 5, dst := 18, what := .grotto false }] },
     { src := 5, dst := 18, what := .grotto false }, [], by decide⟩⟩

theorem witness_RemoteCommandsComplete :
    (∃ (s : State) (svc : Bool), mgmtServed s svc = true) ∧
    (∃ (s : State) (svc : Bool) (b : MgmtMsg) (m : MgmtSess), mgmtServed s svc = true ∧ requestOk b 3 = true ∧ mgmtSess s svc = some m ∧
      requestFails s svc b = [] ∧ 0x40000000 ≤ msgField b 4 4 ∧ msgField b 4 4 + 4 * msgField b 2 2 ≤ 0x40120000) ∧
    (∃ (s : State) (svc : Bool) (b : MgmtMsg) (m : MgmtSess), mgmtServed s svc = true ∧ requestOk b 4 = true ∧ mgmtSess s svc = some m ∧
      requestFails s svc b = [] ∧ 0x40000000 ≤ msgField b 4 4 ∧ msgField b 4 4 + 4 * msgField b 2 2 ≤ 0x40120000) ∧
    (∃ (s : State) (svc : Bool) (b : MgmtMsg) (f : Nat), mgmtServed s svc = true ∧ requestFails s svc b = [f]) ∧
    (∃ (s : State) (m : MgmtSess) (peer : BitVec 48), mgmtServed s false = true ∧ ctxPend s 6#3 ≠ 0 ∧ s.net.notified = false ∧
      s.net.sess6 = some m ∧ m.peer = some peer) ∧
    (∃ (s : State) (svc : Bool) (b : MgmtMsg), mgmtServed s svc = true ∧ requestFails s svc b = [] ∧
      (msgField b 4 4 < 0x40000000 ∨ 0x40120000 < msgField b 4 4 + 4 * msgField b 2 2)) ∧
    (∃ (s : State) (p : BitVec 1) (b : List Byte), pathOk s (qspiCtx p) = true ∧ b.length ≤ 512 ∧ b.length % 4 = 0) ∧
    (∃ (s : State) (p : BitVec 1) (a : BitVec 40) (n : Nat) (t : State) (b : List Byte), pathOk s (qspiCtx p) = true ∧ 1 ≤ n ∧ n < 64 ∧
      qspiGets s p a 0 n = (t, some b)) ∧
    (∃ (s : State) (p : BitVec 1) (a : BitVec 40) (t : State) (b : List Byte), pathOk s (qspiCtx p) = true ∧
      qspiGets s p a 0 64 = (t, some b)) ∧
    (∃ (s : State) (p : BitVec 1) (a : BitVec 40) (n : Nat) (t : State), pathOk s (qspiCtx p) = true ∧ 1 ≤ n ∧ n < 64 ∧
      qspiGets s p a 0 n = (t, none)) ∧
    (∃ (s : State) (p : BitVec 1), pathOk s (qspiCtx p) = true) ∧
    (∃ (s : State) (p : BitVec 1) (op : Byte), op ≠ 0x02#8 ∧ op ≠ 0x0B#8 ∧ op ≠ 0x05#8 ∧ pathOk s (qspiCtx p) = true ∧
      (qspiPort s p).err = 0#3) ∧
    (∃ (s : State) (b : MgmtMsg), mgmtServed s false = true ∧ requestFails s false b = [1] ∧ requestOk b 3 = true) ∧
    (∃ (s : State) (b : MgmtMsg), mgmtServed s false = true ∧ requestFails s false b = [1] ∧ requestOk b 4 = true) ∧
    (∃ (s : State) (b : MgmtMsg), mgmtServed s false = true ∧ requestFails s false b = [2] ∧ requestOk b 3 = true) :=
  ⟨⟨wReg [(lNET, 0x100, 0x10#32)] { wOn with otp := { wOn.otp with mgmtKey := List.replicate 32 0#8 } }, false, by decide⟩,
   ⟨wReg [(lNET, 0x100, 0x10#32)] { wOn with net := { wOn.net with sess6 := some { nonce := 0#128 } }, otp := { wOn.otp with mgmtKey := List.replicate 32 0#8 } },
     false, leBytes 32 0x14000000000000301 ++ natBE 32 0x95617E4007569B799B92E0975C4BED5E77146E1A922293008F4DEE6E66B67EE9,
     { nonce := 0#128 }, by decide +kernel⟩,
   ⟨wReg [(lNET, 0x100, 0x10#32)] { wOn with net := { wOn.net with sess6 := some { nonce := 0#128 } }, otp := { wOn.otp with mgmtKey := List.replicate 32 0#8 } },
     false, leBytes 36 0x14000000000010401 ++ natBE 32 0x930538FBBC029D97E194B6D9A62FFD9EA8BB3080CD896CB0F1619581CEDDC425,
     { nonce := 0#128 }, by decide +kernel⟩,
   ⟨wReg [(lNET, 0x100, 0x10#32)] { wOn with net := { wOn.net with sess6 := some { nonce := 0#128 } }, otp := { wOn.otp with mgmtKey := List.replicate 32 0#8 } },
     false, leBytes 32 0x14000000000000301 ++ natBE 32 0x0, 1, by decide +kernel⟩,
   ⟨wReg [(lNET, 0x100, 0x10#32)] (wHdr lPWR (fun h => { h with owner := 6#3, latched := 1#32, mask := 1#32 }) { wOn with net := { wOn.net with sess6 := some { nonce := 0#128, peer := some 1#48 } }, otp := { wOn.otp with mgmtKey := List.replicate 32 0#8 } }),
     { nonce := 0#128, peer := some 1#48 }, 1#48, by decide +kernel⟩,
   ⟨wReg [(lNET, 0x100, 0x10#32)] { wOn with net := { wOn.net with sess6 := some { nonce := 0#128 } }, otp := { wOn.otp with mgmtKey := List.replicate 32 0#8 } },
     false, leBytes 32 0x13000000000000301 ++ natBE 32 0x74C75BC2E6EEA9084ED195D3E8E01B58DED17569B06F2A509A3BFE292DCDB44F,
     by decide +kernel⟩,
   ⟨wOn, 0#1, ((qspiGets wOn 0#1 0#40 0 63).2.getD []), by decide +kernel⟩,
   ⟨wOn, 0#1, 0#40, 63, (qspiGets wOn 0#1 0#40 0 63).1, ((qspiGets wOn 0#1 0#40 0 63).2.getD []), by decide +kernel⟩,
   ⟨wOn, 0#1, 0#40, (qspiGets wOn 0#1 0#40 0 64).1, ((qspiGets wOn 0#1 0#40 0 64).2.getD []), by decide +kernel⟩,
   ⟨wOn, 0#1, 0x8000000000#40, 1, (qspiGets wOn 0#1 0x8000000000#40 0 1).1, by decide +kernel⟩,
   ⟨wOn, 0#1, by decide⟩,
   ⟨wOn, 0#1, 0#8, by decide⟩,
   ⟨wReg [(lNET, 0x100, 0x10#32)] { wOn with net := { wOn.net with sess6 := some { nonce := 0#128 } }, otp := { wOn.otp with mgmtKey := List.replicate 32 0#8 } },
     leBytes 32 0x14000000000000301 ++ natBE 32 0x0, by decide +kernel⟩,
   ⟨wReg [(lNET, 0x100, 0x10#32)] { wOn with net := { wOn.net with sess6 := some { nonce := 0#128 } }, otp := { wOn.otp with mgmtKey := List.replicate 32 0#8 } },
     leBytes 32 0x14000000000000401 ++ natBE 32 0x0, by decide +kernel⟩,
   ⟨wReg [(lNET, 0x100, 0x10#32)] { wOn with net := { wOn.net with sess6 := some { nonce := 0#128, ctr := some 1 } }, otp := { wOn.otp with mgmtKey := List.replicate 32 0#8 } },
     leBytes 32 0x14000000000000301 ++ natBE 32 0x95617E4007569B799B92E0975C4BED5E77146E1A922293008F4DEE6E66B67EE9, by decide +kernel⟩⟩

theorem witness_StartupCommandsComplete :
    (∃ (s : State) (d : BitVec 14), 1200 ≤ d.toNat ∧ d.toNat ≤ 10000 ∧ s.pwr.phase = .boot ∧ s.pwr.safeRunning = true ∧
      s.pwr.dramWiped = true ∧ s.pwr.cfgLoaded = false ∧ imageOk s configBase true = true ∧
      (mgetLE s.mem (configBase + 7) 1).testBit 0 = true) ∧
    (∃ (s : State), (s.pwr.phase = .boot ∨ s.pwr.phase = .run) ∧ s.pwr.cfgLoaded = true ∧ s.pwr.released = false ∧ s.pwr.degraded = false ∧
      firstPend s = 0) ∧
    (∃ (s : State), (s.pwr.phase = .boot ∨ s.pwr.phase = .run) ∧ s.pwr.cfgLoaded = true ∧ s.pwr.released = false ∧ s.pwr.degraded = false ∧
      s.pwr.noDeadline = false) ∧
    (∃ (s : State), s.pwr.released = true) :=
  ⟨⟨{ wOn with pwr := { wOn.pwr with phase := .boot, cfgLoaded := false }, otp := wOtp, mem := wImage 0x66000000 true }, 1200#14,
     by decide +kernel⟩,
   ⟨{ wOn with pwr := { wOn.pwr with released := false } }, by decide⟩,
   ⟨{ wOn with pwr := { wOn.pwr with released := false } }, by decide⟩,
   ⟨wOn, by decide⟩⟩

theorem witness_VariantBDisplayPagesAbsent :
    (∃ (s : State), s.otp.variantA = false) ∧
    (∃ (i : Instr) (c : Ctx) (u o : Nat), ownerOnly i = some (c, u, o) ∧ (u = lLANT ∨ u = lBIST) ∧ i.wf = true) :=
  ⟨⟨{ wOn with otp := { wOn.otp with variantA := false } }, by decide⟩,
   ⟨.atDataWrite 0#3 0#32, 0#3, lLANT, 0x11C, by decide⟩⟩

theorem witness_NarrowAndMisalignedAccessesCaptured :
    (∃ (s : State) (c : Ctx) (a : Word) (p : Place), 0x40000000 ≤ a.toNat ∧ a.toNat < 0x40120000 ∧
      placeOf (a.toNat - 0x40000000) = some p ∧ reaches s c p.unit = true) ∧
    (∃ (s : State) (a : Word) (p : Place) (w : Bool), placeOf (a.toNat - 0x40000000) = some p ∧ reaches s 0#3 p.unit = true ∧ w = false ∧
      a.toNat % 4 ≠ 0) ∧
    (∃ (s : State) (a : Word) (p : Place) (w : Bool), placeOf (a.toNat - 0x40000000) = some p ∧ reaches s 0#3 p.unit = true ∧ w = true ∧
      a.toNat % 8 ≠ 0) ∧
    (∃ (s : State) (a : Word) (p : Place), placeOf (a.toNat - 0x40000000) = some p ∧ reaches s 0#3 p.unit = true ∧
      (∀ d, regAt p.unit p.off = some d → d.wide = false)) :=
  ⟨⟨wOn, 0#3, (BitVec.ofNat 32 (0x40000000 + rk lPWR 0x108)), { unit := lPWR, off := 0x108, av := false }, by decide⟩,
   ⟨wOn, 0x4000100A#32, { unit := lPWR, off := 10, av := false }, false, by decide⟩,
   ⟨wOn, 0x4000110C#32, { unit := lPWR, off := 0x10C, av := false }, true, by decide⟩,
   ⟨wOn, 0x40001108#32, { unit := lPWR, off := 0x108, av := false }, by decide, by decide,
     fun d h => by rw [show regAt lPWR 0x108 = some ((regAt lPWR 0x108).getD { off := 0 }) from by decide] at h; cases h; decide⟩⟩

theorem witness_CrossingIntoOffDomainDropped :
    (∃ (s : State) (src : Nat) (dst : Nat), unitOn s dst = false ∧ src ≤ 44 ∧ domOn s dAON = true) ∧
    (∃ (s : State) (x : Xing) (r : List Xing), s.xing = x :: r ∧ unitOn s x.dst = false ∧ x.src ≤ 44 ∧ domOn s dAON = true) ∧
    (∃ (s : State) (x : Xing) (r : List Xing), s.xing = x :: r ∧ unitOn s x.dst = false ∧ domOn s dAON = false) :=
  ⟨⟨{ wOn with pwr := { wOn.pwr with doms := 2#16 } }, 44, 18, by decide⟩,
   ⟨{ wOn with pwr := { wOn.pwr with doms := 2#16 }, xing := [{ src := 44, dst := 18, what := .grotto false }] },
     { src := 44, dst := 18, what := .grotto false }, [], by decide⟩,
   ⟨{ wOn with pwr := { wOn.pwr with doms := 0#16 }, xing := [{ src := 44, dst := 18, what := .grotto false }] },
     { src := 44, dst := 18, what := .grotto false }, [], by decide⟩⟩

theorem witness_UnmappedAndPowerlessAccessesCaptured :
    (∃ (s : State) (c : Ctx) (a : Word), 0x40000000 ≤ a.toNat ∧ a.toNat < 0x40120000 ∧ pathOk s c = true) ∧
    (∃ s : State, pathOk s 0#3 = true ∧ placeOf 0x11FFFF = none) ∧
    (∃ (s : State) (p : Place), pathOk s 0#3 = true ∧ placeOf (rk lNET 0x100) = some p ∧ present s p.unit = true ∧ unitOn s p.unit = false) ∧
    (∃ (s : State) (p : Place), pathOk s 0#3 = true ∧ placeOf (rk lLANT 0x100) = some p ∧ present s p.unit = false) :=
  ⟨⟨wOn, 0#3, 0x4011FFFF#32, by decide⟩,
   ⟨wOn, by decide⟩,
   ⟨{ wOn with pwr := { wOn.pwr with doms := 0x038B#16 } }, { unit := lNET, off := 0x100, av := false }, by decide⟩,
   ⟨{ wOn with otp := { wOn.otp with variantA := false } }, { unit := lLANT, off := 0x100, av := false }, by decide⟩⟩

theorem witness_NonOwnerAccessesCaptured :
    (∃ (i : Instr) (c : Ctx) (u : Nat) (o : Nat) (s : State), ownerOnly i = some (c, u, o) ∧ i.wf = true ∧ reaches s c u = true ∧
      (hdr s u).owner ≠ c) ∧
    (∃ (s : State) (c : Ctx) (a : Word) (p : Place), 0x40000000 ≤ a.toNat ∧ a.toNat < 0x40120000 ∧ a.toNat % 4 = 0 ∧
      placeOf (a.toNat - 0x40000000) = some p ∧ reaches s c p.unit = true ∧ (hdr s p.unit).owner ≠ c) ∧
    (∃ (s : State) (p : Place), placeOf 0x1008 = some p ∧ reaches s 0#3 p.unit = true ∧ (hdr s p.unit).owner ≠ 0#3 ∧ p.av = false ∧
      inHdr p.unit p.off = true ∧ p.off ≠ ownerOff p.unit ∧ (hdr s p.unit).readMask.getLsbD 0 = false ∧ freeBits s p.unit p.off = 0#32) ∧
    (∃ (s : State) (p : Place), placeOf 0x1108 = some p ∧ reaches s 0#3 p.unit = true ∧ (hdr s p.unit).owner ≠ 0#3 ∧ p.av = false ∧
      inHdr p.unit p.off = false ∧ specialWrite s 0#3 p.unit p.off 0#32 = none ∧ (hdr s p.unit).readMask.getLsbD 0 = false ∧
      mayReadOwn 0#3 p.unit p.off = false) :=
  ⟨⟨.pstateReqRun 0#3, 0#3, lPWR, 0x10C, wHdr lPWR (fun h => { h with owner := 2#3 }) wOn, by decide⟩,
   ⟨wHdr lPWR (fun h => { h with owner := 2#3 }) wOn, 0#3, (BitVec.ofNat 32 (0x40000000 + rk lPWR 0x108)),
     { unit := lPWR, off := 0x108, av := false }, by decide⟩,
   ⟨wHdr lPWR (fun h => { h with owner := 2#3 }) wOn, { unit := lPWR, off := 8, av := false }, by decide +kernel⟩,
   ⟨wHdr lPWR (fun h => { h with owner := 2#3 }) wOn, { unit := lPWR, off := 0x108, av := false }, by decide +kernel⟩⟩

theorem witness_ContextBlocksTakeTheirContextOnly :
    ∃ (i : Instr) (x : Ctx) (c : Ctx) (u : Nat) (o : Nat) (s : State), blockOnly i = some (x, c, u, o) ∧ reaches s c u = true ∧ c ≠ x :=
  ⟨.snapTake 2#3 1#3, 2#3, 1#3, lFLOW, 0x280, wOn, by decide⟩

theorem witness_OwnerRegisterRule :
    (∃ (s : State) (c : Ctx) (u : BitVec 8), unitOk u.toNat = true ∧ reaches s c u.toNat = true) ∧
    (∃ s : State, reaches s 0#3 0 = true ∧ (hdr s 0).lock = true) ∧
    (∃ s : State, reaches s 1#3 1 = true ∧ (hdr s 1).lock = false ∧ 1#3 ≠ (hdr s 1).owner) ∧
    (∃ s : State, reaches s 0#3 1 = true ∧ (hdr s 1).lock = false ∧ (hdr s 1).owner ≠ BitVec.ofNat 3 (fld (2#32) 2 0) ∧
      reaches s (hdr s 1).owner 1 = true) :=
  ⟨⟨wOn, 0#3, (BitVec.ofNat 8 lPWR), by decide⟩,
   ⟨wOn, by decide⟩,
   ⟨wOn, by decide⟩,
   ⟨wOn, by decide⟩⟩

theorem witness_OwnerChangeDiscardsStagedFields :
    (∃ (s : State) (c : Ctx) (u : BitVec 8) (v : Word), unitOk u.toNat = true ∧ reaches s c u.toNat = true ∧ (hdr s u.toNat).lock = false ∧
      (c = (hdr s u.toNat).owner ∨ c = 0#3) ∧ (hdr s u.toNat).owner ≠ BitVec.ofNat 3 (fld v 2 0) ∧ (hdr s u.toNat).pend.isSome = true ∧
      u.toNat ≠ lFIO ∧ u.toNat ≠ lSSNS ∧ ¬(5 ≤ u.toNat ∧ u.toNat ≤ 12) ∧ ¬(64 ≤ u.toNat ∧ u.toNat < 128)) ∧
    (∃ (s : State) (c : Ctx) (u : BitVec 8) (v : Word), unitOk u.toNat = true ∧ reaches s c u.toNat = true ∧ (hdr s u.toNat).lock = false ∧
      (c = (hdr s u.toNat).owner ∨ c = 0#3) ∧ (hdr s u.toNat).owner ≠ BitVec.ofNat 3 (fld v 2 0) ∧ (hdr s u.toNat).pend.isSome = true ∧
      64 ≤ u.toNat ∧ u.toNat < 128) ∧
    (∃ (s : State) (c : Ctx) (u : BitVec 8) (v : Word), unitOk u.toNat = true ∧ reaches s c u.toNat = true ∧ (hdr s u.toNat).lock = false ∧
      (c = (hdr s u.toNat).owner ∨ c = 0#3) ∧ (hdr s u.toNat).owner ≠ BitVec.ofNat 3 (fld v 2 0) ∧ (hdr s u.toNat).pend.isSome = true ∧
      5 ≤ u.toNat ∧ u.toNat ≤ 12) ∧
    (∃ (s : State) (c : Ctx) (u : BitVec 8) (v : Word), unitOk u.toNat = true ∧ reaches s c u.toNat = true ∧ (hdr s u.toNat).lock = false ∧
      (c = (hdr s u.toNat).owner ∨ c = 0#3) ∧ (hdr s u.toNat).owner ≠ BitVec.ofNat 3 (fld v 2 0) ∧ (hdr s u.toNat).pend.isSome = true ∧
      u.toNat = lSSNS) ∧
    (∃ (s : State) (c : Ctx) (u : BitVec 8) (v : Word), unitOk u.toNat = true ∧ reaches s c u.toNat = true ∧ (hdr s u.toNat).lock = false ∧
      (c = (hdr s u.toNat).owner ∨ c = 0#3) ∧ (hdr s u.toNat).owner ≠ BitVec.ofNat 3 (fld v 2 0) ∧ (hdr s u.toNat).pend.isSome = true ∧
      u.toNat = lFIO) :=
  ⟨⟨wHdr lPWR (fun h => { h with pend := some [] }) wOn, 0#3, (BitVec.ofNat 8 lPWR), 2#32, by decide⟩,
   ⟨wHdr 64 (fun h => { h with pend := some [] }) wOn, 0#3, 64#8, 2#32, by decide⟩,
   ⟨wHdr 5 (fun h => { h with pend := some [] }) wOn, 0#3, 5#8, 2#32, by decide⟩,
   ⟨wHdr lSSNS (fun h => { h with pend := some [] }) wOn, 0#3, (BitVec.ofNat 8 lSSNS), 2#32, by decide⟩,
   ⟨wHdr lFIO (fun h => { h with pend := some [] }) wOn, 0#3, (BitVec.ofNat 8 lFIO), 2#32, by decide⟩⟩

theorem witness_FirstErrorIsCaptured :
    (∃ (s : State) (d : Ctx) (n : BitVec 6) (v : Word), (hdr s n.toNat).err.valid = true ∧ n.toNat ≤ 44 ∧ owns s d n.toNat = true ∧
      bit v 31 = true) ∧
    (∃ s : State, (hdr s 44).err.valid = false) :=
  ⟨⟨wHdr 44 (fun h => { h with err := { valid := true } }) wOn, 0#3, 44#6, 0x80000000#32, by decide⟩,
   ⟨wOn, by decide⟩⟩

theorem witness_SleepRefusedWhileBusy :
    (∃ (s : State) (c : Ctx), owns s c lPWR = true) ∧
    (∃ s : State, owns s 0#3 lPWR = true ∧ (∃ e ∈ s.gal.pts, dEn e.2.desc = true ∧ e.2.core.st ≠ 0#3 ∧ e.2.core.st ≠ 4#3 ∧
      e.2.core.st ≠ 6#3)) ∧
    (∃ s : State, owns s 0#3 lPWR = true ∧ 2 ≤ s.echo.dm.st.toNat) :=
  ⟨⟨wOn, 0#3, by decide⟩,
   ⟨wGal 1#3, by decide, (0, { desc := 0x81#32 :: (List.replicate 11 0#32 ++ [0x400#32]), core := { st := 1#3, inst := 5#8 } }), by decide⟩,
   ⟨{ wOn with echo := { wOn.echo with dm := { st := 2#2 } } }, by decide⟩⟩

theorem witness_OneGrottoCommitAtATime :
    ∃ (s : State) (c : Ctx), owns s c lGROT = true ∧ pendingSet s lGROT = true ∧ (hdr s lGROT).live = false :=
  ⟨{ wOn with grot := { wOn.grot with commit := some (0#32, 0#32, 0#32) } }, 0#3, by decide⟩

theorem witness_InboundFaultRecordedFirst :
    (∃ s : State, s.dma.inFault.valid = false) ∧
    (∃ s : State, s.dma.inFault.valid = true) :=
  ⟨⟨wOn, by decide⟩,
   ⟨{ wOn with dma := { inFault := { valid := true } } }, by decide⟩⟩

theorem witness_PinnedRegionsLockedBeforeEnable :
    (∃ (s : State) (c : Ctx) (u : BitVec 6), (u.toNat = lGAL ∨ u.toNat = lGRP ∨ u.toNat = lLOOP ∨ u.toNat = lFLOW) ∧
      owns s c u.toNat = true ∧ (hdr s u.toNat).en = false ∧ s.pinLocked = false) ∧
    (∃ (s : State), s.pinLocked = true) :=
  ⟨⟨wHdr lFLOW (fun h => { h with en := false }) { wOn with pinLocked := false }, 0#3, (BitVec.ofNat 6 lFLOW), by decide⟩,
   ⟨wOn, by decide⟩⟩

theorem witness_StepRunsTheFrontCommand :
    ∃ (s : State) (c : Instr) (r : List Instr), s.pending = c :: r :=
  ⟨{ wOn with pending := [.rstNLow] }, .rstNLow, [], by decide⟩

theorem witness_EveryStepSettlesInterrupts :
    ∃ s t : State, step s = .next t :=
  ⟨wOn, _, rfl⟩

theorem witness_SettlingSendsRisingLinesOnly :
    ∃ (s : State) (n : Nat), n ∈ vectorsOf s 0 ∧ n ∉ s.msi0 :=
  ⟨wHdr lPWR (fun h => { h with owner := 2#3, mask := 1#32, latched := 1#32 }) wOn, 1, by decide⟩

theorem witness_EveryCommandCompletes :
    (∃ i : Instr, i.wf = true) ∧
    (∃ i : Instr, i.wf = false) :=
  ⟨⟨.rstNLow, by decide⟩,
   ⟨.ownerWrite 0#3 255#8 0#32, by decide⟩⟩

theorem witness_CommittedSetTakesEffectAsAWhole :
    ∃ (s : State) (u : Nat) (set : List (Nat × Word)), (hdr s u).pend = some set ∧ (hdr s u).livePend = false ∧ u < 64 :=
  ⟨wHdr lPWR (fun h => { h with pend := some [(rk lPWR 0x108, 50#32)] }) wOn, lPWR, [(rk lPWR 0x108, 50#32)], by decide⟩

theorem witness_RejectedSetChangesNothing :
    ∃ (s : State) (c : Ctx) (u : BitVec 8) (k : Chk), u.toNat ≤ 44 ∧ owns s c u.toNat = true ∧ (hdr s u.toNat).live = false ∧
      (u.toNat ≠ lGROT ∨ grotPending s = false) ∧ firstFail (checks s (withStaged s u.toNat) u.toNat) = some k :=
  ⟨{ wOn with stg := [(rk lPWR 0x108, some 51#32)] }, 0#3, (BitVec.ofNat 8 lPWR),
    { fields := [(rk lPWR 0x108, 0x3F)], reason := 1, bad := true }, by decide⟩

theorem witness_HeaderWritesAreTheirCommands :
    (∃ (u : BitVec 6) (v : DWord), u.toNat ≤ 44 ∧ v = 0xA5#64) ∧
    (∃ (u : BitVec 6) (v : DWord), u.toNat ≤ 44 ∧ v = 0x5A#64) :=
  ⟨⟨44#6, 0xA5#64, by decide⟩,
   ⟨44#6, 0x5A#64, by decide⟩⟩

end Sys2Proof.Machine.Tests
end

section
/-! PROOFS. Scope of the register space: the absent display pages of the -B (R4) and the access widths (R10). -/
namespace Sys2Proof.Machine

/-- On the -B the display pages are absent (R4). -/
theorem present_variantB {s : State} {u : Nat} (hB : s.otp.variantA = false) (hu : u = lLANT ∨ u = lBIST) :
    present s u = false := by
  rcases hu with rfl | rfl <;> simp [present, hB]

/-! ### Where an access from outside leads -/

/-- An access to an absent page does nothing, whatever the page would have done. -/
theorem busPlace_absent {s : State} {c : Ctx} {a : Nat} {p : Place} (hlo : 0x40000000 ≤ a) (hhi : a < 0x40120000)
    (hp : placeOf (a - 0x40000000) = some p) (habsent : present s p.unit = false) (w : Bool) (k : Place → State → State) :
    busPlace s c a w k = s := by
  simp [busPlace, hlo, hhi, hp, habsent]

/-- An access that reaches its unit does what the place does. -/
theorem busPlace_reaches {s : State} {c : Ctx} {a : Nat} {p : Place} (hlo : 0x40000000 ≤ a) (hhi : a < 0x40120000)
    (hp : placeOf (a - 0x40000000) = some p) (hreach : reaches s c p.unit = true) (w : Bool) (k : Place → State → State) :
    busPlace s c a w k = k p s := by
  simp only [reaches, Bool.and_eq_true] at hreach
  obtain ⟨⟨hpath, hpresent⟩, hon⟩ := hreach
  simp [busPlace, hlo, hhi, hp, hpath, hpresent, hon]

/-- The two pages from 0x80000 on are those of LANT and BIST, active views included (R63, R67). -/
theorem placeOf_displayPage {o : Nat} (hlo : 0x80000 ≤ o) (hhi : o < 0x82000) :
    ∃ p, placeOf o = some p ∧ (p.unit = lLANT ∨ p.unit = lBIST) := by
  have hpage : pageAt o = some lLANT ∨ pageAt o = some lBIST := by
    have hnumber : o / 0x1000 = 0x80 ∨ o / 0x1000 = 0x81 := by omega
    unfold pageAt
    rcases hnumber with h | h
    · rw [h]; exact .inl (by decide)
    · rw [h]; exact .inr (by decide)
  have hslot : ¬ (0x61000 ≤ o ∧ o < 0x65000) := by omega
  have hslotView : ¬ (0x65000 ≤ o ∧ o < 0x69000) := by omega
  have hqueue : ¬ (0xE1000 ≤ o ∧ o < 0xE5000) := by omega
  have hqueueView : ¬ (0xE5000 ≤ o ∧ o < 0xE9000) := by omega
  rw [placeOf, if_neg hslot, if_neg hslotView, if_neg hqueue, if_neg hqueueView]
  rcases hpage with h | h
  · rw [h]; exact ⟨_, rfl, .inl rfl⟩
  · rw [h]; exact ⟨_, rfl, .inr rfl⟩

/-- On the -B no access at an address of the display pages does anything. -/
theorem busPlace_displayPage {s : State} (hB : s.otp.variantA = false) {c : Ctx} {a : Nat} (hlo : 0x40080000 ≤ a)
    (hhi : a < 0x40082000) (w : Bool) (k : Place → State → State) : busPlace s c a w k = s := by
  obtain ⟨p, hp, hunit⟩ := placeOf_displayPage (o := a - 0x40000000) (by omega) (by omega)
  exact busPlace_absent (by omega) (by omega) hp (present_variantB hB hunit) w k

/-! ### Commands that write as the owner -/

/-- A write to an absent page has no effect. -/
theorem ownerWrite_absent {s : State} {u : Nat} (habsent : present s u = false) (c : Ctx) (o : Nat) (k : State → State) :
    ownerWrite s c u o k = s := by
  simp [ownerWrite, access, habsent]

/-- On a well-formed operand the rows that check their unit are writes of the unit's register. -/
theorem applyRow_wf {u : BitVec 8} (hw : wfUnit u = true) (s : State) (c : Ctx) (key : Nat) :
    applyRow s c u key = done (ownerWrite s c u.toNat (applyOff u.toNat) (fun s => applyWrite s c u.toNat key)) := if_pos hw
theorem execApplyBadKey_wf {c : Ctx} {u key : BitVec 8} (hw : (Instr.applyBadKey c u key).wf = true) (s : State) :
    execApplyBadKey c u key s = done (ownerWrite s c u.toNat (applyOff u.toNat) (fun s => applyWrite s c u.toNat key.toNat)) := by
  simp only [Instr.wf, Bool.and_eq_true, decide_eq_true_eq] at hw
  obtain ⟨⟨hu, hA5⟩, h5A⟩ := hw
  rw [execApplyBadKey, if_neg (not_or.mpr ⟨hA5, h5A⟩), applyRow_wf hu]
theorem ctrlRow_wf {u : BitVec 6} (hw : wfPage u = true) (s : State) (c : Ctx) (k : State → State) :
    ctrlRow s c u k = done (ownerWrite s c u.toNat 0x8 k) := if_pos (of_decide_eq_true hw)
theorem execIrqClrWrite_wf {u : BitVec 6} (hw : wfPage u = true) (s : State) (c : Ctx) (v : Word) :
    execIrqClrWrite c u v s = done (ownerWrite s c u.toNat 0x1C (fun s => irqClr s u.toNat v)) := if_pos (of_decide_eq_true hw)

/-- Every command that `ownerOnly` names is an owner's write of the register it names (R71). Most arms say so by definition; the ones
singled out check their operand first, or have an operand that says whether they write at all. -/
theorem exec_ownerOnly {i : Instr} {c : Ctx} {u o : Nat} (h : ownerOnly i = some (c, u, o)) (hw : i.wf = true) :
    ∃ k : State → State, ∀ s, exec i s = done (ownerWrite s c u o k) := by
  cases i
  case applyCommit | applyDiscard => cases h; exact ⟨_, fun s => applyRow_wf hw s _ _⟩
  case applyBadKey => cases h; exact ⟨_, execApplyBadKey_wf hw⟩
  case liveSet | liveClear | blkEnable | blkDisable | softReset | freezeRequest | freezeClear =>
    cases h; exact ⟨_, fun s => ctrlRow_wf hw s _ _⟩
  case irqClrWrite => cases h; exact ⟨_, fun s => execIrqClrWrite_wf hw s _ _⟩
  case bistRegCmdGo r _ =>
    have hoff : bOff r.toNat + 0x14 = 0x214 + 32 * r.toNat := by simp only [bOff]; omega
    cases h
    exact ⟨_, fun s => by rw [← hoff]; rfl⟩
  case linDataAccess write _ | causeDataAccess write _ =>
    cases write <;> cases h
    exact ⟨_, fun _ => rfl⟩
  all_goals cases h <;> exact ⟨_, fun _ => rfl⟩

/-! ### Widths -/

/-- The three ways in which R10 does not allow an access. -/
theorem widthOk_eq_false {p : Place} {a : Nat} {wide : Bool}
    (h : (wide = false ∧ a % 4 ≠ 0) ∨ (wide = true ∧ a % 8 ≠ 0) ∨ (wide = true ∧ ∀ d, regAt p.unit p.off = some d → d.wide = false)) :
    widthOk p a wide = false := by
  rcases h with ⟨rfl, halign⟩ | ⟨rfl, halign⟩ | ⟨rfl, hnarrow⟩
  · simp [widthOk, halign]
  · simp [widthOk, halign]
  · cases hreg : regAt p.unit p.off with
    | none => simp [widthOk, hreg]
    | some d => simp [widthOk, hreg, hnarrow d hreg]

section
variable {s : State} {c : Ctx} {a : Nat} {p : Place} {wide : Bool} (hlo : 0x40000000 ≤ a) (hhi : a < 0x40120000)
  (hp : placeOf (a - 0x40000000) = some p) (hreach : reaches s c p.unit = true) (hwidth : widthOk p a wide = false)
include hlo hhi hp hreach hwidth

/-- A write of a width that is not allowed is captured alone. -/
theorem busWrite_badWidth (v : DWord) : busWrite s c a wide v = badWidth s c a true p := by
  rw [busWrite, busPlace_reaches hlo hhi hp hreach]
  simp [hwidth]

/-- A read of a width that is not allowed returns 0 and is captured. -/
theorem busRead_badWidth : busRead s c a wide = badWidth { s with rdata := 0#64 } c a false p := by
  have hreach0 : reaches { s with rdata := 0#64 } c p.unit = true := hreach
  rw [busRead, busPlace_reaches hlo hhi hp hreach0]
  simp [hwidth]
end

/-- Settles O38: an address of the two pages leads to an absent place, and a command that writes one of them is an owner's write to an
absent unit. -/
theorem variantBDisplayPagesAbsent : Obligations.VariantBDisplayPagesAbsent := by
  intro s hB
  refine ⟨fun c a w v hlo hhi => ?_, fun i c u o hi hunit hw => ?_⟩
  · have hB0 : { s with rdata := 0#64 }.otp.variantA = false := hB
    exact ⟨congrArg done (busPlace_displayPage hB hlo hhi _ _), congrArg done (busPlace_displayPage hB0 hlo hhi _ _),
      congrArg done (busPlace_displayPage hB hlo hhi _ _), congrArg done (busPlace_displayPage hB0 hlo hhi _ _)⟩
  · obtain ⟨k, hexec⟩ := exec_ownerOnly hi hw
    rw [hexec, ownerWrite_absent (present_variantB hB hunit), done]

/-- Settles O39: an access that reaches its page is answered by the check of its width, which comes before every other. -/
theorem narrowAndMisalignedAccessesCaptured : Obligations.NarrowAndMisalignedAccessesCaptured := by
  intro s c a p hlo hhi hp hreach
  have hreach0 : reaches { s with rdata := 0#64 } c p.unit = true := hreach
  refine ⟨congrArg done (busPlace_reaches hlo hhi hp hreach _ _), congrArg done (busPlace_reaches hlo hhi hp hreach0 _ _),
    fun w v hbad => ?_⟩
  have hwidth : widthOk p a.toNat w = false := widthOk_eq_false hbad
  exact ⟨congrArg done (busWrite_badWidth hlo hhi hp hreach hwidth v), congrArg done (busRead_badWidth hlo hhi hp hreach hwidth)⟩

end Sys2Proof.Machine
end

section
/-! PROOFS. Power, reset and lifecycle: what refuses an entry to Sleep (R46). -/
namespace Sys2Proof.Machine

/-! ### What is busy -/

/-- A point refuses Sleep where it is enabled and neither normal, out of service nor shelved. -/
theorem pointBusy_iff (s : State) :
    pointBusy s = true ↔
      ∃ e ∈ s.gal.pts, dEn e.2.desc = true ∧ e.2.core.st ≠ 0#3 ∧ e.2.core.st ≠ 4#3 ∧ e.2.core.st ≠ 6#3 := by
  simp [pointBusy, and_assoc]

/-- Echo refuses Sleep while a call or a pre-warning is in progress. -/
theorem echoBusy_iff (s : State) :
    echoBusy s = true ↔ (∃ e ∈ s.echo.calls, e.2.st ≠ 0#2) ∨ 2 ≤ s.echo.dm.st.toNat := by
  simp [echoBusy]

/-! ### A write of PSTATE_REQ -/

/-- A request for Sleep while something is busy writes the register and sets REFUSED, and that is all. -/
theorem pstateReq_sleep_busy {s : State} (hbusy : pointBusy s = true ∨ echoBusy s = true) :
    pstateReq s 2 = { setReg s lPWR 0x10C 2#32 with pwr := { s.pwr with refused := true } } := by
  have hbusy' : (pointBusy s || echoBusy s) = true := Bool.or_eq_true_iff.mpr hbusy
  exact if_pos hbusy'

/-- A request for Doze clears REFUSED, whatever is busy. -/
theorem pstateReq_doze_refused (s : State) : (pstateReq s 1).pwr.refused = false := rfl

/-- Settles O47: the owner's write reaches the request, and one of the two busy conditions of R46 refuses Sleep and never Doze. -/
theorem sleepRefusedWhileBusy : Obligations.SleepRefusedWhileBusy := by
  intro s c howns
  have hexec : ∀ req, done (pstateRow s c req) = .next (settle (pstateReq s req)) := fun _ =>
    congrArg done (ownerWrite_owns howns _ _)
  refine ⟨fun hbusy => ?_, settle (pstateReq s 1), hexec 1, pstateReq_doze_refused s⟩
  rw [← pointBusy_iff, ← echoBusy_iff] at hbusy
  exact ⟨settle (pstateReq s 2), hexec 2, by simp [pstateReq_sleep_busy hbusy]⟩

end Sys2Proof.Machine
end

section
/-! PROOFS. Register accesses that reach no page or a powerless one (R65). -/
namespace Sys2Proof.Machine

section
variable {s : State} {c : Ctx} {a : Nat} (hlo : 0x40000000 ≤ a) (hhi : a < 0x40120000) (hpath : pathOk s c = true)
include hlo hhi hpath

/-- An access in the register space that reaches nothing is captured on SYS with code 0x6, whatever a page would have done. -/
theorem busPlace_unmapped (hp : placeOf (a - 0x40000000) = none) (w : Bool) (k : Place → State → State) :
    busPlace s c a w k = captureAt s lSYS c w 0x6 (a % 0x1000) (a / 0x1000 % 0x200) := by
  simp [busPlace, hlo, hhi, hpath, hp]

/-- An access to a page whose domain is off is captured on SYS with code 0x7, whatever the page would have done. -/
theorem busPlace_powerless {p : Place} (hp : placeOf (a - 0x40000000) = some p) (hpresent : present s p.unit = true)
    (hoff : unitOn s p.unit = false) (w : Bool) (k : Place → State → State) :
    busPlace s c a w k = captureAt s lSYS c w 0x7 (a % 0x1000) (a / 0x1000 % 0x200) := by
  simp [busPlace, hlo, hhi, hpath, hp, hpresent, hoff]
end

/-- Settles O41: a write is a `busPlace` of the state as it is, a read one of the state with `rdata` 0, and each of the three places
answers before anything a page does. -/
theorem unmappedAndPowerlessAccessesCaptured : Obligations.UnmappedAndPowerlessAccessesCaptured := by
  intro s c a hlo hhi hpath
  have hpath0 : pathOk { s with rdata := 0#64 } c = true := hpath
  refine ⟨fun hp w v => ⟨?_, ?_, ?_⟩, fun p w v hp hpresent hoff => ⟨?_, ?_⟩, fun p w v hp habsent => ⟨?_, ?_⟩⟩
  · exact congrArg done (busPlace_unmapped hlo hhi hpath hp true _)
  · exact congrArg done (busPlace_unmapped hlo hhi hpath hp true _)
  · exact congrArg done (busPlace_unmapped hlo hhi hpath0 hp false _)
  · exact congrArg done (busPlace_powerless hlo hhi hpath hp hpresent hoff true _)
  · have hpresent0 : present { s with rdata := 0#64 } p.unit = true := hpresent
    have hoff0 : unitOn { s with rdata := 0#64 } p.unit = false := hoff
    exact congrArg done (busPlace_powerless hlo hhi hpath0 hp hpresent0 hoff0 false _)
  · exact congrArg done (busPlace_absent hlo hhi hp habsent true _)
  · have habsent0 : present { s with rdata := 0#64 } p.unit = false := habsent
    exact congrArg done (busPlace_absent hlo hhi hp habsent0 false _)

end Sys2Proof.Machine
end

section
/-! PROOFS. ERR_INFO: what a capture leaves, and what a write of IRQ_CLR lets in again (R74, R75). -/
namespace Sys2Proof.Machine

/-- Settling the interrupts changes no header. -/
@[simp] theorem hdr_settle (s : State) (u : Nat) : hdr (settle s) u = hdr s u := rfl

/-- With no error on record a capture takes the whole error and latches ERR. -/
theorem captureAt_invalid {s : State} {u : Nat} (h : (hdr s u).err.valid = false) (c : Ctx) (w : Bool) (code off page : Nat) :
    captureAt s u c w code off page = setHdr s u { hdr s u with
      err := ⟨true, false, c, w, BitVec.ofNat 4 code, BitVec.ofNat 12 off, BitVec.ofNat 9 page⟩
      latched := (hdr s u).latched ||| 0x80000000#32 } := by
  simp [captureAt, h]

/-- A capture leaves the headers of the other pages alone. -/
theorem hdr_captureAt_other (s : State) {u v : Nat} (hv : v ≠ u) (c : Ctx) (w : Bool) (code off page : Nat) :
    hdr (captureAt s u c w code off page) v = hdr s v := by
  obtain ⟨h, hcapture⟩ := captureAt_frame s u c w code off page
  rw [hcapture, hdr_setHdr_other s u v h hv]

/-- A capture leaves all but the headers alone. -/
theorem captureAt_with_hdr (s : State) (u : Nat) (c : Ctx) (w : Bool) (code off page : Nat) :
    { captureAt s u c w code off page with hdr := s.hdr } = s := by
  obtain ⟨h, hcapture⟩ := captureAt_frame s u c w code off page
  rw [hcapture]
  rfl

/-- A device fault replaces what ERR_INFO holds, and notes in OVERFLOW whether an error stood there. -/
theorem captureFault_err (s : State) (u : Nat) (w : Bool) :
    (hdr (captureFault s u w) u).err = ⟨true, (hdr s u).err.valid, 0#3, w, 0xF#4, 0#12, 0#9⟩ := by
  simp [captureFault]

/-- A write of IRQ_CLR clears the latched bits it names, and with ERR the two flags of ERR_INFO. -/
theorem hdr_irqClr (s : State) (u : Nat) (v : Word) :
    hdr (irqClr s u v) u = { hdr s u with
      latched := (hdr s u).latched &&& ~~~v
      err := if bit v 31 then { (hdr s u).err with valid := false, overflow := false } else (hdr s u).err } := by
  by_cases hfault : (decide (u = lIOMMU) && bit v 0) = true
  · exact (congrArg (hdr · u) (if_pos hfault : irqClr s u v = _)).trans (hdr_setHdr s u _)
  · exact (congrArg (hdr · u) (if_neg hfault : irqClr s u v = _)).trans (hdr_setHdr s u _)

/-- A write of IRQ_CLR by the owner, as a step. -/
theorem exec_irqClrWrite_owns {s : State} {c : Ctx} {u : BitVec 6} (hu : u.toNat ≤ 44) (howns : owns s c u.toNat = true) (v : Word) :
    exec (.irqClrWrite c u v) s = .next (settle (irqClr s u.toNat v)) :=
  (execIrqClrWrite_wf (decide_eq_true hu) s c v).trans (congrArg done (ownerWrite_owns howns _ _))

/-- Settles O46: a capture is one header written, by whether an error is on record, and IRQ_CLR.ERR takes the record away. -/
theorem firstErrorIsCaptured : Obligations.FirstErrorIsCaptured := by
  intro s u c w k o p
  refine ⟨fun hfree => ?_, fun hvalid => ?_, captureFault_err s u w, fun v hv => hdr_captureAt_other s hv c w k o p,
    captureAt_with_hdr s u c w k o p, ?_⟩
  · simp [captureAt_invalid hfree]
  · rw [captureAt_valid hvalid, hdr_setHdr]
  · rintro d n v rfl hu howns hv
    have herr : (hdr (irqClr s n.toNat v) n.toNat).err = { (hdr s n.toNat).err with valid := false, overflow := false } := by
      simp [hdr_irqClr, hv]
    have hfree : (hdr (settle (irqClr s n.toNat v)) n.toNat).err.valid = false := by simp [herr]
    refine ⟨settle (irqClr s n.toNat v), exec_irqClrWrite_owns hu howns v, hfree, by simp [herr], ?_, ?_⟩
    · have hset : v.getLsbD 31 = true := hv
      simp [hdr_irqClr, bit, hset]
    · simp [captureAt_invalid hfree]

end Sys2Proof.Machine
end

section
/-! PROOFS. Writes of OWNER (R72), and what a change of it does to the unit's staged and pending sets (R73). -/
namespace Sys2Proof.Machine

/-! ### Discarding what is staged -/

/-- An entry of a table that was written is the one written or stood there before. -/
theorem mem_tput {α : Type} {t : Tbl α} {k : Nat} {v : α} {e : Nat × α} (h : e ∈ tput t k v) : e = (k, v) ∨ e ∈ t := by
  induction t with
  | nil => exact .inl (List.mem_singleton.1 h)
  | cons x r ih =>
    by_cases hk : k < x.1
    · simpa [tput, hk] using h
    · have hx : e = x ∨ e ∈ tput r k v := by simpa [tput, hk] using h
      rcases hx with rfl | hr
      · exact .inr List.mem_cons_self
      · exact (ih hr).imp_right (List.mem_cons_of_mem x)
theorem mem_tset {α : Type} [DecidableEq α] {t : Tbl α} {k : Nat} {v d : α} {e : Nat × α} (h : e ∈ tset t k v d) :
    e = (k, v) ∨ e ∈ t := by
  unfold tset at h
  split at h
  · exact .inr (List.mem_of_mem_filter h)
  · exact (mem_tput h).imp_right List.mem_of_mem_filter

/-- Nothing of a unit is staged where each staged value of its keys is the value in use. -/
theorem stagedOf_eq_nil_iff (s : State) (u : Nat) :
    stagedOf s u = [] ↔ ∀ e ∈ s.stg, ∀ v, e.2 = some v → keyUnit e.1 = u → v = rget s e.1 &&& rwsOfKey e.1 := by
  unfold stagedOf
  rw [List.filterMap_eq_nil_iff]
  refine forall₂_congr fun e _ => ?_
  cases e.2 with
  | none => simp
  | some v => simp

/-- Staging the value in use stages nothing. -/
theorem stagedOf_stage_inUse {s : State} {u : Nat} (h : stagedOf s u = []) (k : Nat) :
    stagedOf (stage s k (rget s k &&& rwsOfKey k)) u = [] := by
  rw [stagedOf_eq_nil_iff] at h ⊢
  intro e he v hv hunit
  rw [stage_stg] at he
  rcases mem_tset he with rfl | hold
  · exact (Option.some.inj hv).symm
  · exact h e hold v hv hunit

/-- After a discard nothing of the unit is staged: the entries of its keys go, and those of a pending set come back with the values
in use. -/
theorem stagedOf_discardStaged (s : State) (u : Nat) : stagedOf (discardStaged s u) u = [] := by
  have hfold : ∀ (l : List (Nat × Word)) (t : State), stagedOf t u = [] →
      stagedOf (l.foldl (fun t e => stage t e.1 (rget t e.1 &&& rwsOfKey e.1)) t) u = [] := by
    intro l
    induction l with
    | nil => exact fun _ h => h
    | cons e r ih => exact fun t h => ih _ (stagedOf_stage_inUse h e.1)
  refine hfold _ _ ((stagedOf_eq_nil_iff _ u).2 fun e he _ _ hunit => ?_)
  have hother : keyUnit e.1 ≠ u := of_decide_eq_true (List.mem_filter.1 he).2
  exact absurd hunit hother

/-! ### Clearing LIVE and CFG_SKEW -/

/-- What `skewClear` does to each unit it goes through. -/
def skewOff (s : State) (x : Nat) : State := if (hdr s x).skew then setHdr s x { hdr s x with skew := false } else s

theorem skewClear_eq (s : State) (u : Nat) : skewClear s u = (unitsOf u).foldl skewOff s := rfl

theorem hdr_skewOff_same (s : State) (u : Nat) : hdr (skewOff s u) u = { hdr s u with skew := false } := by
  by_cases h : (hdr s u).skew = true
  · simp [skewOff, h]
  · rw [skewOff, if_neg h, ← Bool.eq_false_iff.2 h]

theorem hdr_skewOff_other (s : State) {u x : Nat} (hx : u ≠ x) : hdr (skewOff s x) u = hdr s u := by
  unfold skewOff
  split
  · exact hdr_setHdr_other s x u _ hx
  · rfl

/-- CFG_SKEW clears on every unit of a list, and nothing else of a header changes. -/
theorem hdr_skewOff_foldl (l : List Nat) (u : Nat) :
    ∀ s : State, hdr (l.foldl skewOff s) u = if u ∈ l then { hdr s u with skew := false } else hdr s u := by
  induction l with
  | nil => exact fun _ => rfl
  | cons x r ih =>
    intro s
    rw [List.foldl_cons, ih]
    by_cases hx : u = x
    · subst hx
      simp [hdr_skewOff_same]
    · simp [hdr_skewOff_other s hx, hx]

/-- The units a page's header serves begin with the page itself (R64). -/
theorem mem_unitsOf (u : Nat) : u ∈ unitsOf u := by
  unfold unitsOf
  split
  · exact List.mem_cons_self
  · split <;> exact List.mem_cons_self

theorem hdr_skewClear (s : State) (u : Nat) : hdr (skewClear s u) u = { hdr s u with skew := false } := by
  rw [skewClear_eq, hdr_skewOff_foldl, if_pos (mem_unitsOf u)]

/-- Clearing LIVE clears CFG_SKEW with it, and nothing else of the unit's header changes (R84). -/
theorem hdr_liveClear (s : State) (u : Nat) : hdr (liveClear s u) u = { hdr s u with live := false, skew := false } := by
  rw [liveClear, hdr_skewClear, hdr_setHdr]

/-- Clearing CFG_SKEW, and LIVE with it, touches the headers alone. -/
theorem skewOff_updates (s : State) (x : Nat) : ∃ h : Tbl Hdr, skewOff s x = { s with hdr := h } := by
  unfold skewOff
  split
  · exact ⟨_, rfl⟩
  · exact ⟨s.hdr, rfl⟩

theorem skewOff_foldl_updates (l : List Nat) : ∀ s : State, ∃ h : Tbl Hdr, l.foldl skewOff s = { s with hdr := h } := by
  induction l with
  | nil => exact fun s => ⟨s.hdr, rfl⟩
  | cons x r ih =>
    intro s
    obtain ⟨h, hx⟩ := skewOff_updates s x
    obtain ⟨g, hr⟩ := ih { s with hdr := h }
    exact ⟨g, by rw [List.foldl_cons, hx, hr]⟩

theorem liveClear_updates (s : State) (u : Nat) : ∃ h : Tbl Hdr, liveClear s u = { s with hdr := h } :=
  skewOff_foldl_updates (unitsOf u) (setHdr s u { hdr s u with live := false })

theorem stagedOf_liveClear (s : State) (u x : Nat) : stagedOf (liveClear s u) x = stagedOf s x := by
  obtain ⟨h, hupdates⟩ := liveClear_updates s u
  rw [hupdates]
  rfl

/-! ### A write of OWNER -/

/-- A header with the fields of OWNER as a write of `v` leaves them (R68). -/
def ownerFields (h : Hdr) (v : Word) : Hdr :=
  { h with owner := BitVec.ofNat 3 (fld v 2 0), readMask := BitVec.ofNat 8 (fld v 15 8), lock := bit v 31 }

/-- OWNER_WRITE on a unit that exists, as a step. -/
theorem exec_ownerWrite {u : BitVec 8} (hu : unitOk u.toNat = true) (s : State) (c : Ctx) (v : Word) :
    exec (.ownerWrite c u v) s = .next (settle (ownerReg s c u.toNat v)) := if_pos hu

section
variable {s : State} {c : Ctx} {u : Nat} (hreach : reaches s c u = true)
include hreach

/-- A write that R72 does not allow is captured and has no other effect. -/
theorem ownerReg_refused (h : (hdr s u).lock = true ∨ (c ≠ (hdr s u).owner ∧ c ≠ 0#3)) (v : Word) :
    ownerReg s c u v = capture s (pageOf u) c true 0x1 (rk u (ownerOff u) % 0x1000) := by
  rw [ownerReg, access_reaches hreach]
  exact if_pos (by simpa using h)

variable (hlock : (hdr s u).lock = false) (hmay : c = (hdr s u).owner ∨ c = 0#3)
include hlock hmay

/-- A write that R72 allows writes the register, and does what R73 says where OWNER.CTX changes. -/
theorem ownerReg_allowed (v : Word) :
    ownerReg s c u v =
      if BitVec.ofNat 3 (fld v 2 0) = (hdr s u).owner then setHdr s u (ownerFields (hdr s u) v)
      else liveClear (setHdr (discardStaged s u) u { ownerFields (hdr s u) v with reject := false }) u := by
  rw [ownerReg, access_reaches hreach]
  refine if_neg ?_
  rcases hmay with h | h <;> simp [hlock, h]

theorem ownerReg_sameOwner {v : Word} (hsame : BitVec.ofNat 3 (fld v 2 0) = (hdr s u).owner) :
    ownerReg s c u v = setHdr s u (ownerFields (hdr s u) v) :=
  (ownerReg_allowed hreach hlock hmay v).trans (if_pos hsame)

theorem ownerReg_newOwner {v : Word} (hnew : BitVec.ofNat 3 (fld v 2 0) ≠ (hdr s u).owner) :
    ownerReg s c u v =
      liveClear (setHdr (discardStaged s u) u { ownerFields (hdr s u) v with reject := false }) u :=
  (ownerReg_allowed hreach hlock hmay v).trans (if_neg hnew)

/-- The header that a change of OWNER.CTX leaves: the fields written, REJECT, LIVE and CFG_SKEW clear, the pending set kept. -/
theorem hdr_ownerReg_newOwner {v : Word} (hnew : BitVec.ofNat 3 (fld v 2 0) ≠ (hdr s u).owner) :
    hdr (ownerReg s c u v) u = { ownerFields (hdr s u) v with reject := false, live := false, skew := false } := by
  simp [ownerReg_newOwner hreach hlock hmay hnew, hdr_liveClear]

/-- An allowed write of OWNER puts its fields in the header. -/
theorem ownerFields_ownerReg (v : Word) :
    (hdr (ownerReg s c u v) u).owner = BitVec.ofNat 3 (fld v 2 0) ∧
      (hdr (ownerReg s c u v) u).readMask = BitVec.ofNat 8 (fld v 15 8) ∧ (hdr (ownerReg s c u v) u).lock = bit v 31 := by
  by_cases hsame : BitVec.ofNat 3 (fld v 2 0) = (hdr s u).owner
  · simp [ownerReg_sameOwner hreach hlock hmay hsame, ownerFields]
  · simp [hdr_ownerReg_newOwner hreach hlock hmay hsame, ownerFields]

/-- A change of OWNER.CTX touches the headers and the staged values alone. -/
theorem ownerReg_newOwner_updates {v : Word} (hnew : BitVec.ofNat 3 (fld v 2 0) ≠ (hdr s u).owner) :
    ∃ (h : Tbl Hdr) (g : Tbl (Option Word)), ownerReg s c u v = { s with hdr := h, stg := g } := by
  obtain ⟨g, hdiscard⟩ := discardStaged_updates s u
  rw [ownerReg_newOwner hreach hlock hmay hnew, hdiscard]
  exact (liveClear_updates _ u).imp fun _ h => ⟨g, h⟩

/-- A change of OWNER.CTX leaves nothing staged. -/
theorem stagedOf_ownerReg_newOwner {v : Word} (hnew : BitVec.ofNat 3 (fld v 2 0) ≠ (hdr s u).owner) :
    stagedOf (ownerReg s c u v) u = [] := by
  rw [ownerReg_newOwner hreach hlock hmay hnew, stagedOf_liveClear]
  exact stagedOf_discardStaged s u

/-- A change of OWNER.CTX bars no path and turns no domain off: whom a unit was reached by, it is reached by. -/
theorem reaches_ownerReg_newOwner {v : Word} (hnew : BitVec.ofNat 3 (fld v 2 0) ≠ (hdr s u).owner) (d : Ctx) (x : Nat) :
    reaches (settle (ownerReg s c u v)) d x = reaches s d x := by
  obtain ⟨h, g, hupdates⟩ := ownerReg_newOwner_updates hreach hlock hmay hnew
  rw [hupdates]
  rfl
end

/-- Settles O44: the three outcomes of `ownerReg`, and a write of APPLY by the former owner, who is another context now. -/
theorem ownerRegisterRule : Obligations.OwnerRegisterRule := by
  intro s c u v hu hreach
  refine ⟨fun hlock => ?_, fun _ hc hc0 => ?_, fun hlock hmay => ?_⟩
  · rw [exec_ownerWrite hu, ownerReg_refused hreach (.inl hlock)]
  · rw [exec_ownerWrite hu, ownerReg_refused hreach (.inr ⟨hc, hc0⟩)]
  · obtain ⟨howner, hmask, hlocked⟩ := ownerFields_ownerReg hreach hlock hmay v
    refine ⟨_, exec_ownerWrite hu s c v, howner, hmask, hlocked, fun hnew hformer => ?_⟩
    have hreach' := (reaches_ownerReg_newOwner hreach hlock hmay hnew.symm (hdr s u.toNat).owner u.toNat).trans hformer
    have hother : (hdr (settle (ownerReg s c u.toNat v)) u.toNat).owner ≠ (hdr s u.toNat).owner := by
      rw [hdr_settle, howner]
      exact hnew.symm
    exact (applyRow_wf hu _ _ _).trans (congrArg done (ownerWrite_other hreach' hother _ _))

/-! ### The boundary of a pending set, by kind of unit (R81) -/

section
variable {s : State} {u : Nat} (hpend : (hdr s u).pend.isSome = true)
include hpend

/-- A slot takes its set with what its run in progress and its EN ask for (R270, R294). -/
theorem boundary_slot (hlo : 64 ≤ u) (hhi : u < 128) : boundary s u = slotTake s (u - 64) := by
  have hchm : ¬ u ≤ 12 := by omega
  have hssns : ¬ u = 13 := by omega
  simp [boundary, Option.isSome_iff_ne_none.1 hpend, hchm, hssns, lSSNS, hlo, hhi]

/-- A Chamber's set takes effect whole, with what a Chamber does then. -/
theorem boundary_chamber (hlo : 5 ≤ u) (hhi : u ≤ 12) :
    boundary s u = chmApplied (takeEffect s u).1 s (u - 5) (takeEffect s u).2 := by
  have hunit : lCHMB (u - 5) = u := by simp only [lCHMB]; omega
  simp [boundary, chmBoundary, Option.isSome_iff_ne_none.1 hpend, hunit, hlo, hhi]

/-- The supply sense has a boundary of its own. -/
theorem boundary_ssns (hu : u = lSSNS) : boundary s u = ssnsBoundary s := by
  have hchm : ¬ (5 ≤ lSSNS ∧ lSSNS ≤ 12) := by decide
  subst hu
  simp [boundary, Option.isSome_iff_ne_none.1 hpend, hchm]

/-- Every other unit's set takes effect whole. -/
theorem boundary_whole (hssns : u ≠ lSSNS) (hchm : ¬ (5 ≤ u ∧ u ≤ 12)) (hslot : ¬ (64 ≤ u ∧ u < 128)) :
    boundary s u = applied (takeEffect s u).1 s u (takeEffect s u).2 := by
  simp [boundary, Option.isSome_iff_ne_none.1 hpend, hssns, hchm, hslot]
end

section
variable {s : State} {c : Ctx} {u : BitVec 8} (hu : unitOk u.toNat = true) (hreach : reaches s c u.toNat = true)
include hu hreach

/-- The boundary of a unit that is present and powered; field I/O has one channel by channel. -/
theorem exec_applyBoundary :
    exec (.applyBoundary u) s =
      done (if (decide (u.toNat = lFIO) && !atBoundary s u.toNat) = true then fioBoundary s else boundary s u.toNat) := by
  simp only [reaches, Bool.and_eq_true] at hreach
  obtain ⟨⟨-, hpresent⟩, hon⟩ := hreach
  refine (if_pos hu).trans (congrArg done (if_neg ?_))
  simp [hpresent, hon]

theorem exec_applyBoundary_page (hfio : u.toNat ≠ lFIO) : exec (.applyBoundary u) s = .next (settle (boundary s u.toNat)) := by
  rw [exec_applyBoundary hu hreach, if_neg (by simp [hfio]), done]

theorem exec_applyBoundary_fio (hpend : (hdr s u.toNat).pend.isSome = true) (hfio : u.toNat = lFIO) :
    exec (.applyBoundary u) s = .next (settle
      (if atBoundary s lFIO then applied (takeEffect s lFIO).1 s lFIO (takeEffect s lFIO).2 else fioBoundary s)) := by
  rw [exec_applyBoundary hu hreach, done]
  rw [hfio] at hpend ⊢
  cases hat : atBoundary s lFIO with
  | false => simp
  | true => simp [boundary_whole hpend (by decide) (by decide) (by decide)]
end

/-- Settles O45: the change leaves the header of `hdr_ownerReg_newOwner` and nothing staged, and with its pending set kept the boundary
of each kind of unit takes that set. -/
theorem ownerChangeDiscardsStagedFields : Obligations.OwnerChangeDiscardsStagedFields := by
  intro s c u v hu hreach hlock hmay howner
  have hnew := howner.symm
  have hhdr : hdr (settle (ownerReg s c u.toNat v)) u.toNat = _ := hdr_ownerReg_newOwner hreach hlock hmay hnew
  have hpend : (hdr (settle (ownerReg s c u.toNat v)) u.toNat).pend = (hdr s u.toNat).pend := by rw [hhdr]; rfl
  have hact : (ownerReg s c u.toNat v).act = s.act := by
    obtain ⟨h, g, hupdates⟩ := ownerReg_newOwner_updates hreach hlock hmay hnew
    rw [hupdates]
  have hreach' := (reaches_ownerReg_newOwner hreach hlock hmay hnew c u.toNat).trans hreach
  refine ⟨_, exec_ownerWrite hu s c v, stagedOf_ownerReg_newOwner hreach hlock hmay hnew, by rw [hhdr], by rw [hhdr], by rw [hhdr],
    hpend, hact, ?_⟩
  rw [← hpend]
  refine ⟨fun hp hfio hssns hchm hslot => ?_, fun hp hlo hhi => ?_, fun hp hlo hhi => ?_, fun hp hssns => ?_, fun hp hfio => ?_⟩
  · rw [exec_applyBoundary_page hu hreach' hfio, boundary_whole hp hssns hchm hslot]
  · have hfio : u.toNat ≠ lFIO := fun h => absurd (h ▸ hlo) (by decide)
    rw [exec_applyBoundary_page hu hreach' hfio, boundary_slot hp hlo hhi]
  · have hfio : u.toNat ≠ lFIO := fun h => absurd (h ▸ hhi) (by decide)
    rw [exec_applyBoundary_page hu hreach' hfio, boundary_chamber hp hlo hhi]
  · have hfio : u.toNat ≠ lFIO := fun h => absurd (h.symm.trans hssns) (by decide)
    rw [exec_applyBoundary_page hu hreach' hfio, boundary_ssns hp hssns]
  · exact exec_applyBoundary_fio hu hreach' hp hfio

end Sys2Proof.Machine
end

section
/-! PROOFS. One commit at a time crosses into the Grotto (R100). -/
namespace Sys2Proof.Machine

/-- What APPLY_STAT.PENDING of the GROT page shows is what keeps a further commit out of the Grotto. -/
theorem grotPending_of_pendingSet {s : State} (h : pendingSet s lGROT = true) : grotPending s = true := by
  simp only [pendingSet, Bool.or_eq_true, Bool.and_eq_true] at h
  rcases h with ⟨hset, _⟩ | hcommit
  · simp [grotPending, hset]
  · simp [grotPending, hcommit.2]

section
variable {s : State} {c : Ctx} (hpend : grotPending s = true)
include hpend

/-- CAL_SET_SEC of the owner, while a commit crosses, is captured and nothing else. -/
theorem exec_calSetSec_pending (howns : owns s c lGROT = true) (v : Word) :
    exec (.calSetSec c v) s = .next (settle (capture s lGROT c true 0x8 0x118)) :=
  congrArg done ((ownerWrite_owns howns 0x118 _).trans (if_pos hpend))

/-- Outside LIVE mode the KEY 0xA5 on the GROT page, while a commit crosses, is captured and nothing else. -/
theorem applyWrite_grot_pending (hlive : liveOn s lGROT = false) :
    applyWrite s c lGROT 0xA5 = capture s lGROT c true 0x8 0x20 := by
  simp [applyWrite, applyCommit, hlive, hpend]

/-- A write of 0xA5 to APPLY by the owner, while a commit crosses, is captured and nothing else. -/
theorem exec_applyCommit_grot_pending (howns : owns s c lGROT = true) (hlive : liveOn s lGROT = false) :
    exec (.applyCommit c 2#8) s = .next (settle (capture s lGROT c true 0x8 0x20)) := by
  have hrow : exec (.applyCommit c 2#8) s = done (ownerWrite s c lGROT 0x20 fun s => applyWrite s c lGROT 0xA5) :=
    applyRow_wf (u := 2#8) rfl s c 0xA5
  rw [hrow, ownerWrite_owns howns, applyWrite_grot_pending hpend hlive, done]
end

/-- Settles O48: both writes reach the GROT page and find its commit still crossing. -/
theorem oneGrottoCommitAtATime : Obligations.OneGrottoCommitAtATime := by
  intro s c v howns hset hlive
  have hpend := grotPending_of_pendingSet hset
  exact ⟨exec_calSetSec_pending hpend howns v, exec_applyCommit_grot_pending hpend howns hlive⟩

end Sys2Proof.Machine
end

section
/-! PROOFS. Hosts and DMA: the first inbound fault (R427), and the lock of the pinned regions (R432). -/
namespace Sys2Proof.Machine

/-! ### Keys of registers -/

/-- Every page starts at a multiple of 0x100 (R63). -/
theorem pageBase_mod (u : Nat) : pageBase u % 0x100 = 0 := by
  unfold pageBase
  repeat' refine iteInduction (motive := (· % 0x100 = 0)) (fun _ => ?_) fun _ => ?_
  all_goals omega

/-- Every page and sub-block starts at a multiple of 0x100 (R63, R64). -/
theorem unitBase_mod (u : Nat) : unitBase u % 0x100 = 0 := by
  unfold unitBase
  split_ifs
  · exact pageBase_mod u
  · omega
  · omega

/-- Registers whose offsets differ in the low byte have different keys, whatever their units. -/
theorem rk_ne_of_offset {o p : Nat} (h : o % 0x100 ≠ p % 0x100) (u x : Nat) : rk u o ≠ rk x p := by
  have hu := unitBase_mod u
  have hx := unitBase_mod x
  unfold rk
  omega

/-! ### Interrupt sources and counters -/

/-- A source that was raised is latched. -/
theorem bit_latched_raise (s : State) (u : Nat) {i : Nat} (hi : i < 32) : bit (hdr (raise s u i) u).latched i = true := by
  simp only [raise, hdr_setHdr, bit, BitVec.getLsbD_or, BitVec.getLsbD_ofNat, Nat.testBit_two_pow_self]
  simp [hi]

/-- A counter is a register: counting changes no header and no register of another key. -/
theorem hdr_countUp (s : State) (u o lo n v : Nat) : hdr (countUp s u o lo n) v = hdr s v := rfl
theorem reg_countUp_other {o p : Nat} (h : p % 0x100 ≠ o % 0x100) (s : State) (u x lo n : Nat) :
    reg (countUp s u o lo n) x p = reg s x p :=
  rget_rset_other s _ _ _ (rk_ne_of_offset h x u)

/-! ### The first inbound fault -/

/-- IN_FAULT after an inbound fault: what it holds while valid, else the fault. -/
def inFaultAfter (i : InFault) (c : Ctx) (w : Bool) (f : XFault) : InFault :=
  if i.valid then i else { valid := true, reason := f.reason, ctx := c, write := w, addr := BitVec.ofNat 64 f.addr }

theorem inFaultAfter_invalid {i : InFault} (h : i.valid = false) (c : Ctx) (w : Bool) (f : XFault) :
    inFaultAfter i c w f = { valid := true, reason := f.reason, ctx := c, write := w, addr := BitVec.ofNat 64 f.addr } := by
  simp [inFaultAfter, h]
theorem inFaultAfter_valid {i : InFault} (h : i.valid = true) (c : Ctx) (w : Bool) (f : XFault) : inFaultAfter i c w f = i := if_pos h

/-- Of the DMA engine and the IOMMU an inbound fault changes IN_FAULT alone. -/
theorem inboundFault_dma (s : State) (c : Ctx) (w : Bool) (f : XFault) :
    (inboundFault s c w f).dma = { s.dma with inFault := inFaultAfter s.dma.inFault c w f } := rfl

/-- IRQ_RAW.IN_FAULT is set by an inbound fault; the count of the port changes no header. -/
theorem bit_latched_inboundFault (s : State) (c : Ctx) (w : Bool) (f : XFault) :
    bit (hdr (inboundFault s c w f) lIOMMU).latched 0 = true := by
  rw [inboundFault, hdr_countUp]
  exact bit_latched_raise _ lIOMMU (by decide)

/-- An inbound fault leaves every register but ERR_CNT of a port alone. -/
theorem reg_inboundFault {o : Nat} (h : o % 0x100 ≠ 0x18) (s : State) (c : Ctx) (w : Bool) (f : XFault) (u : Nat) :
    reg (inboundFault s c w f) u o = reg s u o :=
  reg_countUp_other h _ _ u 0 32

/-- What a queue's state is formed from: its Q_CFG and the queues. -/
theorem qState_congr {s t : State} {n : Nat} (hcfg : reg t (uQUEUE n) 0x10 = reg s (uQUEUE n) 0x10) (hq : t.dma.q = s.dma.q) :
    qState t n = qState s n := by
  unfold qState qDepth qFill queue cfg
  rw [hcfg, hq]

/-- Settles O49: IN_FAULT is the one field of the DMA state that changes, and no queue's Q_CFG is the counter of a port. -/
theorem inboundFaultRecordedFirst : Obligations.InboundFaultRecordedFirst := by
  intro s c w f
  have hdma := inboundFault_dma s c w f
  have hq : (inboundFault s c w f).dma.q = s.dma.q := by rw [hdma]
  refine ⟨fun hfree => ?_, fun hvalid => ?_, bit_latched_inboundFault s c w f, hq, fun n => ?_⟩
  · simp [hdma, inFaultAfter_invalid hfree]
  · simp [hdma, inFaultAfter_valid hvalid]
  · exact qState_congr (reg_inboundFault (by decide) s c w f _) hq

/-! ### Before the lock of the pinned regions -/

/-- BLK_ENABLE of the owner, as a step. -/
theorem exec_blkEnable_owns {s : State} {c : Ctx} {u : BitVec 6} (hu : u.toNat ≤ 44) (howns : owns s c u.toNat = true) :
    exec (.blkEnable c u) s = .next (settle (enWrite s c u.toNat true)) :=
  (ctrlRow_wf (decide_eq_true hu) s c _).trans (congrArg done (ownerWrite_owns howns 0x8 _))

/-- Before the lock, EN = 1 on a disabled block that needs the pinned regions is captured and nothing else. -/
theorem enWrite_unlocked {s : State} {u : Nat} (hpage : 3 < u) (hneeds : needsPins u = true) (hen : (hdr s u).en = false)
    (hlock : s.pinLocked = false) (c : Ctx) : enWrite s c u true = capture s u c true 0x8 0x8 := by
  have hignored : ¬ u ≤ 3 := by omega
  simp [enWrite, hignored, hen, hneeds, hlock]

/-! ### After it -/

/-- The base of a pinned region is, once the declaration is locked, the word at its offset of the DMA page. -/
theorem pinBase_locked {s : State} (h : s.pinLocked = true) (o : Nat) : BitVec.ofNat 32 (pinBase s o) = reg s lDMA o := by
  simp [pinBase, h]

section
variable {s : State} {u o : Nat} {d : RegDef} (hblock : inHdr u o = false) (hreg : regAt u o = some d) (hrws : d.rws = 0)
  (hbits : d.rw ||| d.w1c ||| d.rc ||| d.ro = 0xFFFFFFFF)
include hblock hreg hrws hbits

/-- A block-specific register of 32 bits, none of them RWS, reads as its page shows it. -/
theorem wordOf_view {w : Word} (hview : pageView s u o = some w) (av : Bool) : wordOf s u o av = w := by
  have hall : w &&& 0xFFFFFFFF#32 = w := BitVec.and_allOnes
  simp [wordOf, hblock, regWord, hreg, hrws, hbits, hview, hall]

/-- Such a register that shows the base of a pinned region reads, once the declaration is locked, the locked word (R431). -/
theorem wordOf_pinBase (hlock : s.pinLocked = true) {p : Nat} (hview : pageView s u o = some (BitVec.ofNat 32 (pinBase s p))) :
    wordOf s u o false = reg s lDMA p := by
  rw [wordOf_view hblock hreg hrws hbits hview, pinBase_locked hlock]
end

/-- Settles O50: each of the four blocks needs the pinned regions, and each of the four base registers shows its `pinBase`. -/
theorem pinnedRegionsLockedBeforeEnable : Obligations.PinnedRegionsLockedBeforeEnable := by
  refine ⟨fun s c u hu howns hen hlock => ?_, fun s hlock => ?_⟩
  · have hblock : 3 < u.toNat ∧ u.toNat ≤ 44 ∧ needsPins u.toNat = true := by
      rcases hu with h | h | h | h <;> rw [h] <;> decide
    obtain ⟨hlo, hhi, hneeds⟩ := hblock
    rw [exec_blkEnable_owns hhi howns, enWrite_unlocked hlo hneeds hen hlock]
  · exact ⟨wordOf_pinBase rfl rfl rfl rfl hlock rfl, wordOf_pinBase rfl rfl rfl rfl hlock rfl,
      wordOf_pinBase rfl rfl rfl rfl hlock rfl, wordOf_pinBase rfl rfl rfl rfl hlock rfl⟩

end Sys2Proof.Machine
end

section
/-! PROOFS. What every step keeps: a command has an effect or is no command, and the interrupts settle behind it (R76, R77, R382, R408,
R433). -/
namespace Sys2Proof.Machine

/-! ### Every command completes -/

/-- The outcome of a command whose operands are checked first, by the check that admits them and by the one that refuses them. -/
theorem ite_done_of_iff {p : Prop} [Decidable p] {b : Bool} (h : b = true ↔ p) (t : State) :
    (if p then done t else .fault .illFormed) = if b then done t else .fault .illFormed := by
  simp only [h]
theorem ite_fault_of_iff {p : Prop} [Decidable p] {b : Bool} (h : b = true ↔ ¬ p) (t : State) :
    (if p then .fault .illFormed else done t) = if b then done t else .fault .illFormed := by
  simp only [h, ite_not]

/-- A command has its effect and the interrupts settle behind it; a term that is no command ends in the fault that says so. The arms
singled out check their operands, as `Instr.wf` says; the others have no operand to check. -/
theorem exec_eq_done_or_illFormed (i : Instr) (s : State) : ∃ t, exec i s = if i.wf then done t else .fault .illFormed := by
  cases i
  case deviceFault | ssnsWindowEnd | hostWindowAccess | applyCommit | applyDiscard | applyBoundary | ownerWrite | ownerLock => exact ⟨_, rfl⟩
  case liveSet | liveClear | blkEnable | blkDisable | softReset | softResetDone | freezeRequest | freezeReached | freezeClear | irqClrWrite |
      pinnedGrantTimeout => exact ⟨_, ite_done_of_iff decide_eq_true_iff _⟩
  case applyBadKey c u key =>
    cases hw : (Instr.applyBadKey c u key).wf with
    | true => exact ⟨_, execApplyBadKey_wf hw s⟩
    | false =>
      refine ⟨s, ?_⟩
      simp only [Instr.wf, wfUnit, Bool.and_eq_false_iff, decide_eq_false_iff_not, not_not] at hw
      rcases hw with (hu | hA5) | h5A
      · simp [exec, execApplyBadKey, applyRow, hu]
      · simp [exec, execApplyBadKey, hA5]
      · simp [exec, execApplyBadKey, h5A]
  case bootConfigLoad => exact ⟨_, ite_fault_of_iff (by simp [Instr.wf]) _⟩
  case canFrameRx => exact ⟨_, ite_fault_of_iff (by simp [Instr.wf, wfCan]) _⟩
  case serRawRecord => exact ⟨_, ite_fault_of_iff (by simp [Instr.wf, wfRaw]) _⟩
  case qspiRead => exact ⟨_, ite_fault_of_iff (by simp [Instr.wf]) _⟩
  case qspiUnknownOpcode => exact ⟨_, ite_fault_of_iff (by simp [Instr.wf, and_assoc]) _⟩
  case flowRecordIn =>
    cases h : s.flow.arriving with
    | nil => exact ⟨s, by simp [exec, execFlowRecordIn, h, Instr.wf]⟩
    | cons r rest => exact ⟨queueRec { s with flow := { s.flow with arriving := rest } } r, by simp [exec, execFlowRecordIn, h, Instr.wf]⟩
  all_goals exact ⟨_, (if_pos rfl).symm⟩

/-- Settles O56: the outcome is by the check of the operands alone. -/
theorem everyCommandCompletes : Obligations.EveryCommandCompletes := by
  intro i s
  obtain ⟨t, h⟩ := exec_eq_done_or_illFormed i s
  exact ⟨fun hw => ⟨settle t, by rw [h, if_pos hw, done]⟩, fun hw => by simp [h, hw]⟩

/-! ### Steps -/

/-- Settles O51: the queue is first in, first out. -/
theorem stepRunsTheFrontCommand : Obligations.StepRunsTheFrontCommand := by
  intro s c r h
  simp [step, h]

/-- A step settles the interrupts behind what it did, or is the fault of a term that is no command. -/
theorem step_eq_done_or_fault (s : State) : (∃ t, step s = done t) ∨ step s = .fault .illFormed := by
  cases hq : s.pending with
  | nil => exact .inl ⟨galDryTick (tick s), by simp [step, hq]⟩
  | cons i rest =>
    obtain ⟨t, h⟩ := exec_eq_done_or_illFormed i { s with pending := rest }
    rw [stepRunsTheFrontCommand s i rest hq, h]
    split
    · exact .inl ⟨t, rfl⟩
    · exact .inr rfl

/-! ### What settling leaves -/

/-- Settling changes no interrupt source, so CTX_PEND is what it was. -/
theorem ctxPend_settle (s : State) (c : Ctx) : ctxPend (settle s) c = ctxPend s c := rfl

/-- What the settling leaves is settled: the vectors on record are those asserted, and a NOTIFY stays on record only over sources. -/
theorem settled_of_settle (s : State) : Settled (settle s) := by
  obtain ⟨h0, h1⟩ := settled_settle s
  refine ⟨h0, h1, fun hn => ?_⟩
  have hpend : (s.net.notified && decide (ctxPend s 6#3 ≠ 0)) = true := hn
  rw [ctxPend_settle]
  exact of_decide_eq_true (Bool.and_eq_true_iff.1 hpend).2

/-- Settles O53: whatever state a step answers, the settling made it. -/
theorem everyStepSettlesInterrupts : Obligations.EveryStepSettlesInterrupts := by
  intro s t hstep
  rcases step_eq_done_or_fault s with ⟨u, hdone⟩ | hfault
  · rw [hdone] at hstep
    cases hstep
    exact settled_of_settle u
  · rw [hfault] at hstep
    cases hstep

/-- Settles O54: after reset no source is latched and no host link is up. -/
theorem interruptsSettledAfterReset : Obligations.InterruptsSettledAfterReset := by
  unfold Obligations.InterruptsSettledAfterReset Settled
  decide

/-- The vectors that settling sends toward a port: those asserted and not on record. -/
def risingVectors (s : State) (port : Nat) (sent : List Nat) : List Nat := (vectorsOf s port).filter (fun n => !sent.contains n)

theorem mem_risingVectors {s : State} {port : Nat} {sent : List Nat} {n : Nat} :
    n ∈ risingVectors s port sent ↔ n ∈ vectorsOf s port ∧ n ∉ sent := by
  simp [risingVectors]

/-- Settles O55: what is sent is the two lists of rising vectors, one for each port. -/
theorem settlingSendsRisingLinesOnly : Obligations.SettlingSendsRisingLinesOnly := by
  intro s
  have h0 : ∀ n, Out.msix 0 n ∈ (risingVectors s 0 s.msi0).map (Out.msix 0) ++ (risingVectors s 1 s.msi1).map (Out.msix 1) ↔
      n ∈ vectorsOf s 0 ∧ n ∉ s.msi0 := fun n => by simp [mem_risingVectors]
  have h1 : ∀ n, Out.msix 1 n ∈ (risingVectors s 0 s.msi0).map (Out.msix 0) ++ (risingVectors s 1 s.msi1).map (Out.msix 1) ↔
      n ∈ vectorsOf s 1 ∧ n ∉ s.msi1 := fun n => by simp [mem_risingVectors]
  refine ⟨_, (settle_out s).trans (List.append_assoc ..), fun n hn hmem => ((h0 n).1 hmem).2 hn, fun n hn hmem => ((h1 n).1 hmem).2 hn,
    h0, h1, fun o ho => ?_, rfl⟩
  rcases List.mem_append.1 ho with h | h
  · obtain ⟨n, -, rfl⟩ := List.mem_map.1 h
    exact ⟨n, .inl rfl⟩
  · obtain ⟨n, -, rfl⟩ := List.mem_map.1 h
    exact ⟨n, .inr rfl⟩

end Sys2Proof.Machine
end

section
/-! PROOFS. The blocks of a context (R181, R202, R241, R267, R361), and values that cross into an off domain (R14, R78). -/
namespace Sys2Proof.Machine

/-! ### The blocks of a context -/

/-- Every command that `blockOnly` names is a write in the block of CTX_x, at the register it names. -/
theorem exec_blockOnly {i : Instr} {x c : Ctx} {u o : Nat} (h : blockOnly i = some (x, c, u, o)) :
    ∃ k : State → State, ∀ s, exec i s = done (ctxWrite s x c u o k) := by
  cases i
  all_goals cases h <;> exact ⟨_, fun _ => rfl⟩

/-- Settles O43: a write of another context in such a block is captured and nothing else. -/
theorem contextBlocksTakeTheirContextOnly : Obligations.ContextBlocksTakeTheirContextOnly := by
  intro i x c u o s hblock hreach hc
  obtain ⟨k, hexec⟩ := exec_blockOnly hblock
  rw [hexec, ctxWrite_other hreach hc, done]

/-! ### Counting what is dropped -/

/-- A field from bit 0 is the low bits of the word. -/
theorem fld_low (w : Word) (n : Nat) : fld w n 0 = w.toNat % 2 ^ (n + 1) := by
  simp [fld, bitsOf]

/-- Of a word merged under a mask of the low bits, the low bits are the new ones. -/
theorem fld_maskMerge_low {n : Nat} (hn : n < 32) (w v : Word) :
    fld (maskMerge (BitVec.ofNat 32 (2 ^ (n + 1) - 1)) w v) n 0 = fld v n 0 := by
  rw [fld_low, fld_low]
  refine Nat.eq_of_testBit_eq fun i => ?_
  simp only [Nat.testBit_mod_two_pow, BitVec.testBit_toNat, maskMerge, BitVec.getLsbD_or, BitVec.getLsbD_and, BitVec.getLsbD_not,
    BitVec.getLsbD_ofNat, Nat.testBit_two_pow_sub_one]
  by_cases hi : i < n + 1
  · have hi32 : i < 32 := by omega
    simp [hi, hi32]
  · simp [hi]

theorem satInc_lt (n v : Nat) : satInc n v < 2 ^ n := by
  have := Nat.two_pow_pos n
  unfold satInc
  split <;> omega

/-- A counter from bit 0 counts up to its largest value. -/
theorem fld_reg_countUp {n : Nat} (hn : n < 32) (s : State) (u o : Nat) :
    fld (reg (countUp s u o 0 (n + 1)) u o) n 0 = satInc (n + 1) (fld (reg s u o) n 0) := by
  have hlt := satInc_lt (n + 1) (fld (reg s u o) n 0)
  have hpow : 2 ^ (n + 1) ≤ 2 ^ 32 := Nat.pow_le_pow_right (by decide) hn
  have hmod : satInc (n + 1) (fld (reg s u o) n 0) % 2 ^ 32 = satInc (n + 1) (fld (reg s u o) n 0) := Nat.mod_eq_of_lt (by omega)
  simp only [countUp, reg_setReg, Nat.pow_zero, Nat.mul_one, Nat.zero_add, Nat.add_sub_cancel]
  rw [fld_maskMerge_low hn, fld_low (BitVec.ofNat 32 _), BitVec.toNat_ofNat, hmod, Nat.mod_eq_of_lt hlt]

/-- DROP_ABSENT of a block: 16 bits that stop at their largest value. -/
theorem fld_dropAbsent (s : State) (line : Nat) :
    fld (reg (countUp s lSYS (0x200 + 4 * line) 0 16) lSYS (0x200 + 4 * line)) 15 0 =
      min (fld (reg s lSYS (0x200 + 4 * line)) 15 0 + 1) 0xFFFF := by
  rw [fld_reg_countUp (n := 15) (by decide), satInc]
  split <;> omega

/-- Counting touches one register alone. -/
theorem rget_countUp_other {s : State} {u o k : Nat} (h : k ≠ rk u o) (lo n : Nat) : rget (countUp s u o lo n) k = rget s k :=
  rget_rset_other s _ _ _ h

theorem dropAbsent_aon {s : State} (h : domOn s dAON = true) (line : Nat) :
    dropAbsent s line = countUp s lSYS (0x200 + 4 * line) 0 16 := if_pos h

/-! ### Values on their way -/

section
variable {s : State} {x : Xing} {r : List Xing} (hx : s.xing = x :: r)
include hx

/-- The oldest value on its way arrives where its destination is powered. -/
theorem exec_crossingArrival_on (hon : unitOn s x.dst = true) :
    exec .crossingArrival s = .next (settle (arrive { s with xing := r } x.what)) := by
  have hon' : unitOn { s with xing := r } x.dst = true := hon
  simp [exec, execCrossingArrival, hx, hon', done]

/-- It is dropped where its destination is not. -/
theorem exec_crossingArrival_off (hoff : unitOn s x.dst = false) :
    exec .crossingArrival s = .next (settle (dropAbsent { s with xing := r } x.src)) := by
  have hoff' : unitOn { s with xing := r } x.dst = false := hoff
  simp [exec, execCrossingArrival, hx, hoff', done]
end

/-- Settles O40: a value presented to an off domain, and one that would arrive there, ends as a count of DROP_ABSENT, where its page is
powered. -/
theorem crossingIntoOffDomainDropped : Obligations.CrossingIntoOffDomainDropped := by
  refine ⟨fun s src dst x hoff _ haon => ?_, fun s x r hx hoff _ haon => ?_, fun s x r hx hoff haon => ?_⟩
  · have hsend : send s src dst x = countUp s lSYS (0x200 + 4 * src) 0 16 := by simp [send, hoff, dropAbsent_aon haon]
    rw [hsend]
    exact ⟨rfl, fld_dropAbsent s src, fun k hk => rget_countUp_other hk 0 16, rfl⟩
  · have hdrop : dropAbsent { s with xing := r } x.src = countUp { s with xing := r } lSYS (0x200 + 4 * x.src) 0 16 :=
      dropAbsent_aon (s := { s with xing := r }) haon _
    refine ⟨_, exec_crossingArrival_off hx hoff, ?_⟩
    rw [hdrop]
    exact ⟨rfl, fld_dropAbsent _ _, fun k hk => rget_countUp_other hk 0 16, rfl⟩
  · rw [exec_crossingArrival_off hx hoff]
    have haon' : domOn { s with xing := r } dAON = false := haon
    simp [dropAbsent, haon']

end Sys2Proof.Machine
end

section
/-! PROOFS. The passing of time on an empty queue (R88, R89; assumption 5). -/
namespace Sys2Proof.Machine

/-- A step on an empty queue with no dry run is a tick. -/
theorem step_idle {s : State} (hq : s.pending = []) (hdry : s.gal.dry = []) : step s = done (tick s) := by
  have hdry' : (tick s).gal.dry = [] := by
    unfold tick
    dsimp only
    split
    · exact hdry
    · split <;> exact hdry
  simp [step, hq, galDryTick, hdry']

/-! ### A tick -/

/-- A quarter of a period in which the counter does not move: with PD_NET off, and before the end of a period. -/
def quarterOff (s : State) : State := { s with now := s.now + 2 }
def quarterOn (s : State) : State := { s with now := s.now + 2, ptp := { s.ptp with sub := s.ptp.sub + 1#2 } }

/-- The clock at the end of a period: the counter has advanced by 8 ns and its rate, the fraction of a nanosecond kept (R88). -/
def clockAdvanced (p : Ptp) : Ptp :=
  let acc : Int := p.frac + (8 * 1024000000000 + 8 * p.rate)
  { p with time := p.time + BitVec.ofInt 64 (acc / 1024000000000), frac := (acc % 1024000000000).toNat, sub := 0#2 }
def periodEnd (s : State) : State := { s with now := s.now + 2, ptp := clockAdvanced s.ptp }

theorem tick_off {s : State} (hoff : domOn s dNET = false) : tick s = quarterOff s := by
  have hoff' : domOn { s with now := s.now + 2 } dNET = false := hoff
  simp [tick, quarterOff, hoff']

section
variable {s : State} (hon : domOn s dNET = true)
include hon

theorem tick_quarter (hsub : s.ptp.sub ≠ 3#2) : tick s = quarterOn s := by
  have hon' : domOn { s with now := s.now + 2 } dNET = true := hon
  simp [tick, quarterOn, hon', hsub]

theorem tick_period (hsub : s.ptp.sub = 3#2) : tick s = periodEnd s := by
  have hon' : domOn { s with now := s.now + 2 } dNET = true := hon
  simp [tick, periodEnd, clockAdvanced, hon', hsub, Int.add_assoc]
end

/-- While the period lasts the interpolated TIME64 advances with uptime. -/
theorem time64_quarterOn {s : State} (hsub : s.ptp.sub ≠ 3#2) : time64 (quarterOn s) = time64 s + 2#64 := by
  have hlt : s.ptp.sub.toNat < 3 := by
    have : s.ptp.sub.toNat ≠ 3 := fun h => hsub (BitVec.eq_of_toNat_eq h)
    omega
  have hnext : (s.ptp.sub + 1#2).toNat = s.ptp.sub.toNat + 1 := by
    rw [BitVec.toNat_add_of_lt (by simp; omega)]
    rfl
  simp [time64, quarterOn, hnext, Nat.mul_add, BitVec.ofNat_add, BitVec.add_assoc]

/-! ### Periods -/

/-- The state at the start of the next period. -/
def nextPeriod (s : State) : State :=
  if domOn s dNET then settle (periodEnd (settle (quarterOn (settle (quarterOn (settle (quarterOn s)))))))
  else settle (quarterOff (settle (quarterOff (settle (quarterOff (settle (quarterOff s)))))))

/-- A period changes uptime and, while PD_NET is on, the clock; the queue, the Gallery and the domains are what they were. -/
theorem nextPeriod_pending (s : State) : (nextPeriod s).pending = s.pending := by unfold nextPeriod; split <;> rfl
theorem nextPeriod_gal (s : State) : (nextPeriod s).gal = s.gal := by unfold nextPeriod; split <;> rfl
theorem domOn_nextPeriod (s : State) (d : Nat) : domOn (nextPeriod s) d = domOn s d := by unfold nextPeriod; split <;> rfl
theorem nextPeriod_now (s : State) : (nextPeriod s).now = s.now + 8 := by unfold nextPeriod; split <;> rfl
theorem nextPeriod_ptp (s : State) : (nextPeriod s).ptp = if domOn s dNET then clockAdvanced s.ptp else s.ptp := by
  unfold nextPeriod; split <;> rfl

theorem idle_step {s : State} (hq : s.pending = []) (hdry : s.gal.dry = []) (n : Nat) : idle (n + 1) s = idle n (settle (tick s)) := by
  simp [idle, step_idle hq hdry, done]

/-- Four steps from the start of a period lead to the start of the next. -/
theorem idle_period {s : State} (hq : s.pending = []) (hdry : s.gal.dry = []) (hsub : s.ptp.sub = 0#2) (n : Nat) :
    idle (n + 4) s = idle n (nextPeriod s) := by
  unfold nextPeriod
  cases hdom : domOn s dNET with
  | false =>
    have hquarter : ∀ (t : State) (m : Nat), t.pending = [] → t.gal.dry = [] → domOn t dNET = false →
        idle (m + 1) t = idle m (settle (quarterOff t)) := fun t m hq hdry hoff => by rw [idle_step hq hdry, tick_off hoff]
    exact (hquarter s _ hq hdry hdom).trans ((hquarter (settle (quarterOff s)) _ hq hdry hdom).trans
      ((hquarter (settle (quarterOff (settle (quarterOff s)))) _ hq hdry hdom).trans
        (hquarter (settle (quarterOff (settle (quarterOff (settle (quarterOff s)))))) _ hq hdry hdom)))
  | true =>
    have hquarter : ∀ (t : State) (m : Nat), t.pending = [] → t.gal.dry = [] → domOn t dNET = true → t.ptp.sub ≠ 3#2 →
        idle (m + 1) t = idle m (settle (quarterOn t)) := fun t m hq hdry hon hsub => by rw [idle_step hq hdry, tick_quarter hon hsub]
    have h0 : s.ptp.sub ≠ 3#2 := by rw [hsub]; decide
    have h1 : s.ptp.sub + 1#2 ≠ 3#2 := by rw [hsub]; decide
    have h2 : s.ptp.sub + 1#2 + 1#2 ≠ 3#2 := by rw [hsub]; decide
    have h3 : s.ptp.sub + 1#2 + 1#2 + 1#2 = 3#2 := by rw [hsub]; decide
    have hlast : ∀ (t : State), t.pending = [] → t.gal.dry = [] → domOn t dNET = true → t.ptp.sub = 3#2 →
        idle (n + 1) t = idle n (settle (periodEnd t)) := fun t hq hdry hon hsub => by rw [idle_step hq hdry, tick_period hon hsub]
    exact (hquarter s _ hq hdry hdom h0).trans ((hquarter (settle (quarterOn s)) _ hq hdry hdom h1).trans
      ((hquarter (settle (quarterOn (settle (quarterOn s)))) _ hq hdry hdom h2).trans
        (hlast (settle (quarterOn (settle (quarterOn (settle (quarterOn s)))))) hq hdry hdom h3)))

theorem time_clockAdvanced (p : Ptp) : (clockAdvanced p).time =
    p.time + BitVec.ofInt 64 (((p.frac : Int) + (8 * 1024000000000 + 8 * p.rate)) / 1024000000000) := rfl

/-- The fraction of a nanosecond is kept within one. -/
theorem frac_clockAdvanced (p : Ptp) :
    ((clockAdvanced p).frac : Int) = ((p.frac : Int) + (8 * 1024000000000 + 8 * p.rate)) % 1024000000000 :=
  Int.toNat_of_nonneg (Int.emod_nonneg _ (by decide))

/-- Whole nanoseconds of an interval and of what was left over before it add up. -/
theorem ediv_add_emod_ediv (a b m : Int) (hm : m ≠ 0) : a / m + (a % m + b) / m = (a + b) / m := by
  have hsplit : a + b = (a % m + b) + m * (a / m) := by have := Int.emod_add_mul_ediv a m; omega
  rw [hsplit, Int.add_mul_ediv_left _ _ hm, Int.add_comm]

/-- Settles O52: a step of a running period is a quarter, and four steps from its start lead to the start of the next; what is left over
of a nanosecond counts in the next period. -/
theorem idleStepsAdvanceTime : Obligations.IdleStepsAdvanceTime := by
  refine ⟨fun s hq hdry hon hsub => ?_, fun n => ?_⟩
  · exact ⟨quarterOn s, by rw [step_idle hq hdry, done, tick_quarter hon hsub], rfl, time64_quarterOn hsub⟩
  · induction n with
    | zero =>
      intro s _ _ hfrac hsub
      refine ⟨s, rfl, rfl, fun _ => ⟨?_, ?_, hsub⟩, fun _ => rfl⟩
      · have : ((s.ptp.frac : Int) + (0 : Nat) * (8 * 1024000000000 + 8 * s.ptp.rate)) / 1024000000000 = 0 := by omega
        rw [this]
        simp
      · omega
    | succ n ih =>
      intro s hq hdry hfrac hsub
      have hptp := nextPeriod_ptp s
      obtain ⟨t, hidle, hnow, hclock, hstopped⟩ := ih (nextPeriod s) (by rw [nextPeriod_pending, hq]) (by rw [nextPeriod_gal, hdry])
        (by
          rw [hptp]
          split
          · have := frac_clockAdvanced s.ptp; omega
          · exact hfrac)
        (by rw [hptp]; split; exacts [rfl, hsub])
      rw [domOn_nextPeriod] at hclock hstopped
      refine ⟨t, (idle_period hq hdry hsub (4 * n)).trans hidle, by rw [hnow, nextPeriod_now]; omega, fun hon => ?_, fun hoff => ?_⟩
      · obtain ⟨htime, hfrac', hsub'⟩ := hclock hon
        rw [hptp, if_pos hon] at htime hfrac'
        rw [frac_clockAdvanced] at htime hfrac'
        have hrate : (clockAdvanced s.ptp).rate = s.ptp.rate := rfl
        have hstep : (s.ptp.frac : Int) + (n + 1 : Nat) * (8 * 1024000000000 + 8 * s.ptp.rate) =
            (s.ptp.frac + (8 * 1024000000000 + 8 * s.ptp.rate)) + n * (8 * 1024000000000 + 8 * s.ptp.rate) := by push_cast; ring
        refine ⟨?_, ?_, hsub'⟩
        · rw [htime, hrate, hstep, time_clockAdvanced, BitVec.add_assoc, ← BitVec.ofInt_add, ediv_add_emod_ediv _ _ _ (by decide)]
        · rw [hfrac', hrate, hstep, Int.emod_add_emod]
      · rw [hstopped hoff, hptp, if_neg (by simp [hoff])]

end Sys2Proof.Machine
end

section
/-! PROOFS. Sets: what takes effect (R79 to R81), what a failed check leaves (R80), and the header registers by address (R67, R68). -/
namespace Sys2Proof.Machine

/-! ### A set takes effect -/

/-- One field set of a pending set takes effect: the RWS bits of its register, the others as they stand. -/
def takeOne (s : State) (e : Nat × Word) : State := rset s e.1 (maskMerge (rwsOfKey e.1) (rget s e.1) e.2)

/-- Of a merged word the bits under the mask are the new ones, the others the old ones. -/
theorem maskMerge_and_mask (m w v : Word) : maskMerge m w v &&& m = v &&& m := by
  unfold maskMerge
  ext i
  simp only [BitVec.getElem_and, BitVec.getElem_or, BitVec.getElem_not]
  cases m[i] <;> simp
theorem maskMerge_and_not_mask (m w v : Word) : maskMerge m w v &&& ~~~m = w &&& ~~~m := by
  unfold maskMerge
  ext i
  simp only [BitVec.getElem_and, BitVec.getElem_or, BitVec.getElem_not]
  cases m[i] <;> simp

theorem rget_takeOne_other {s : State} {e : Nat × Word} {k : Nat} (h : e.1 ≠ k) : rget (takeOne s e) k = rget s k :=
  rget_rset_other s _ _ _ h.symm

/-- The bits that no staging reaches keep their values. -/
theorem rget_takeOne_fixed (s : State) (e : Nat × Word) (k : Nat) : rget (takeOne s e) k &&& ~~~rwsOfKey k = rget s k &&& ~~~rwsOfKey k := by
  by_cases h : e.1 = k
  · subst h
    rw [takeOne, rget_rset, maskMerge_and_not_mask]
  · rw [rget_takeOne_other h]

theorem rget_take_other {set : List (Nat × Word)} {k : Nat} (h : ∀ e ∈ set, e.1 ≠ k) :
    ∀ s : State, rget (set.foldl takeOne s) k = rget s k := by
  induction set with
  | nil => exact fun _ => rfl
  | cons x r ih =>
    intro s
    rw [List.foldl_cons, ih fun e he => h e (List.mem_cons_of_mem x he), rget_takeOne_other (h x List.mem_cons_self)]

theorem rget_take_fixed (set : List (Nat × Word)) (k : Nat) :
    ∀ s : State, rget (set.foldl takeOne s) k &&& ~~~rwsOfKey k = rget s k &&& ~~~rwsOfKey k := by
  induction set with
  | nil => exact fun _ => rfl
  | cons x r ih => exact fun s => (ih _).trans (rget_takeOne_fixed s x k)

/-- A register that the set names once takes the value it names. -/
theorem rget_take_once {set : List (Nat × Word)} {e : Nat × Word} (he : e ∈ set) (honce : (set.filter (fun x => x.1 = e.1)).length = 1) :
    ∀ s : State, rget (set.foldl takeOne s) e.1 &&& rwsOfKey e.1 = e.2 &&& rwsOfKey e.1 := by
  induction set with
  | nil => cases he
  | cons x r ih =>
    intro s
    by_cases hx : x.1 = e.1
    · have hrest : ∀ y ∈ r, y.1 ≠ e.1 := by
        simpa [hx, List.filter_eq_nil_iff] using honce
      have hex : e = x := by
        rcases List.mem_cons.1 he with h | h
        · exact h
        · exact absurd rfl (hrest e h)
      rw [List.foldl_cons, rget_take_other hrest, takeOne, ← hex, rget_rset, maskMerge_and_mask]
    · rcases List.mem_cons.1 he with rfl | hr
      · exact absurd rfl hx
      · exact ih hr (by simpa [hx] using honce) (takeOne s x)

theorem take_updates (set : List (Nat × Word)) : ∀ s : State, ∃ a : Tbl Word, set.foldl takeOne s = { s with act := a } := by
  induction set with
  | nil => exact fun s => ⟨s.act, rfl⟩
  | cons x r ih =>
    intro s
    obtain ⟨a, h⟩ := ih (takeOne s x)
    exact ⟨a, h⟩

/-- A set of APPLY takes effect whole: every field of it, then the header shows it (R80 step 4). -/
theorem takeEffect_set {s : State} {u : Nat} {set : List (Nat × Word)} (hpend : (hdr s u).pend = some set)
    (hlive : (hdr s u).livePend = false) :
    (takeEffect s u).1 = raise (setHdr (set.foldl takeOne s) u { hdr s u with pend := none, gen := (hdr s u).gen + 1 }) (pageOf u) 30 := by
  have hhdr : hdr (set.foldl takeOne s) u = hdr s u := by
    obtain ⟨a, h⟩ := take_updates set s
    rw [h]
    rfl
  have hall : set.filter (fun _ => true) = set := List.filter_true set
  have hfold : set.foldl (fun t e => rset t e.1 (maskMerge (rwsOfKey e.1) (rget t e.1) e.2)) s = set.foldl takeOne s := rfl
  simp [takeEffect, takePart, hpend, hfold, hhdr, hlive]

/-- Settles O58: the registers are those that the fold over the set leaves, and the header is written once behind it. -/
theorem committedSetTakesEffectAsAWhole : Obligations.CommittedSetTakesEffectAsAWhole := by
  intro s u set hpend hlive hu
  have hpage : pageOf u = u := if_pos hu
  obtain ⟨a, hact⟩ := take_updates set s
  dsimp only
  rw [takeEffect_set hpend hlive, hpage]
  refine ⟨?_, ?_, bit_latched_raise _ _ (by decide), fun k hk => rget_take_other hk s, fun e he honce => rget_take_once he honce s,
    fun k => rget_take_fixed set k s, ?_⟩
  · simp [raise]
  · simp [raise]
  · rw [hact]
    rfl

/-! ### A set is rejected -/

section
variable {s : State} {u : Nat} (hlive : liveOn s u = false) (hgrot : u ≠ lGROT ∨ grotPending s = false)
include hlive hgrot

/-- KEY 0xA5 outside LIVE mode, with no commit on its way into the Grotto, checks the set as a whole: the first failure rejects it, -/
theorem applyWrite_rejects {k : Chk} (hfail : firstFail (checks s (withStaged s u) u) = some k) (c : Ctx) :
    applyWrite s c u 0xA5 = rejectChk s u k := by
  have hcapture : ¬ (decide (u = lGROT) && grotPending s) = true := by
    rcases hgrot with h | h <;> simp [h]
  simp [applyWrite, applyCommit, hlive, hcapture, hfail]

/-- and a set that passes waits, and takes effect where the unit is at its boundary (R80, R81). -/
theorem applyWrite_passes (hpass : firstFail (checks s (withStaged s u) u) = none) (c : Ctx) :
    applyWrite s c u 0xA5 = settlePend (setHdr s u { hdr s u with
      pend := some (stagedOf s u), livePend := false, reject := false, reason := 0#8, rejOff := 0#12 }) u := by
  have hcapture : ¬ (decide (u = lGROT) && grotPending s) = true := by
    rcases hgrot with h | h <;> simp [h]
  simp [applyWrite, applyCommit, hlive, hcapture, hpass]
end

/-- APPLY_COMMIT of the owner, as a step. -/
theorem exec_applyCommit_owns {s : State} {c : Ctx} {u : BitVec 8} (hu : unitOk u.toNat = true) (howns : owns s c u.toNat = true) :
    exec (.applyCommit c u) s = .next (settle (applyWrite s c u.toNat 0xA5)) :=
  (applyRow_wf hu s c 0xA5).trans (congrArg done (ownerWrite_owns howns _ _))

/-- A page is a unit, and its own header serves it. -/
theorem unitOk_page {u : Nat} (hu : u ≤ 44) : unitOk u = true := by simp [unitOk, hu]
theorem pageOf_page {u : Nat} (hu : u ≤ 44) : pageOf u = u := if_pos (by omega)

/-- Settles O59: the rejection writes the header of the page and nothing else. -/
theorem rejectedSetChangesNothing : Obligations.RejectedSetChangesNothing := by
  intro s c u k hu howns hlive hgrot hfail
  have hpage := pageOf_page hu
  have hlive' : liveOn s u.toNat = false := by rw [liveOn, hpage, hlive]
  have hreject : applyWrite s c u.toNat 0xA5 = rejectChk s u.toNat k := applyWrite_rejects hlive' hgrot hfail c
  refine ⟨_, exec_applyCommit_owns (unitOk_page hu) howns, ?_⟩
  rw [hreject, rejectChk, hpage]
  simp only [hdr_settle, settle_act, settle_stg, settle_mem]
  refine ⟨?_, ?_, ?_, bit_latched_raise _ _ (by decide), ?_, ?_, rfl, rfl, rfl, fun v hv => ?_⟩
  · simp [raise]
  · simp [raise]
  · simp [raise]
  · simp [raise]
  · simp [raise]
  · rw [raise, hdr_setHdr_other _ _ _ _ hv, hdr_setHdr_other _ _ _ _ hv]

/-! ### The header registers by address -/

/-- The pages lie on 4 KiB of their own, clear of the slots and the queues (R63, R64). -/
theorem pageBase_page : ∀ u < 45, pageBase u % 0x1000 = 0 ∧ pageBase u < 0x120000 ∧ (pageBase u < 0x61000 ∨ 0x69000 ≤ pageBase u) ∧
    (pageBase u < 0xE1000 ∨ 0xE9000 ≤ pageBase u) := by decide
theorem pageAt_pageBase : ∀ u < 45, pageAt (pageBase u) = some u := by decide

/-- A header register of a page stands at its offset from the page's base. -/
theorem placeOf_header {u o : Nat} (hu : u ≤ 44) (ho : o < 0x100) : placeOf (pageBase u + o) = some ⟨u, o, false⟩ := by
  obtain ⟨hmod, -, hslots, hqueues⟩ := pageBase_page u (by omega)
  have hpage : pageAt (pageBase u + o) = some u := by
    have hsame : (pageBase u + o) / 0x1000 = pageBase u / 0x1000 := by omega
    rw [← pageAt_pageBase u (by omega), pageAt, pageAt, hsame]
  have hoff : (pageBase u + o) % 0x800 = o := by omega
  have hview : ¬ 0x800 ≤ (pageBase u + o) % 0x1000 := by omega
  rw [placeOf, if_neg (by omega), if_neg (by omega), if_neg (by omega), if_neg (by omega), hpage]
  simp [hoff, hview]

/-- A write of a page's register by its address is an access of the context to that register. -/
theorem busPlace_header {u o : Nat} (hu : u ≤ 44) (ho : o < 0x100) (s : State) (c : Ctx) (k : Place → State → State) :
    busPlace s c (0x40000000 + (pageBase u + o)) true k = access s c u o true (k ⟨u, o, false⟩) := by
  obtain ⟨hmod, hhi, -, -⟩ := pageBase_page u (by omega)
  have hbase : unitBase u = pageBase u := if_pos (by omega)
  have hlo : 0x40000000 ≤ 0x40000000 + (pageBase u + o) := by omega
  have hinside : 0x40000000 + (pageBase u + o) < 0x40120000 := by omega
  have hoff : (0x40000000 + (pageBase u + o)) % 0x1000 = (pageBase u + o) % 0x1000 := by omega
  have hpage : (0x40000000 + (pageBase u + o)) / 0x1000 % 0x200 = (pageBase u + o) / 0x1000 % 0x200 := by omega
  simp [busPlace, access, hlo, hinside, placeOf_header hu ho, hoff, hpage, retiredRead, rk, hbase]

/-- What reaches a register within an access to it reaches it all the same. -/
theorem access_access (s : State) (c : Ctx) (u o : Nat) (w : Bool) (k : State → State) :
    access s c u o w (fun s => access s c u o w k) = access s c u o w k := by
  unfold access
  split_ifs with hpath hpresent hon
  · rfl
  · rfl
  · rfl
  · exact (if_neg hpath).trans ((if_neg hpresent).trans (if_neg hon))

section
variable {u o : Nat} (hu : u ≤ 44) (ho : o < 0x100) (halign : o % 4 = 0)
include hu ho halign

/-- A 32-bit write of a header register by its address does what a write of the header does. -/
theorem exec_registerWrite_header (s : State) (c : Ctx) (v : DWord) :
    exec (.registerWrite c (BitVec.ofNat 32 (0x40000000 + unitBase u + o)) false v) s =
      done (access s c u o true (fun s => hdrWrite s c u o (BitVec.ofNat 32 v.toNat))) := by
  obtain ⟨hmod, hhi, -, -⟩ := pageBase_page u (by omega)
  have hbase : unitBase u = pageBase u := if_pos (by omega)
  have haddr : (BitVec.ofNat 32 (0x40000000 + unitBase u + o)).toNat = 0x40000000 + (pageBase u + o) := by
    rw [BitVec.toNat_ofNat, hbase, Nat.mod_eq_of_lt (by omega), Nat.add_assoc]
  have hwidth : widthOk ⟨u, o, false⟩ (0x40000000 + (pageBase u + o)) false = true := by
    simp only [widthOk]
    exact decide_eq_true (by omega)
  have hhdr : inHdr u o = true := by simp [inHdr, ho, show u < 64 by omega]
  refine congrArg done ?_
  rw [haddr, busWrite, busPlace_header hu ho]
  simp [hwidth, writeWord, hhdr]
end

/-- What a write of a page's header does at OWNER, IRQ_CLR and APPLY (R68). -/
theorem hdrWrite_owner {u : Nat} (hu : u ≤ 44) (s : State) (c : Ctx) (v : Word) : hdrWrite s c u 0x28 v = ownerReg s c u v := by
  have hlt : u < 64 := by omega
  simp [hdrWrite, ownerOff, hlt]
theorem hdrWrite_irqClr {u : Nat} (hu : u ≤ 44) (s : State) (c : Ctx) (v : Word) :
    hdrWrite s c u 0x1C v = ownerWrite s c u 0x1C (fun s => irqClr s u v) := by
  have hlt : u < 64 := by omega
  simp [hdrWrite, ownerOff, applyOff, hlt, show ¬ 64 ≤ u by omega]
theorem hdrWrite_apply {u : Nat} (hu : u ≤ 44) (s : State) (c : Ctx) (v : Word) :
    hdrWrite s c u 0x20 v = ownerWrite s c u 0x20 (fun s => applyWrite s c u (fld v 7 0)) := by
  have hlt : u < 64 := by omega
  simp [hdrWrite, ownerOff, applyOff, hlt]

/-- Settles O60: the access by address leads to the header register, whose write is an access of its own to the same place. -/
theorem headerWritesAreTheirCommands : Obligations.HeaderWritesAreTheirCommands := by
  intro s c u v hu
  have hpage : (u.zeroExtend 8).toNat = u.toNat := by
    simp only [BitVec.truncate_eq_setWidth, BitVec.toNat_setWidth]
    omega
  have hunit : unitOk (u.zeroExtend 8).toNat = true := by rw [hpage, unitOk_page hu]
  have hoff : ownerOff u.toNat = 0x28 := if_pos (by omega)
  have hkey : applyOff u.toNat = 0x20 := if_pos (by omega)
  refine ⟨?_, ?_, ?_, ?_⟩
  · rw [exec_registerWrite_header hu (by decide) (by decide), exec_ownerWrite hunit, hpage]
    simp only [hdrWrite_owner hu, ownerReg, hoff, access_access, done]
  · rw [exec_registerWrite_header hu (by decide) (by decide)]
    refine Eq.trans ?_ (execIrqClrWrite_wf (decide_eq_true hu) s c _).symm
    simp only [hdrWrite_irqClr hu, ownerWrite, access_access]
  · rintro rfl
    rw [exec_registerWrite_header hu (by decide) (by decide)]
    refine Eq.trans ?_ (applyRow_wf hunit s c 0xA5).symm
    simp only [hdrWrite_apply hu, ownerWrite, access_access, hpage, hkey]
    rfl
  · rintro rfl
    rw [exec_registerWrite_header hu (by decide) (by decide)]
    refine Eq.trans ?_ (applyRow_wf hunit s c 0x5A).symm
    simp only [hdrWrite_apply hu, ownerWrite, access_access, hpage, hkey]
    rfl

end Sys2Proof.Machine
end

section
/-! PROOFS. Power, reset and lifecycle: the supplies (R43 to R45). -/
namespace Sys2Proof.Machine

/-! ### What a supply event leaves alone -/

@[simp] theorem measured_pwr (s : State) (m : Word) : (measured s m).pwr = { s.pwr with meas := m } := rfl
@[simp] theorem domOn_measured (s : State) (m : Word) (d : Nat) : domOn (measured s m) d = domOn s d := rfl
@[simp] theorem powered_measured (s : State) (m : Word) : powered (measured s m) = powered s := rfl

/-- The counters of dropped values are the one register that a value in flight, a record or an event may change (R14). -/
theorem rget_dropAbsent_other (s : State) {line k : Nat} (h : k ≠ rk lSYS (0x200 + 4 * line)) : rget (dropAbsent s line) k = rget s k := by
  unfold dropAbsent
  split
  · exact rget_countUp_other h 0 16
  · rfl
theorem rget_send_other (s : State) {src k : Nat} (h : k ≠ rk lSYS (0x200 + 4 * src)) (dst : Nat) (p : Payload) :
    rget (send s src dst p) k = rget s k := by
  unfold send
  split
  · rfl
  · exact rget_dropAbsent_other s h
theorem rget_flowRec_other (s : State) {line k : Nat} (h : k ≠ rk lSYS (0x200 + 4 * line)) (src : BitVec 4) (typ : Byte) (b : List Byte) :
    rget (flowRec s line src typ b) k = rget s k := by
  unfold flowRec
  split
  · exact rget_dropAbsent_other s h
  · rfl
theorem reg_supplyEvent_pwr (s : State) (i : Nat) (b : Bool) : reg (supplyEvent s i b) lPWR 0x108 = reg s lPWR 0x108 := by
  have hkey : rk lPWR 0x108 ≠ rk lSYS (0x200 + 4 * lPWR) := by decide
  exact (rget_flowRec_other _ hkey _ _ _).trans (rget_send_other _ hkey _ _)

/-- Whether HOLD_CFG asks for ride-through (R44) does not change by a supply event. -/
theorem cfgBit_supplyEvent (s : State) (i : Nat) (b : Bool) (n : Nat) :
    cfgBit (supplyEvent s i b) lPWR 0x108 n = cfgBit s lPWR 0x108 n := congrArg (bit · n) (reg_supplyEvent_pwr s i b)
theorem cfg_supplyEvent (s : State) (i : Nat) (b : Bool) (hi lo : Nat) :
    cfg (supplyEvent s i b) lPWR 0x108 hi lo = cfg s lPWR 0x108 hi lo := congrArg (fld · hi lo) (reg_supplyEvent_pwr s i b)

/-- Settles O1: each row checks its flag or phase and then does what the statement says. -/
theorem supplyCommandsComplete : Obligations.SupplyCommandsComplete := by
  refine ⟨fun s m hon hflag => ?_, fun s m hon hflag => ?_, fun s m hon hflag => ?_, fun s m hon hflag => ?_, fun s m hon => ?_,
    fun s m hon hflag => ?_, fun s m hphase => ?_, fun s m hphase hfail => ?_, fun s m hpow hfail hride => ?_,
    fun s m hpow hfail hen htime => ?_, fun s m hpow hfail => ?_, fun s hpow hfail => ?_, fun s hphase hvin => ?_,
    fun s hphase hvin => ?_, fun s m hlost => ?_⟩
  · exact congrArg done (if_neg (by simp [hon, hflag]))
  · exact congrArg done (if_pos (by simp [hon, hflag]))
  · exact congrArg done (if_neg (by simp [hon, hflag]))
  · exact congrArg done (if_pos (by simp [hon, hflag]))
  · exact congrArg done (if_pos hon)
  · exact congrArg done (if_neg (by simp [hon, hflag]))
  · simp only [exec, execVinGood, measured_pwr, hphase]
    rfl
  · simp only [exec, execVinGood, measured_pwr, hphase, hfail]
    rfl
  · have hnot : (cfgBit s lPWR 0x108 8 && decide (cfg s lPWR 0x108 5 0 ≠ 0)) = false := by
      rcases hride with h | h <;> simp [h]
    refine congrArg done ((if_pos (by simp [hpow, hfail])).trans (if_neg ?_))
    rw [cfgBit_supplyEvent, cfg_supplyEvent]
    exact Bool.eq_false_iff.1 hnot
  · have hride : (cfgBit s lPWR 0x108 8 && decide (cfg s lPWR 0x108 5 0 ≠ 0)) = true := by simp [hen, htime]
    refine congrArg done ((if_pos (by simp [hpow, hfail])).trans (if_pos ?_))
    rw [cfgBit_supplyEvent, cfg_supplyEvent]
    exact hride
  · exact congrArg done (if_pos (by simp [hpow, hfail]))
  · exact congrArg done (if_pos (by simp [hpow, hfail]))
  · refine congrArg done ((if_pos hphase).trans ?_)
    simp [hvin]
  · refine congrArg done ((if_pos hphase).trans ?_)
    simp [hvin]
  · exact congrArg done (if_pos hlost)

end Sys2Proof.Machine
end

section
/-! PROOFS. Power, reset and lifecycle: the reset sources, what a module reset keeps, the service timers, degraded mode and lifecycle
requests (R55 to R62). -/
namespace Sys2Proof.Machine

/-! ### A module reset -/

/-- What cutting the running phases leaves alone: everything but the Grotto, whose journal takes the cuts, and Calcite (R344). -/
def offCalcite (s : State) : State := { s with grot := {}, bist := {} }

/-- A property of the state that every step of a fold keeps, the fold keeps. -/
theorem foldl_keeps {α β : Type} {p : State → β} {f : State → α → State} (h : ∀ t x, p (f t x) = p t) :
    ∀ (l : List α) (s : State), p (l.foldl f s) = p s
  | [], _ => rfl
  | x :: r, s => (foldl_keeps h r (f s x)).trans (h s x)

theorem offCalcite_bist (s : State) (b : Bist) : offCalcite { s with bist := b } = offCalcite s := rfl
theorem offCalcite_grot (s : State) (g : Grot) : offCalcite { s with grot := g } = offCalcite s := rfl
theorem offCalcite_jset (s : State) (o n v : Nat) : offCalcite (jset s o n v) = offCalcite s := rfl
theorem offCalcite_areaSeal (s : State) (a n : Nat) : offCalcite (areaSeal s a n) = offCalcite s := offCalcite_jset s _ _ _
theorem offCalcite_setBReg (s : State) (r : Nat) (v : BReg) : offCalcite (setBReg s r v) = offCalcite s := rfl

theorem offCalcite_calcWrite (s : State) (r : Nat) (d : Bool) (n : Nat) : offCalcite (calcWrite s r d n) = offCalcite s := by
  simp only [calcWrite, offCalcite_areaSeal, offCalcite_bist, offCalcite_jset]
  split
  · rfl
  · simp only [offCalcite_jset, offCalcite_grot]

/-- The cut of one region. -/
theorem offCalcite_cutPhases (s : State) : offCalcite (cutPhases s) = offCalcite s := by
  unfold cutPhases
  extract_lets cut
  have hcut : ∀ t r, offCalcite (cut t r) = offCalcite t := by
    intro t r
    simp only [cut]
    split <;> split
    · rw [offCalcite_setBReg, offCalcite_calcWrite]
    · rw [offCalcite_setBReg]
    · rw [offCalcite_calcWrite]
    · rfl
  split
  · exact foldl_keeps hcut _ _
  · rfl

theorem moduleReset_powerFail {s : State} (h : s.pwr.phase = .powerFail) (c : BitVec 7) :
    moduleReset s c = { s with pwr := { s.pwr with rstCause := s.pwr.rstCause ||| c } } := if_pos h

theorem moduleReset_eq {s : State} (h : s.pwr.phase ≠ .powerFail) (c : BitVec 7) :
    moduleReset s c = { volatileReset (writeStale (cutPhases s)) with pwr := { (volatileReset (writeStale (cutPhases s))).pwr with
      phase := .inReset, doms := domsAlways, rstCause := (volatileReset (writeStale (cutPhases s))).pwr.rstCause ||| c } } := if_neg h

/-- Ahead of the reset the running phases are cut and the stale mark is written, which touches the Grotto and Calcite alone (R38, R344). -/
theorem offCalcite_writeStale_cutPhases (s : State) : offCalcite (writeStale (cutPhases s)) = offCalcite s := by
  rw [← offCalcite_cutPhases s]
  unfold writeStale
  split <;> rfl
theorem writeStale_cutPhases_pwr (s : State) : (writeStale (cutPhases s)).pwr = s.pwr := congrArg (·.pwr) (offCalcite_writeStale_cutPhases s)
theorem writeStale_cutPhases_act (s : State) : (writeStale (cutPhases s)).act = s.act := congrArg (·.act) (offCalcite_writeStale_cutPhases s)
theorem writeStale_cutPhases_ptp (s : State) : (writeStale (cutPhases s)).ptp = s.ptp := congrArg (·.ptp) (offCalcite_writeStale_cutPhases s)
theorem writeStale_cutPhases_otp (s : State) : (writeStale (cutPhases s)).otp = s.otp := congrArg (·.otp) (offCalcite_writeStale_cutPhases s)

/-- Settles O5: of the state before the reset, what `volatileReset` names stays, and cutting the phases has changed none of it. -/
theorem moduleResetEffect : Obligations.ModuleResetEffect := by
  refine ⟨fun s c h => moduleReset_powerFail h c, fun s c h => ?_⟩
  have hcut := offCalcite_writeStale_cutPhases s
  dsimp only
  rw [moduleReset_eq h]
  refine ⟨rfl, ?_, rfl, ?_, ?_, writeStale_cutPhases_otp s, congrArg (·.pending) hcut, congrArg (·.now) hcut, ?_, rfl, rfl, rfl⟩
  · simp [volatileReset, writeStale_cutPhases_pwr]
  · simp [volatileReset, writeStale_cutPhases_act]
  · simp [volatileReset, writeStale_cutPhases_ptp]
  · simp [volatileReset, writeStale_cutPhases_pwr]

/-! ### Rows of a context, as steps -/

/-- A row that the owner writes does what the register does. -/
theorem done_ownerWrite {s t : State} {c : Ctx} {u : Nat} (howns : owns s c u = true) {o : Nat} {k : State → State} (hk : k s = t) :
    done (ownerWrite s c u o k) = .next (settle t) := congrArg done ((ownerWrite_owns howns o k).trans hk)

/-- A row of CTX_x in its own block does what the block does. -/
theorem done_ctxWrite {s t : State} {x : Ctx} {u : Nat} (hreach : reaches s x u = true) {o : Nat} {k : State → State} (hk : k s = t) :
    done (ctxWrite s x x u o k) = .next (settle t) := congrArg done ((ctxWrite_own hreach o k).trans hk)

/-! ### The reset sources -/

/-- Settles O4: each source, where it counts, is a module reset with its own cause. -/
theorem resetCommandsComplete : Obligations.ResetCommandsComplete := by
  refine ⟨fun s hphase => ?_, fun s hphase => ?_, fun s hruns htrial => ?_, fun s hruns htrial => ?_, fun s hreach => ?_,
    fun s v hreach hv => ?_, fun s hphase => ?_⟩
  · exact congrArg done (if_pos hphase)
  · exact congrArg done (if_pos hphase)
  · refine congrArg done ((if_pos hruns).trans ?_)
    simp [wdtReset, htrial]
  · have hphase : s.pwr.phase ≠ .powerFail := by
      intro h
      simp [wdtRuns, h] at hruns
    refine congrArg done ((if_pos hruns).trans ?_)
    simp [wdtReset, htrial, hphase]
  · exact done_ctxWrite hreach (if_pos rfl)
  · exact done_ctxWrite hreach (if_neg hv)
  · simp only [exec, execResetRelease, hphase]
    rfl

/-! ### The service timers and degraded mode -/

/-- Settles O6: a kick with the value expected counts, any other resets the module or stops SYSOK; device faults are `deviceFault`. -/
theorem timerAndDegradedCommandsComplete : Obligations.TimerAndDegradedCommandsComplete := by
  refine ⟨fun s c howns hexp => ?_, fun s c howns hexp => ?_, fun s c v howns hv => ?_, fun s c howns hexp hkicks => ?_,
    fun s c howns hexp hkicks hrel hphase hdeg => ?_, fun s c v howns hv => ?_, fun s hon => ?_, fun s k l w h1 h8 hl => ?_,
    fun s c howns => ?_, fun s l w hl => ?_, fun s hdeg hhold hcount => ?_, fun s a w d => rfl⟩
  · exact done_ownerWrite howns ((if_pos (by simp [hexp])).trans (by simp [hexp]))
  · exact done_ownerWrite howns ((if_pos (by simp [hexp])).trans (by simp [hexp]))
  · exact done_ownerWrite howns (if_neg hv)
  · exact done_ownerWrite howns ((if_pos (by simp [hexp])).trans (by simp [hexp, hkicks]))
  · exact done_ownerWrite howns ((if_pos (by simp [hexp])).trans (by simp [hexp, hkicks, sysokAllowed, hrel, hphase, hdeg]))
  · exact done_ownerWrite howns (if_neg hv)
  · exact congrArg done (if_pos hon)
  · exact if_pos (by simp [h1, h8, hl])
  · exact done_ownerWrite howns rfl
  · exact if_pos hl
  · exact congrArg done (if_pos (by simp [hdeg, hhold, hcount]))

/-! ### Lifecycle requests -/

/-- What a record that is written at once leaves alone: everything but memory, Flowstone, the headers and the registers. -/
def offFlow (s : State) : State := { s with mem := [], flow := {}, hdr := [], act := [] }

theorem offFlow_mem_flow (s : State) (m : List Host.Cell) (f : Flow) : offFlow { s with mem := m, flow := f } = offFlow s := rfl
theorem offFlow_flow (s : State) (f : Flow) : offFlow { s with flow := f } = offFlow s := rfl
theorem offFlow_raise (s : State) (u i : Nat) : offFlow (raise s u i) = offFlow s := rfl

theorem offFlow_openNext (s : State) : offFlow (openNext s) = offFlow s := by
  unfold openNext
  dsimp only
  rw [offFlow_flow]
  split
  · rfl
  · refine (foldl_keeps (p := offFlow) (f := fun t x => if pins s x _ then _ else t) (fun t x => ?_) _ _ : offFlow (breakPins s _) = _)
    split <;> rfl

theorem offFlow_writeRec (s : State) (r : FlowRec) : offFlow (writeRec s r) = offFlow s := by
  unfold writeRec
  dsimp only
  rw [offFlow_mem_flow]
  split
  · exact offFlow_openNext s
  · rfl

theorem offFlow_writeNext (s : State) : offFlow (writeNext s) = offFlow s := by
  unfold writeNext
  split
  · rfl
  · dsimp only
    split
    · rw [offFlow_flow, offFlow_writeRec, offFlow_writeRec, offFlow_flow]
    · rw [offFlow_writeRec, offFlow_flow]

theorem offFlow_writeAll : ∀ (n : Nat) (s : State), offFlow (writeAll n s) = offFlow s
  | 0, _ => rfl
  | n + 1, s => (offFlow_writeAll n (writeNext s)).trans (offFlow_writeNext s)

theorem offFlow_queueRec (s : State) (r : FlowRec) : offFlow (queueRec s r) = offFlow s := by
  unfold queueRec
  split
  · rfl
  · split <;> rfl

theorem offFlow_flowDrain (s : State) : offFlow (flowDrain s) = offFlow s := by
  have hall : offFlow (queueAll s) = offFlow s := foldl_keeps offFlow_queueRec _ _
  unfold flowDrain
  dsimp only
  split
  · rw [offFlow_writeAll, hall]
  · exact hall

theorem offFlow_dropAbsent (s : State) (l : Nat) : offFlow (dropAbsent s l) = offFlow s := by
  unfold dropAbsent
  split <;> rfl
theorem offFlow_flowRec (s : State) (l : Nat) (src : BitVec 4) (typ : Byte) (b : List Byte) : offFlow (flowRec s l src typ b) = offFlow s := by
  unfold flowRec
  split
  · exact offFlow_dropAbsent s l
  · rfl

/-- A device record written at once changes no power state and no fuse. -/
theorem offFlow_deviceRecNow (s : State) (typ : Byte) (b : List Byte) : offFlow (deviceRecNow s typ b) = offFlow s :=
  (offFlow_flowDrain _).trans (offFlow_flowRec s lPWR 0#4 typ b)

/-- The rows of LC_REQ are requests of their targets. -/
theorem exec_lcReq {i : Instr} {n : Nat} (h : (i = .lcReqProvisioned 0#3 ∧ n = 1) ∨ (i = .lcReqOperational 0#3 ∧ n = 2) ∨
    (i = .lcReqService 0#3 ∧ n = 3) ∨ (i = .lcReqRetired 0#3 ∧ n = 4)) (s : State) : exec i s = done (lcRequest s 0#3 n) := by
  rcases h with ⟨rfl, rfl⟩ | ⟨rfl, rfl⟩ | ⟨rfl, rfl⟩ | ⟨rfl, rfl⟩ <;> rfl

/-- Settles O7: a refused request is `lcReject`; an allowed one records, commits and resets, and the reset keeps what was committed. -/
theorem lifecycleCommandsComplete : Obligations.LifecycleCommandsComplete := by
  intro s howns i n hi
  rw [exec_lcReq hi]
  refine ⟨fun hno => done_ownerWrite howns (if_neg (by simp [hno])), fun hyes hphase => ?_⟩
  refine ⟨lcCommit s n, done_ownerWrite howns (if_pos (by simp [hyes])), ?_⟩
  have hrec := offFlow_deviceRecNow s 6#8 (leBytes 1 s.pwr.lcState.toNat ++ leBytes 1 n ++ [0#8, 0#8])
  unfold lcCommit
  generalize deviceRecNow s 6#8 (leBytes 1 s.pwr.lcState.toNat ++ leBytes 1 n ++ [0#8, 0#8]) = t at hrec
  have hpwr : t.pwr = s.pwr := congrArg (·.pwr) hrec
  have hotp : t.otp = s.otp := congrArg (·.otp) hrec
  dsimp only
  rw [moduleReset_eq (by simpa [hpwr] using hphase)]
  refine ⟨?_, rfl, rfl, ?_, ?_, ?_, rfl⟩
  · simp [volatileReset, writeStale_cutPhases_pwr]
  · simp [volatileReset, writeStale_cutPhases_pwr]
  · simp [volatileReset, writeStale_cutPhases_pwr, hpwr]
  · simp [volatileReset, writeStale_cutPhases_otp, hotp]

end Sys2Proof.Machine
end

section
/-! PROOFS. Power, reset and lifecycle: start-up and trials (R48 to R54), and the power states (R46, R47). -/
namespace Sys2Proof.Machine

/-! ### Registers of one page -/

/-- Two offsets of a page are two registers; setting a field of one leaves the other alone. -/
theorem rk_ne {o p : Nat} (h : o ≠ p) (u : Nat) : rk u o ≠ rk u p := fun e => h (Nat.add_left_cancel e)
theorem reg_setReg_other {o p : Nat} (h : p ≠ o) (s : State) (u : Nat) (v : Word) : reg (setReg s u o v) u p = reg s u p :=
  rget_rset_other s _ _ _ (rk_ne h u)
theorem cfgBit_setFld_other {o p : Nat} (h : p ≠ o) (s : State) (u hi lo v n : Nat) :
    cfgBit (setFld s u o hi lo v) u p n = cfgBit s u p n := congrArg (bit · n) (reg_setReg_other h s u _)

/-- Bit 0, cleared, reads 0. -/
theorem cfgBit_setFld_zero (s : State) (u o : Nat) : cfgBit (setFld s u o 0 0 0) u o 0 = false := by
  simp [cfgBit, setFld, bit, maskMerge]

/-! ### Start-up and trials -/

/-- The domains of the last step hold that of the application cores (R48 step 5). -/
theorem doms_domsLast (s : State) (d : BitVec 16) : (d ||| domsLast s).getLsbD dAPP = true := by
  unfold domsLast
  split <;> simp [dAPP]

theorem domsWanted_powered {s : State} (hfail : s.pwr.fail = false) (m : BitVec 16) :
    domsWanted s m = { s with pwr := { s.pwr with doms := s.pwr.doms ||| m } } := by
  simp [domsWanted, hfail, domsSet]

theorem appStart_pwr (s : State) (p : Pwr) : appStart { s with pwr := p } =
    { s with pwr := { p with appRunning := p.doms.getLsbD dAPP && !cfgBit s lPWR 0x120 0 } } := rfl

/-- With PD_APP on, APP_CTRL.HOLD alone decides whether the cores run. -/
theorem appStart_on {s : State} (hdom : domOn s dAPP = true) :
    appStart s = { s with pwr := { s.pwr with appRunning := !cfgBit s lPWR 0x120 0 } } := by
  simp [appStart, hdom]

/-- Settles O2: each step of the timeline has its condition; a released image is the first that verifies. -/
theorem bootCommandsComplete : Obligations.BootCommandsComplete := by
  refine ⟨fun s hwipe hsram => ?_, fun s hwipe hdram => ?_, fun s hphase hsram hsafe hlc hwake => ⟨fun hdue hok => ?_,
      fun hdue hok => ?_, fun hdue hbad hok => ?_, fun hdue hbad hbad' => ?_⟩,
    fun s hphase hcfg hrel hfail hdoze => ?_, fun s c howns htrial => ?_, fun s c howns htrial happ hroll => ?_, fun s c howns => ?_,
    fun s c howns hhold hver => ?_, fun s c howns hhold hver => ?_, fun s hver hbad => ?_, fun s hver hok hpay => ?_⟩
  · exact congrArg done (if_pos ⟨hwipe, hsram⟩)
  · exact congrArg done (if_pos ⟨hwipe, hdram⟩)
  · refine congrArg done ((if_pos ⟨hphase, hsram, hsafe, hlc⟩).trans ?_)
    simp [hwake, hdue, hok, runSlot]
  · refine congrArg done ((if_pos ⟨hphase, hsram, hsafe, hlc⟩).trans ?_)
    simp [hwake, hdue, hok, startTrial, runSlot]
  · refine congrArg done ((if_pos ⟨hphase, hsram, hsafe, hlc⟩).trans ?_)
    simp [hwake, hdue, hbad, hok, runSlot]
  · refine congrArg done ((if_pos ⟨hphase, hsram, hsafe, hlc⟩).trans ?_)
    simp [hwake, hdue, hbad, hbad']
  · refine congrArg done ((if_pos ⟨hphase, hcfg, hrel⟩).trans ?_)
    rw [if_neg hdoze, domsWanted_powered hfail]
    exact appStart_on (doms_domsLast s s.pwr.doms)
  · exact done_ownerWrite howns (if_neg (by simp [htrial]))
  · exact done_ownerWrite howns ((if_pos htrial).trans (by simp [happ, hroll]))
  · exact done_ownerWrite howns rfl
  · refine done_ownerWrite howns ((if_pos hhold).trans (if_pos ?_))
    rw [cfgBit_setFld_other (by decide), hver]
  · refine done_ownerWrite howns ((if_pos hhold).trans ((if_neg ?_).trans ?_))
    · rw [cfgBit_setFld_other (by decide), hver]; decide
    · rw [appStart_pwr, cfgBit_setFld_zero]
      simp [domOn, setFld]
  · have hno : (imageOk s (slotBase (!s.pwr.activeSlot)) false &&
        decide (safetyPayload s (!s.pwr.activeSlot) = safetyPayload s s.pwr.slot)) = false := by
      rcases hbad with h | h <;> simp [h]
    refine congrArg done ((if_pos hver).trans ?_)
    rw [appStart_pwr, cfgBit_setFld_other (by decide), hno]
    simp [domOn, setFld]
  · have hyes : (imageOk s (slotBase (!s.pwr.activeSlot)) false &&
        decide (safetyPayload s (!s.pwr.activeSlot) = safetyPayload s s.pwr.slot)) = true := by simp [hok, hpay]
    refine congrArg done ((if_pos hver).trans ?_)
    rw [appStart_pwr, cfgBit_setFld_other (by decide), hyes]
    simp [domOn, setFld]

/-! ### What a transition to Sleep leaves alone -/

/-- The state but for what work in flight may touch as it ends: memory, headers and registers, what is drawn and sent, the Grotto's journal,
Calcite, Flowstone, the integrity unit, the DMA engine, and the values on their way (R23). -/
def offWork (s : State) : State :=
  { s with fresh := 0, mem := [], hdr := [], act := [], out := [], grot := {}, bist := {}, flow := {}, intg := {}, dma := {}, xing := [], galIn := [] }

/-- Updates of those parts. -/
theorem offWork_setHdr (s : State) (u : Nat) (h : Hdr) : offWork (setHdr s u h) = offWork s := rfl
theorem offWork_setReg (s : State) (u o : Nat) (v : Word) : offWork (setReg s u o v) = offWork s := rfl
theorem offWork_raise (s : State) (u i : Nat) : offWork (raise s u i) = offWork s := rfl
theorem offWork_countUp (s : State) (u o lo n : Nat) : offWork (countUp s u o lo n) = offWork s := rfl
theorem offWork_toGal (s : State) (m : GalMsg) : offWork (toGal s m) = offWork s := rfl
theorem offWork_setChan (s : State) (c : Nat) (v : Chan) : offWork (setChan s c v) = offWork s := rfl
theorem offWork_setQueue (s : State) (n : Nat) (q : Queue) : offWork (setQueue s n q) = offWork s := rfl
theorem offWork_of_offCalcite {s t : State} (h : offCalcite t = offCalcite s) : offWork t = offWork s :=
  show offWork (offCalcite t) = offWork (offCalcite s) by rw [h]
theorem offWork_of_offFlow {s t : State} (h : offFlow t = offFlow s) : offWork t = offWork s :=
  show offWork (offFlow t) = offWork (offFlow s) by rw [h]

theorem offWork_raiseIf (b : Bool) (s : State) (u i : Nat) : offWork (raiseIf b s u i) = offWork s := by
  cases b <;> rfl
theorem offWork_send (s : State) (a b : Nat) (p : Payload) : offWork (send s a b p) = offWork s := by
  unfold send
  split
  · rfl
  · exact offWork_of_offFlow (offFlow_dropAbsent s a)

/-- Squashing. -/
theorem offWork_squashCount (s : State) (c : Nat) : offWork (squashCount s c) = offWork s :=
  (offWork_raiseIf _ _ _ _).trans (offWork_countUp _ _ _ _ _)
theorem offWork_popProv (s : State) (c : Nat) (p : Prov) (r : Option (BitVec 4)) : offWork (popProv s c p r) = offWork s := by
  unfold popProv
  dsimp only
  split
  · rw [offWork_send, offWork_setChan]
  · exact offWork_setChan s c _
theorem offWork_squash (s : State) (c : Nat) (p : Prov) : offWork (squash s c p) = offWork s := by
  have hpop : offWork (squashCount (popProv s c p none) c) = offWork s := (offWork_squashCount _ _).trans (offWork_popProv s c p none)
  unfold squash
  dsimp only
  split
  · rw [offWork_toGal, offWork_setChan, hpop]
  · exact hpop
theorem offWork_squashAll (s : State) : offWork (squashAll s) = offWork s := by
  have hchan : ∀ t (e : Nat × Chan), offWork (e.2.inflight.foldl (fun t p => squash t e.1 p) t) = offWork t := fun t e =>
    foldl_keeps (fun t p => offWork_squash t e.1 p) _ t
  exact (foldl_keeps offWork_squashCount _ _).trans (foldl_keeps hchan s.intg.chan s)

/-- The ends of running updates. -/
theorem offWork_endUpdate (s : State) (r : Nat) : offWork (endUpdate s r) = offWork s := by
  unfold endUpdate
  dsimp only
  rw [offWork_raise, offWork_countUp, offWork_of_offCalcite (offCalcite_calcWrite _ _ _ _)]
  rfl
theorem offWork_regionRecovered (s : State) (r : Nat) : offWork (regionRecovered s r) = offWork s :=
  offWork_of_offCalcite (offCalcite_calcWrite _ _ _ _)
theorem offWork_finishUpdates (s : State) : offWork (finishUpdates s) = offWork s := by
  refine foldl_keeps (p := offWork) (fun t r => ?_) _ _
  split
  · exact (offWork_endUpdate _ r).trans rfl
  · split
    · rfl
    · exact offWork_regionRecovered t r

/-- The stop of the queues, with what a stop writes. -/
theorem offWork_draw (s : State) : offWork (draw s).2 = offWork s := rfl
theorem offWork_tlbAdd (s : State) (e : TlbEnt) : offWork (tlbAdd s e) = offWork s := by
  unfold tlbAdd
  split <;> rfl
theorem offWork_leafOf (s : State) (d a : Nat) : offWork (leafOf s d a).1 = offWork s := by
  unfold leafOf
  split
  · rfl
  · dsimp only
    split
    · exact (offWork_tlbAdd _ _).trans (offWork_setReg s _ _ _)
    · exact offWork_setReg s _ _ _
theorem offWork_translate (s : State) (d : Nat) (c : Ctx) (a : Nat) (w : Bool) : offWork (translate s d c a w).1 = offWork s := by
  have hleaf := offWork_leafOf s d a
  unfold translate
  dsimp only
  split
  · rfl
  · split
    · rfl
    · split
      · rfl
      · generalize leafOf s d a = r at hleaf
        obtain ⟨t, e | e⟩ := r
        · exact hleaf
        · dsimp only
          split <;> exact hleaf
theorem offWork_translateParts (d : Nat) (c : Ctx) (w : Bool) :
    ∀ (l : List (Nat × Nat)) (s : State), offWork (translateParts s d c w l).1 = offWork s
  | [], _ => rfl
  | (a, n) :: rest, s => by
    have hone := offWork_translate s d c a w
    unfold translateParts
    generalize translate s d c a w = r at hone
    obtain ⟨t, f | p⟩ := r
    · exact hone
    · have hrest := (offWork_translateParts d c w rest t).trans hone
      dsimp only
      generalize translateParts t d c w rest = r at hrest
      obtain ⟨t', f | l⟩ := r <;> exact hrest
theorem offWork_memWrite (s : State) (c : Ctx) (a : Nat) (b : List Byte) : offWork (memWrite s c a b) = offWork s := by
  unfold memWrite
  split
  · rfl
  · obtain ⟨h, hcapture⟩ := captureAt_frame s (regionLine (regionOf s a)) c true 0x8 0 0
    rw [capture, hcapture, offWork_setHdr]
theorem offWork_writeParts (d : Nat) (c : Ctx) :
    ∀ (l : List (Nat × Nat)) (s : State) (b : List Byte), offWork (writeParts s d c l b) = offWork s
  | [], _, _ => rfl
  | (a, n) :: rest, s, b => by
    unfold writeParts
    rw [offWork_writeParts d c rest]
    split
    · rfl
    · exact offWork_memWrite s c a _
theorem offWork_ringWrite (s : State) (n a : Nat) (b : List Byte) : offWork (ringWrite s n a b).1 = offWork s := by
  unfold ringWrite
  split
  · split <;> rfl
  · have hparts := offWork_translateParts (qDom s n) (qOwner s n) true (pageParts a b.length) s
    generalize translateParts s (qDom s n) (qOwner s n) true (pageParts a b.length) = r at hparts
    obtain ⟨t, f | l⟩ := r
    · exact hparts
    · exact (offWork_writeParts _ _ l t b).trans hparts
theorem offWork_qStop (s : State) (n : Nat) : offWork (qStop s n) = offWork s := by
  unfold qStop
  split
  · dsimp only
    rw [offWork_setQueue]
    split
    · exact offWork_ringWrite s n _ _
    · rfl
  · rfl
theorem offWork_haltQueues (s : State) : offWork (haltQueues s) = offWork s := by
  refine foldl_keeps (p := offWork) (fun t n => ?_) _ _
  split
  · exact offWork_qStop t n
  · rfl

/-! ### The power states -/

/-- What the transition to Sleep ends, and records, changes neither Echo nor the clock nor the network core. -/
theorem offWork_sleepWork (s : State) :
    offWork (deviceRecNow (haltQueues (finishUpdates (squashAll s))) 11#8 []) = offWork s := by
  rw [offWork_of_offFlow (offFlow_deviceRecNow _ _ _), offWork_haltQueues, offWork_finishUpdates, offWork_squashAll]

/-- A transition ends in Run or in the boot phase. -/
theorem transition_phase {p : Phase} (h : p = .run ∨ p = .boot) : (decide (p = .run) || decide (p = .boot)) = true := by
  rcases h with rfl | rfl <;> rfl

/-- Settles O3: a request names its goal, Sleep unless something is busy; the goal is what the transition then enters, and Sleep keeps of
Echo, the clock and the network core what `volatileReset` does not take. -/
theorem powerStateCommandsComplete : Obligations.PowerStateCommandsComplete := by
  refine ⟨fun s c howns hst => ?_, fun s c howns hst => ?_, fun s c howns hst hpoint hecho => ?_, fun s c howns hbusy => ?_,
    fun s hphase hgoal => ?_, fun s hphase hgoal hfail hrel => ?_, fun s hphase hgoal => ?_⟩
  · exact done_ownerWrite howns (by simp [pstateReq, hst])
  · exact done_ownerWrite howns (by simp [pstateReq, hst])
  · have hidle : ¬ (pointBusy s || echoBusy s) = true := by simp [hpoint, hecho]
    exact done_ownerWrite howns ((if_neg hidle).trans (by simp [hst]))
  · exact done_ownerWrite howns (pstateReq_sleep_busy hbusy)
  · refine congrArg done ((if_pos (transition_phase hphase)).trans ?_)
    rw [hgoal]
  · refine congrArg done ((if_pos (transition_phase hphase)).trans ?_)
    rw [hgoal]
    dsimp only [enterRun]
    rw [if_pos hrel, domsWanted_powered hfail, appStart_on (by simp [domOn, dAPP])]
    rfl
  · have hwork := offWork_sleepWork s
    have hecho : (deviceRecNow (haltQueues (finishUpdates (squashAll s))) 11#8 []).echo = s.echo := congrArg (·.echo) hwork
    have hptp : (deviceRecNow (haltQueues (finishUpdates (squashAll s))) 11#8 []).ptp = s.ptp := congrArg (·.ptp) hwork
    have hnet : (deviceRecNow (haltQueues (finishUpdates (squashAll s))) 11#8 []).net = s.net := congrArg (·.net) hwork
    refine ⟨enterSleep s, congrArg done ((if_pos (transition_phase hphase)).trans ?_), rfl, rfl, rfl, ?_, ?_, ?_, rfl⟩
    · rw [hgoal]
    · simp [enterSleep, volatileReset, hecho]
    · simp [enterSleep, volatileReset, hptp]
    · simp [enterSleep, volatileReset, hnet]

end Sys2Proof.Machine
end

section
/-! PROOFS. The Grotto: its calendar and commits, its journal and the crystals (R86, R96 to R108). -/
namespace Sys2Proof.Machine

/-! ### What a value sent, a stamp and a source change -/

/-- A value presented to another island is on its way, or counted as dropped (R13, R14). -/
theorem send_frame (s : State) (src dst : Nat) (p : Payload) : ∃ a x, send s src dst p = { s with act := a, xing := x } := by
  unfold send dropAbsent
  split
  · exact ⟨s.act, _, rfl⟩
  · split
    · exact ⟨_, s.xing, rfl⟩
    · exact ⟨s.act, s.xing, rfl⟩
theorem send_on {s : State} {dst : Nat} (hon : unitOn s dst = true) (src : Nat) (p : Payload) :
    send s src dst p = { s with xing := s.xing ++ [⟨src, dst, p⟩] } := if_pos hon
theorem grotStamp_frame (s : State) : ∃ a, grotStamp s = { s with act := a } := by
  unfold grotStamp
  split
  · exact ⟨_, rfl⟩
  · exact ⟨s.act, rfl⟩
theorem raiseIf_frame (b : Bool) (s : State) (u i : Nat) : ∃ h, raiseIf b s u i = { s with hdr := h } := by
  cases b
  · exact ⟨s.hdr, rfl⟩
  · exact ⟨_, rfl⟩
theorem raiseIf_true {b : Bool} (h : b = true) (s : State) (u i : Nat) : raiseIf b s u i = raise s u i := if_pos h

/-- Nothing wakes a module that is not asleep (R47). -/
theorem wake_awake {s : State} (h : s.pwr.pstate = .run) (source : BitVec 4) : wake s source = s := if_neg (by simp [h])

/-- The journal's address stays without AUTOINC (R108). -/
theorem jrnlNext_fixed {s : State} (h : cfgBit s lGROT 0x138 31 = false) : jrnlNext s = s :=
  if_neg (show ¬ cfgBit s lGROT 0x138 31 = true by simp [h])

/-! ### A commit of the calendar -/

theorem calCommit_rejects {s : State} {d t sec : Word} {r o : Nat} (hset : s.grot.commit = some (d, t, sec))
    (hbad : calReason d t sec = some (r, o)) :
    calCommit s = rejectSet { s with grot := { s.grot with commit := none } } lGROT r o := by
  simp only [calCommit, hset, hbad]

/-- A set that passes loads the calendar, counts GEN and is announced to the Gallery. -/
theorem calCommit_loads {s : State} {d t sec : Word} (hset : s.grot.commit = some (d, t, sec)) (hok : calReason d t sec = none) :
    calCommit s = send (grotStamp (raise (setHdr { s with grot := { s.grot with
      commit := none, year := fld d 11 0, month := fld d 19 16, day := fld d 28 24, hour := fld t 20 16, min := fld t 13 8, sec := fld sec 5 0,
      preAt := s.now, preFree := !s.clk.xt32 } } lGROT
      { hdr s lGROT with gen := (hdr s lGROT).gen + 1, reject := false, reason := 0#8, rejOff := 0#12 }) lGROT 30)) lGROT lGAL (.grotto true) := by
  simp only [calCommit, hset, hok]
  rfl

/-- A wake event in Run: its source, the event to the Gallery and PWRON. -/
theorem grotWake_awake {s : State} (hrun : s.pwr.pstate = .run) (haon : domOn s dAON = true) (src code : Nat) (pwr : Bool) :
    grotWake s src code pwr = { send (raise s lGROT src) lGROT lGAL (.grotto false) with
      grot := { s.grot with pwron := s.grot.pwron || pwr } } := by
  obtain ⟨a, x, hsend⟩ := send_frame (raise s lGROT src) lGROT lGAL (.grotto false)
  have hraise : grotRaise s src = raise s lGROT src := if_pos haon
  unfold grotWake
  dsimp only
  rw [hraise, hsend]
  exact wake_awake (s := { raise s lGROT src with act := a, xing := x, grot := { s.grot with pwron := s.grot.pwron || pwr } }) hrun _

/-! ### The second tick -/

/-- The state whose calendar and GSEC have advanced by a second, ahead of what that raises, stamps and sends. -/
def ticked (s : State) : State :=
  let t := { s with grot := { calendarNext s.grot with gsec := (calendarNext s.grot).gsec + 1, preAt := s.now, preFree := !s.clk.xt32 } }
  { t with grot := { t.grot with almDue := t.grot.almDue || almMatch t } }

theorem exec_grottoSecondTick (s : State) : exec .grottoSecondTick s = done (send (grotStamp (raiseIf (domOn s dAON) (ticked s) lGROT 2)) lGROT lGAL
    (.grotto (decide ((ticked s).grot.sec = 0) && decide ((ticked s).grot.min % 15 = 0)))) := rfl

/-- The calendar does not hold GSEC. -/
theorem calendarNext_gsec (g : Grot) : (calendarNext g).gsec = g.gsec := by
  simp only [calendarNext]
  split_ifs <;> rfl

/-- Settles O8: the crystals, the calendar's commits and ticks, the journal and the wakes, row by row. -/
theorem grottoCommandsComplete : Obligations.GrottoCommandsComplete := by
  refine ⟨fun s hxt hon => ?_, fun s hxt hon => ?_, fun s c hmay => ?_, fun s c v howns hidle hrun => ?_, fun s c v howns hidle hfrozen => ?_,
    fun s d t sec hset hok => ?_, fun s d t sec r o hset hbad => ?_, fun s c v howns hv => ?_, fun s c v howns hv => ?_, fun s c v howns hv => ?_,
    fun s c hmay hinc => ?_, fun s c v howns hfw hinc => ?_, fun s c v howns hlow => ?_, fun s => ?_, fun s hoff => ?_,
    fun s hcnt hrun haon => ?_, fun s hdue hrun haon => ?_⟩
  · exact congrArg done ((if_pos hxt).trans (if_pos hon))
  · exact congrArg done ((if_neg (by simp [hxt])).trans (if_pos hon))
  · refine ⟨_, congrArg done (readAccess_may hmay _ _), rfl, ?_, ?_, ?_, rfl⟩
    · rw [reg_setReg_other (by decide), reg_setReg_other (by decide), reg_setReg]
      rfl
    · rw [reg_setReg_other (by decide), reg_setReg]
      rfl
    · rw [reg_setReg]
      rfl
  · exact done_ownerWrite howns ((if_neg (by simp [hidle])).trans (if_neg (ne_true_of_eq_false hrun)))
  · exact done_ownerWrite howns ((if_neg (by simp [hidle])).trans (if_pos hfrozen))
  · obtain ⟨a, hstamp⟩ := grotStamp_frame (raise (setHdr { s with grot := { s.grot with
      commit := none, year := fld d 11 0, month := fld d 19 16, day := fld d 28 24, hour := fld t 20 16, min := fld t 13 8, sec := fld sec 5 0,
      preAt := s.now, preFree := !s.clk.xt32 } } lGROT
      { hdr s lGROT with gen := (hdr s lGROT).gen + 1, reject := false, reason := 0#8, rejOff := 0#12 }) lGROT 30)
    refine ⟨calCommit s, rfl, ?_⟩
    rw [calCommit_loads hset hok, hstamp]
    obtain ⟨a', x, hsend⟩ := send_frame _ lGROT lGAL (.grotto true)
    rw [hsend]
    refine ⟨rfl, ?_, rfl⟩
    simp [hdr, raise, setHdr]
  · exact congrArg done (calCommit_rejects hset hbad)
  · exact done_ownerWrite howns (if_neg hv)
  · exact done_ownerWrite howns (if_pos hv)
  · exact done_ownerWrite howns (if_pos hv)
  · exact congrArg done ((readAccess_may hmay _ _).trans (jrnlNext_fixed hinc))
  · exact done_ownerWrite howns ((if_neg (by omega)).trans (jrnlNext_fixed hinc))
  · exact done_ownerWrite howns (if_pos hlow)
  · obtain ⟨h, hraise⟩ := raiseIf_frame (domOn s dAON) (ticked s) lGROT 2
    obtain ⟨a, hstamp⟩ := grotStamp_frame { ticked s with hdr := h }
    refine ⟨_, exec_grottoSecondTick s, ?_⟩
    rw [ hraise, hstamp]
    obtain ⟨a', x, hsend⟩ := send_frame { ticked s with hdr := h, act := a } lGROT lGAL
      (.grotto (decide ((ticked s).grot.sec = 0) && decide ((ticked s).grot.min % 15 = 0)))
    rw [hsend]
    refine ⟨congrArg (· + 1#32) (calendarNext_gsec s.grot), rfl, rfl, rfl, rfl, rfl, rfl, rfl, rfl, rfl, fun hgal => ?_, rfl⟩
    have hon := send_on (s := { ticked s with hdr := h, act := a }) hgal lGROT
      (.grotto (decide ((ticked s).grot.sec = 0) && decide ((ticked s).grot.min % 15 = 0)))
    exact congrArg (·.xing) (hsend.symm.trans hon)
  · refine ⟨_, congrArg done (if_pos hoff), ?_, ?_, ?_, ?_, ?_, ?_, ?_⟩
    · rfl
    · rfl
    · rfl
    · rfl
    · rfl
    · dsimp only
    · rfl
  · exact congrArg done ((if_neg hcnt).trans (grotWake_awake (s := { s with grot := { s.grot with wakeAt := s.now, wakeFree := !s.clk.xt32 } }) hrun haon 0 3 _))
  · exact congrArg done ((if_pos hdue).trans (grotWake_awake (s := { s with grot := { s.grot with almDue := false } }) hrun haon 1 4 _))

end Sys2Proof.Machine
end

section
/-! PROOFS. The PTP clock: its reads and steps, the lock state of its servo, and the pulse per second (R88 to R94). -/
namespace Sys2Proof.Machine

/-- A signed 64-bit field, put back into 64 bits, is the field. -/
theorem ofInt_sInt64 (d : DWord) : BitVec.ofInt 64 (sInt64 d) = d := by
  have h : sInt64 d = d.toInt := by
    simp only [sInt64, sext, BitVec.toInt]
    have := d.isLt
    split <;> split <;> omega
  rw [h, BitVec.ofInt_toInt]

/-- A record for Flowstone joins what arrives there, or is counted as dropped (R14). -/
theorem flowRec_frame (s : State) (line : Nat) (src : BitVec 4) (typ : Byte) (b : List Byte) :
    ∃ f a, flowRec s line src typ b = { s with flow := f, act := a } := by
  unfold flowRec dropAbsent
  split
  · split
    · exact ⟨s.flow, _, rfl⟩
    · exact ⟨s.flow, s.act, rfl⟩
  · exact ⟨_, s.act, rfl⟩

/-- A move of the lock state changes the clock's own state as named, and beside it headers, Flowstone's queue and the drop counters. -/
theorem ptpMove_frame (s : State) (dest : BitVec 2) (step : Int) : ∃ h f a, ptpMove s dest step =
    { s with ptp := { s.ptp with lock := dest, good := 0, missed := 0 }, hdr := h, flow := f, act := a } := by
  obtain ⟨h, hraise⟩ := raiseIf_frame (decide (s.ptp.lock ≠ dest)) { s with ptp := { s.ptp with lock := dest, good := 0, missed := 0 } } lPTP 0
  unfold ptpMove
  dsimp only
  rw [hraise]
  split
  · obtain ⟨f, a, hrec⟩ := flowRec_frame { s with ptp := { s.ptp with lock := dest, good := 0, missed := 0 }, hdr := h } lPTP 0#4 4#8 _
    exact ⟨h, f, a, hrec⟩
  · exact ⟨h, s.flow, s.act, rfl⟩

/-- In FREERUN an offset above 100 µs steps the clock by it, and the servo acquires (R89, R91). -/
theorem ptpUpdate_freerun {s : State} (hlock : s.ptp.lock = 0#2) {offset : Int} (hmag : 100000 < offset.natAbs) :
    ptpUpdate s offset = servoStep { setReg s lPTP 0x124 (BitVec.ofInt 32 (sat32 offset)) with ptp := { s.ptp with missed := 0 } } 1#2 offset := by
  simp [ptpUpdate, hlock, hmag]

/-- Loss of the reference, by the lock state it finds (R91). -/
theorem ptpLost_acquire {s : State} (hlock : s.ptp.lock = 1#2) : ptpLost s = ptpMove s 0#2 0 := by simp [ptpLost, hlock]
theorem ptpLost_locked {s : State} (hlock : s.ptp.lock = 2#2) (hmax : cfg s lPTP 0x11C 15 0 ≠ 0) : ptpLost s = ptpMove s 3#2 0 := by
  simp [ptpLost, hlock, hmax]

/-- A source changes neither whether a unit works nor what a header enables. -/
theorem hdr_raise_en_frozen (s : State) (u i v : Nat) :
    (hdr (raise s u i) v).en = (hdr s v).en ∧ (hdr (raise s u i) v).frozen = (hdr s v).frozen := by
  by_cases h : v = u
  · subst h
    simp [raise]
  · simp [raise, hdr_setHdr_other _ _ _ _ h]
theorem works_raise (s : State) (u i v : Nat) : works (raise s u i) v = works s v := by
  obtain ⟨hen, hfrozen⟩ := hdr_raise_en_frozen s u i v
  simp only [works, hen, hfrozen]
  rfl
theorem servoOn_raise (s : State) (u i : Nat) : servoOn (raise s u i) = servoOn s := congrArg (· && !cfgBit s lPTP 0x114 3) (works_raise s u i lPTP)
theorem servoOn_stamped (s : State) (v : DWord) : servoOn (setReg64 s lPTP 0x138 v) = servoOn s := by
  have hreg : reg (setReg64 s lPTP 0x138 v) lPTP 0x114 = reg s lPTP 0x114 :=
    (reg_setReg_other (by decide) _ _ _).trans (reg_setReg_other (by decide) _ _ _)
  exact congrArg (works s lPTP && !bit · 3) hreg

/-- Settles O9: reads, steps and the servo's moves are what `ptpMove` leaves of the clock; an edge of the polarity asked for is stamped. -/
theorem ptpCommandsComplete : Obligations.PtpCommandsComplete := by
  refine ⟨fun s c hmay => ?_, fun s c hmay => ?_, fun s c d howns => ?_, fun s o hworks hauto hgm hlock hmag => ?_,
    fun s gm v utc hworks => ?_, fun s hservo hlock hmax => ?_, fun s hservo hlock => ?_, fun s hservo hlock => ?_,
    fun s hon hen hservo => ⟨fun hpol => ?_, fun hpol => ?_⟩, fun s hon hen hservo => ?_, fun s hon hen hlock => ?_, fun s => rfl⟩
  · exact congrArg done (readAccess_may hmay _ _)
  · exact congrArg done ((readAccess_may hmay _ _).trans (by simp [answer]))
  · obtain ⟨h, f, a, hmove⟩ := ptpMove_frame (ptpShift s (sInt64 d)) 0#2 (sInt64 d)
    refine ⟨_, done_ownerWrite howns hmove, ?_, rfl, rfl, rfl⟩
    exact congrArg (s.ptp.time + ·) (ofInt_sInt64 d)
  · have hservo : servoOn s = true := by simp [servoOn, hworks, hauto]
    obtain ⟨h, f, a, hmove⟩ := ptpMove_frame (ptpShift { setReg s lPTP 0x124 (BitVec.ofInt 32 (sat32 (sInt64 o))) with
      ptp := { s.ptp with missed := 0 } } (-sInt64 o)) 1#2 (-sInt64 o)
    refine ⟨_, congrArg done ((if_pos hworks).trans ((if_pos (by simp [hservo, hgm])).trans ((ptpUpdate_freerun hlock hmag).trans
      (congrArg (raise · lPTP 2) hmove)))), rfl, ?_, rfl⟩
    exact (congrArg (s.ptp.time + ·) (BitVec.ofInt_neg ..)).trans (BitVec.sub_eq_add_neg ..).symm
  · exact congrArg done ((if_pos hworks).trans (if_pos rfl))
  · obtain ⟨h, f, a, hmove⟩ := ptpMove_frame s 3#2 0
    exact ⟨_, congrArg done ((if_pos hservo).trans ((ptpLost_locked hlock hmax).trans hmove)), rfl, rfl, rfl⟩
  · obtain ⟨h, f, a, hmove⟩ := ptpMove_frame s 0#2 0
    exact ⟨_, congrArg done ((if_pos hservo).trans ((ptpLost_acquire hlock).trans hmove)), rfl, rfl, rfl⟩
  · obtain ⟨h, f, a, hmove⟩ := ptpMove_frame s 0#2 0
    exact ⟨_, congrArg done ((if_pos ⟨hservo, hlock⟩).trans hmove), rfl, rfl, rfl⟩
  · have hedge : (unitOn s lPTP && cfgBit s lPTP 0x130 0 && (!s.ptp.ppsIn ^^ cfgBit s lPTP 0x130 1)) = true := by simp [hon, hen, hpol]
    have hoff : servoOn (raise (setReg64 { s with ptp := { s.ptp with ppsIn := !s.ptp.ppsIn } } lPTP 0x138 (time64 s)) lPTP 1) = false :=
      (servoOn_raise _ _ _).trans ((servoOn_stamped _ _).trans hservo)
    exact congrArg done ((if_pos hedge).trans (if_neg (by rw [Bool.and_eq_true]; exact fun h => absurd h.1 (ne_true_of_eq_false hoff))))
  · have hno : ¬ (unitOn s lPTP && cfgBit s lPTP 0x130 0 && (!s.ptp.ppsIn ^^ cfgBit s lPTP 0x130 1)) = true := by simp [hpol]
    exact congrArg done (if_neg hno)
  · have hoff : servoOn (raise s lPTP 3) = false := (servoOn_raise s _ _).trans hservo
    exact congrArg done ((if_pos (by simp [hon, hen])).trans (if_neg (by simp [hoff])))
  · exact congrArg done (if_pos (by simp [hon, hen]; simpa using hlock))

end Sys2Proof.Machine
end

section
/-! PROOFS. Flowstone: the queue and the writer, erasing, snapshots and the authorised clear (R351 to R366). -/
namespace Sys2Proof.Machine

/-! ### What writing a record changes -/

/-- A record that fits the open head block is written behind the last one (R351, R355). -/
theorem writeRec_fits {s : State} {r : FlowRec} (hclosed : s.flow.closed = false)
    (hfits : s.flow.headAddr - blkBase s.flow.headBlk + recSize r.payload.length ≤ 0x10000) :
    writeRec s r = { s with
      mem := msetBytes s.mem s.flow.headAddr (recBytes s.flow.nextSeq (time64 s) r)
      flow := { s.flow with
        nextSeq := s.flow.nextSeq + 1, headAddr := s.flow.headAddr + recSize r.payload.length,
        closed := decide (0x10000 ≤ s.flow.headAddr + recSize r.payload.length - blkBase s.flow.headBlk) } } := by
  have hsame : ¬ (s.flow.closed || decide (0x10000 < s.flow.headAddr - blkBase s.flow.headBlk + recSize r.payload.length)) = true := by
    simp [hclosed]
    omega
  unfold writeRec
  dsimp only
  rw [if_neg hsame]

/-- A state differs from another in memory, headers and snapshots alone. -/
def PinsBroken (s t : State) : Prop := ∃ m h sn, t = { s with mem := m, hdr := h, flow := { s.flow with snaps := sn } }

theorem pinsBroken_refl (s : State) : PinsBroken s s := ⟨s.mem, s.hdr, s.flow.snaps, rfl⟩
theorem pinsBroken_setSnap {s t : State} (h : PinsBroken s t) (x : Nat) (v : Snap) : PinsBroken s (setSnap t x v) := by
  obtain ⟨m, g, sn, rfl⟩ := h
  exact ⟨m, g, _, rfl⟩
theorem pinsBroken_raise {s t : State} (h : PinsBroken s t) (u i : Nat) : PinsBroken s (raise t u i) := by
  obtain ⟨m, g, sn, rfl⟩ := h
  exact ⟨m, _, sn, rfl⟩
theorem pinsBroken_eraseBlk {s t : State} (h : PinsBroken s t) (b : Nat) : PinsBroken s (eraseBlk t b) := by
  obtain ⟨m, g, sn, rfl⟩ := h
  exact ⟨_, g, sn, rfl⟩
/-- Breaking the pins of a block is such a change (R362). -/
theorem pinsBroken_breakPins (s : State) (b : Nat) : PinsBroken s (breakPins s b) := by
  refine pinsBroken_eraseBlk ?_ b
  refine List.foldlRecOn _ _ (pinsBroken_refl s) (fun t ht x _ => ?_)
  split
  · exact pinsBroken_raise (pinsBroken_setSnap ht _ _) _ _
  · exact ht

/-- A record written, in a new block where the open one is closed or has no room, moves the head and takes the next SEQ. -/
theorem writeRec_frame (s : State) (r : FlowRec) : ∃ m h sn hb ha cl, writeRec s r = { s with mem := m, hdr := h, flow := { s.flow with
    snaps := sn, headBlk := hb, headAddr := ha, closed := cl, nextSeq := s.flow.nextSeq + 1 } } := by
  have hopen : ∃ m h sn hb ha cl, (if s.flow.closed || decide (0x10000 < s.flow.headAddr - blkBase s.flow.headBlk + recSize r.payload.length)
      then openNext s else s) = { s with mem := m, hdr := h, flow := { s.flow with snaps := sn, headBlk := hb, headAddr := ha, closed := cl } } := by
    split
    · have hbroken : PinsBroken s (if blkErased s.mem ((s.flow.headBlk + 1) % ringBlocks) then s else breakPins s ((s.flow.headBlk + 1) % ringBlocks)) := by
        split
        · exact pinsBroken_refl s
        · exact pinsBroken_breakPins s _
      obtain ⟨m, h, sn, heq⟩ := hbroken
      unfold openNext
      dsimp only
      rw [heq]
      exact ⟨m, h, sn, _, _, _, rfl⟩
    · exact ⟨s.mem, s.hdr, s.flow.snaps, s.flow.headBlk, s.flow.headAddr, s.flow.closed, rfl⟩
  obtain ⟨m, h, sn, hb, ha, cl, heq⟩ := hopen
  unfold writeRec
  dsimp only
  rw [heq]
  exact ⟨_, h, sn, hb, _, _, rfl⟩

/-! ### A clear -/

/-- A clear that begins on an empty queue takes one SEQ, that of its CLEAR record (R364). -/
theorem beginClear_frame {s : State} (hempty : s.flow.queue = []) (c : Ctx) (q : Nat) (n : BitVec 128) :
    ∃ m h sn hb ha cl, beginClear s c q n = { s with mem := m, hdr := h, flow := { s.flow with
      snaps := sn, headBlk := hb, headAddr := ha, closed := cl, nextSeq := s.flow.nextSeq + 1,
      clearing := some s.flow.nextSeq, clearErased := 0, clearAsked := none } } := by
  have hwrite : writeAll s.flow.queue.length s = s := by rw [hempty]; rfl
  have htold (q : Nat) (t : State) : PinsBroken t ((List.range 8).foldl (fun t x =>
      if (snap t x).held then setSnap t x { snap t x with floor := q, lost := true } else t) t) := by
    refine List.foldlRecOn _ _ (pinsBroken_refl t) (fun u hu x _ => ?_)
    split
    · exact pinsBroken_setSnap hu _ _
    · exact hu
  unfold beginClear
  dsimp only
  rw [hwrite]
  generalize hr : FlowRec.mk 0#4 7#8 _ = r
  obtain ⟨m, h, sn, hb, ha, cl, hrec⟩ := writeRec_frame { s with flow := { s.flow with closed := true } } r
  rw [hrec]
  obtain ⟨m', h', sn', htold⟩ := htold s.flow.nextSeq { s with mem := m, hdr := h, flow := { s.flow with
    snaps := sn, headBlk := hb, headAddr := ha, closed := cl, nextSeq := s.flow.nextSeq + 1 } }
  rw [htold]
  exact ⟨m', h', sn', hb, ha, cl, rfl⟩

theorem clrWrite_may {s : State} {c : Ctx} (hreach : reaches s c lFLOW = true) (hmay : cfgBit s lFLOW 0x104 (16 + c.toNat) = true)
    (o : Nat) (k : State → State) : clrWrite s c o k = k s := (access_reaches hreach _ _ _).trans (if_pos hmay)

/-- While a clear runs, its first block is the next to go. -/
theorem eraseStep_clearing {s : State} {q b : Nat} {rest : List Nat} (hclr : s.flow.clearing = some q) (hblocks : clearBlocks s q = b :: rest) :
    eraseStep s = { eraseBlk s b with flow := { (eraseBlk s b).flow with clearErased := (eraseBlk s b).flow.clearErased + 1 } } := by
  simp only [eraseStep, hclr, hblocks, List.head?_cons]

theorem exec_flowRecordIn {s : State} {r : FlowRec} {rest : List FlowRec} (h : s.flow.arriving = r :: rest) :
    exec .flowRecordIn s = done (queueRec { s with flow := { s.flow with arriving := rest } } r) := by
  simp only [exec, execFlowRecordIn, h]

theorem exec_clearDone {s : State} {q : Nat} (hclr : s.flow.clearing = some q) (hruns : writerRuns s = true) (hblocks : clearBlocks s q = []) :
    exec .clearDone s = done (raise { writeAfter s ⟨0#4, 8#8, leBytes 4 s.flow.clearErased ++ leBytes 4 0⟩ with
      flow := { (writeAfter s ⟨0#4, 8#8, leBytes 4 s.flow.clearErased ++ leBytes 4 0⟩).flow with clearing := none } } lFLOW 2) := by
  simp [exec, execClearDone, hclr, hruns, hblocks]

/-- Settles O10: the queue, the writer, erasing and snapshots are the model's, and a clear takes one SEQ for each record of its own. -/
theorem flowstoneCommandsComplete : Obligations.FlowstoneCommandsComplete := by
  refine ⟨fun s r rest harr htakes hroom => ?_, fun s r rest harr htakes hfull hlo hhi => ?_, fun s r rest hruns hqueue hloss hclosed hfits => ?_,
    fun s b hruns hclr hres => ?_, fun s q b rest hruns hclr hblocks => ?_, fun s c a v hpath hon => ?_, fun s hworks hneed hstop hphase => ?_,
    fun s x hreach hmay => ?_, fun s x hreach hheld => ?_, fun s x v hreach hlo hhi => ?_, fun s x v hreach hout => ?_, fun s c hreach hmay => ?_,
    fun s => rfl, fun s c hreach hmay hok hruns hempty => ?_, fun s c hreach hmay hok hruns => ?_, fun s c hreach hmay hbad => ?_,
    fun s q hclr hruns hblocks hempty => ?_⟩
  · refine (exec_flowRecordIn harr).trans (congrArg done ((if_neg ?_).trans (if_neg ?_)))
    · have h : flowTakes { s with flow := { s.flow with arriving := rest } } r.src = true := htakes
      simp [h]
    · simp
      omega
  · refine (exec_flowRecordIn harr).trans (congrArg done ((if_neg ?_).trans (if_pos ?_)))
    · have h : flowTakes { s with flow := { s.flow with arriving := rest } } r.src = true := htakes
      simp [h]
    · simp [hfull, hlo, hhi]
  · refine congrArg done ((if_pos hruns).trans ?_)
    simp only [writeNext, hqueue]
    rw [writeRec_fits (s := { s with flow := { s.flow with queue := rest } }) hclosed hfits, if_neg (by simp [hloss])]
    rfl
  · refine congrArg done ((if_pos hruns).trans ?_)
    simp only [eraseStep, hclr, hres]
    rfl
  · exact congrArg done ((if_pos hruns).trans (eraseStep_clearing hclr hblocks))
  · exact congrArg done (if_pos (by simp [hpath, hon]))
  · exact congrArg done (if_pos (by simp [hworks, hneed, hstop, hphase]))
  · refine done_ctxWrite hreach ((if_neg (by simp [hmay])).trans ?_)
    cases firstRec s <;> rfl
  · exact done_ctxWrite hreach (if_pos (by simp [hheld]))
  · exact done_ctxWrite hreach (if_neg (by simp; omega))
  · exact done_ctxWrite hreach (if_pos (by simpa using hout))
  · exact congrArg done (clrWrite_may hreach hmay _ _)
  · obtain ⟨m, h, sn, hb, ha, cl, hbegin⟩ := beginClear_frame (s := { s with flow := { s.flow with nonce := none, clrResult := 1#4 } }) hempty
      c (clrSeq s) s.flow.nonceReg
    refine ⟨beginClear { s with flow := { s.flow with nonce := none, clrResult := 1#4 } } c (clrSeq s) s.flow.nonceReg,
      congrArg done ((clrWrite_may hreach hmay _ _).trans ((if_pos hok).trans ((if_pos hruns).trans ?_))), ?_⟩
    · dsimp only
      rw [hok]
      rfl
    · rw [hbegin]
      exact ⟨rfl, rfl, rfl, rfl, rfl⟩
  · refine congrArg done ((clrWrite_may hreach hmay _ _).trans ((if_pos hok).trans ((if_neg (ne_true_of_eq_false hruns)).trans ?_)))
    dsimp only
    rw [hok]
    rfl
  · have hon : unitOn s lFLOW = true := by
      simp only [reaches, Bool.and_eq_true] at hreach
      exact hreach.2
    refine ⟨_, congrArg done ((clrWrite_may hreach hmay _ _).trans ((if_neg hbad).trans (congrArg (raise · lFLOW 3) (if_neg ?_)))), rfl, rfl, rfl, rfl, rfl⟩
    exact (by simp [hon] : ¬ (!unitOn s lFLOW) = true)
  · obtain ⟨m, h, sn, hb, ha, cl, hrec⟩ := writeRec_frame s ⟨0#4, 8#8, leBytes 4 s.flow.clearErased ++ leBytes 4 0⟩
    have hafter : writeAfter s ⟨0#4, 8#8, leBytes 4 s.flow.clearErased ++ leBytes 4 0⟩ =
        writeRec s ⟨0#4, 8#8, leBytes 4 s.flow.clearErased ++ leBytes 4 0⟩ := by
      unfold writeAfter
      rw [hempty]
      rfl
    refine ⟨_, exec_clearDone hclr hruns hblocks, ?_⟩
    rw [hafter, hrec]
    refine ⟨rfl, rfl, ?_, rfl⟩
    simp [raise]

end Sys2Proof.Machine
end

section
/-! PROOFS. The Chambers: scans, entries and conversions (R114 to R123, R130), and their strobes, tachometer, calibration and supplies
(R121 to R123, R133 to R140). -/
namespace Sys2Proof.Machine

/-! ### Entries -/

/-- With no set pending a boundary changes nothing (R142). -/
theorem chmBoundary_idle {s : State} {n : Nat} (h : (hdr s (lCHMB n)).pend = none) : chmBoundary s n = s := by
  simp [chmBoundary, h]

/-- With no injection asked for, none starts and none ends at an entry (R461). -/
theorem injectStart_none {s : State} (h : s.test.inj = false) (n e : Nat) : injectStart s n e = s := by simp [injectStart, injects, h]

theorem scanStart_starts {s : State} {n e : Nat} {rest : List (Nat × Bool)} (hpend : (hdr s (lCHMB n)).pend = none)
    (hscan : (chm s n).scan = (e, false) :: rest) (hmode : entMode s n e 0 = true) :
    scanStart s n = if scanWaits s n e then s
      else beginEntry (setChm s n { chm s n with scan := rest }) n e .scan 0 false ⟨0, 0, 0, 0, false, false⟩ := by
  simp [scanStart, chmBoundary_idle hpend, hscan, hmode]

theorem feedbackStart_next {s : State} {n : Nat} {f : Strobe} {rest : List Strobe} (hpend : (hdr s (lCHMB n)).pend = none)
    (hlist : (chm s n).fbList = f :: rest) :
    feedbackStart s n = if entMode s n f.ent 1
      then beginEntry (setChm s n { chm s n with fbList := rest }) n f.ent .feedback f.slot false ⟨0, 0, 0, 0, false, false⟩
      else noSample (setChm s n { chm s n with fbList := rest }) n f := by
  simp only [feedbackStart, hlist, chmBoundary_idle hpend]
  rfl

theorem angleStart_next {s : State} {n e : Nat} {a : AngStrobe} {rest : List AngStrobe} (hpend : (hdr s (lCHMB n)).pend = none)
    (hq : (chm s n).angQ = a :: rest) (hent : angleEntry s n = some e) :
    angleStart s n = beginEntry (setChm s n { chm s n with angQ := rest, angIdx := a.idx }) n e .angle 0 false a := by
  simp only [angleStart, hq, chmBoundary_idle hpend, hent]

/-- A SCAN entry that begins, with no injection asked for. -/
theorem beginEntry_scan {s : State} (hinj : s.test.inj = false) (n e : Nat) (c : Chmb) :
    beginEntry (setChm s n c) n e .scan 0 false ⟨0, 0, 0, 0, false, false⟩ = setChm s n { c with
      swapNext := mput c.swapNext e (!mbit c.swapNext e),
      cur := some { ent := e, src := .scan, swapped := bit (entSel s n e) 28 && mbit c.swapNext e,
                    sel := entSel s n e, exc := entExc s n e, tim := entTim s n e, t0 := (time64 s).toNat,
                    gain := reg s (lCHMB n) (0x180 + 16 * fld (entSel s n e) 18 16 + 4),
                    ofs := reg s (lCHMB n) (0x180 + 16 * fld (entSel s n e) 18 16 + 8) } } := by
  unfold beginEntry
  rw [injectStart_none (s := setChm s n c) hinj]
  dsimp only
  rw [chm_setChm, setChm_setChm, Bool.not_false, Bool.and_true]
  rfl

/-- ENTRY_START in a Chamber that may start and has no entry in progress. -/
theorem exec_entryStart_scan {s : State} {n : BitVec 3} (hstarts : chmStarts s n.toNat = true) (hcur : (chm s n.toNat).cur = none) :
    exec (.entryStart n .scan) s = done (scanStart s n.toNat) := congrArg done (if_neg (by simp [hstarts, hcur]))
theorem exec_entryStart_feedback {s : State} {n : BitVec 3} (hstarts : chmStarts s n.toNat = true) (hcur : (chm s n.toNat).cur = none) :
    exec (.entryStart n .feedback) s = done (feedbackStart s n.toNat) := congrArg done (if_neg (by simp [hstarts, hcur]))
theorem exec_entryStart_angle {s : State} {n : BitVec 3} (hstarts : chmStarts s n.toNat = true) (hcur : (chm s n.toNat).cur = none) :
    exec (.entryStart n .angle) s = done (angleStart s n.toNat) := congrArg done (if_neg (by simp [hstarts, hcur]))

/-! ### Conversions -/

/-- A windowed register is no register of the SYS page, so that counting a dropped value leaves it. -/
theorem wk_ne_dropCounter {u o i line : Nat} (hline : line < 0x1000) : wk u o i ≠ rk lSYS (0x200 + 4 * line) := by
  have hsys : rk lSYS (0x200 + 4 * line) < 0x100000000 := by
    have hbase : unitBase lSYS = 0 := rfl
    simp only [rk, hbase]
    omega
  simp only [wk]
  omega

theorem loopGets_send {s : State} {src : Nat} (hsrc : src < 0x1000) (dst : Nat) (p : Payload) (x : Sample) :
    loopGets (send s src dst p) x = loopGets s x := by
  have hreg : rget (send s src dst p) (wk lINTG 0x180 x.ch) = rget s (wk lINTG 0x180 x.ch) := rget_send_other s (wk_ne_dropCounter hsrc) dst p
  simp only [loopGets, hreg]

/-- A conversion of an entry that is not injected: what it leaves, and where its sample goes. -/
theorem exec_conversionDone {s : State} {n : BitVec 3} {r : EntRun} (halive : alive s (lCHMB n.toNat) = true)
    (hconv : (chm s n.toNat).conv = some r) (hinj : s.test.injOn = false) (v : ConvResult) {t : State}
    (ht : t = send (raiseIf ((mergeSample s n.toNat r v).1.complA || (mergeSample s n.toNat r v).1.complB)
      (setChm s n.toNat (mergeSample s n.toNat r v).2) (lCHMB n.toNat) 5) (lCHMB n.toNat) lINTG (.sample (mergeSample s n.toNat r v).1)) :
    exec (.conversionDone n v) s = done (endPassIf (if r.src = .feedback && loopGets t (mergeSample s n.toNat r v).1
      then send t (lCHMB n.toNat) lLOOP (.feedback r.slot (mergeSample s n.toNat r v).1) else t) n.toNat) := by
  subst ht
  refine congrArg done ((if_neg (by simp [halive])).trans ?_)
  simp only [hconv, hinj, Bool.false_and]
  rfl

/-- The gets of the loop engine are not touched by what the conversion itself changes. -/
theorem loopGets_converted (s : State) (b : Bool) (n m : Nat) (c : Chmb) (x : Sample) :
    loopGets (raiseIf b (setChm s n c) (lCHMB m) 5) x = loopGets s x := by
  obtain ⟨h, hraise⟩ := raiseIf_frame b (setChm s n c) (lCHMB m) 5
  rw [hraise]
  rfl

/-- A pass with entries left goes on. -/
theorem endPassIf_goesOn {s : State} {n : Nat} {x : Nat × Bool} {rest : List (Nat × Bool)} (h : (chm s n).scan = x :: rest) :
    endPassIf s n = s := if_neg (by simp [h])

theorem endPassIf_skipped {s : State} {n : Nat} {c : Chmb} {x : Nat × Bool} {rest : List (Nat × Bool)} (h : c.scan = x :: rest)
    (u o lo k i : Nat) : endPassIf (raise (countUp (setChm s n c) u o lo k) u i) n = raise (countUp (setChm s n c) u o lo k) u i :=
  endPassIf_goesOn (show (chm (setChm s n c) n).scan = x :: rest by rw [chm_setChm, h])

/-- Settles O11: an entry begins with the settings in use, a conversion leaves with its sample, and a skipped entry leaves the pass running. -/
theorem chamberConversionCommandsComplete : Obligations.ChamberConversionCommandsComplete := by
  refine ⟨fun s n hstarts hgrid hpass => ?_, fun s n hstarts hgrid hpass => ?_,
    fun s n e rest hstarts hcur hpend hscan hmode hinj => ⟨fun hfree => ?_, fun hwaits => ?_⟩,
    fun s n f rest hstarts hcur hpend hlist => ⟨fun hmode => ?_, fun hmode => ?_⟩,
    fun s n a rest e hstarts hcur hpend hq hent => ?_, fun s n r halive hcur hconv => ?_,
    fun s n r v halive hconv hinj => ⟨fun hsrc => ?_, fun hsrc hgets => ?_, fun hsrc hgets => ?_⟩,
    fun s n e b x rest hstarts hcur hscan => ?_⟩
  · exact congrArg done ((if_neg (by simp [hstarts, hgrid])).trans (if_neg (ne_true_of_eq_false hpass)))
  · exact congrArg done ((if_neg (by simp [hstarts, hgrid])).trans (if_pos hpass))
  · exact (exec_entryStart_scan hstarts hcur).trans (congrArg done ((scanStart_starts hpend hscan hmode).trans
      ((if_neg (ne_true_of_eq_false hfree)).trans (beginEntry_scan hinj _ _ _))))
  · exact (exec_entryStart_scan hstarts hcur).trans (congrArg done ((scanStart_starts hpend hscan hmode).trans (if_pos hwaits)))
  · exact (exec_entryStart_feedback hstarts hcur).trans (congrArg done ((feedbackStart_next hpend hlist).trans (if_pos hmode)))
  · exact (exec_entryStart_feedback hstarts hcur).trans (congrArg done ((feedbackStart_next hpend hlist).trans (if_neg (ne_true_of_eq_false hmode))))
  · exact (exec_entryStart_angle hstarts hcur).trans (congrArg done (angleStart_next hpend hq hent))
  · refine congrArg done ((if_neg (by simp [halive])).trans ?_)
    simp only [hcur, hconv]
  · exact (exec_conversionDone halive hconv hinj v rfl).trans (congrArg done (congrArg (endPassIf · n.toNat) (if_neg (by simp [hsrc]))))
  · refine (exec_conversionDone halive hconv hinj v rfl).trans (congrArg done (congrArg (endPassIf · n.toNat) (if_pos ?_)))
    rw [loopGets_send (by have := n.isLt; unfold lCHMB; omega), loopGets_converted, hgets]
    simp [hsrc]
  · refine (exec_conversionDone halive hconv hinj v rfl).trans (congrArg done (congrArg (endPassIf · n.toNat) (if_neg ?_)))
    rw [loopGets_send (by have := n.isLt; unfold lCHMB; omega), loopGets_converted, hgets]
    simp
  · refine congrArg done ((if_neg (by simp [hstarts, hcur])).trans ?_)
    simp only [hscan]
    exact endPassIf_skipped rfl _ _ _ _ _

end Sys2Proof.Machine
end

section
/-! PROOFS. The Chambers' strobes, tachometer, calibration and supplies (R121 to R123, R133 to R140). -/
namespace Sys2Proof.Machine

theorem pageOf_lCHMB (n : BitVec 3) : pageOf (lCHMB n.toNat) = lCHMB n.toNat := if_pos (by have := n.isLt; unfold lCHMB; omega)

/-! ### Strobes -/

/-- One strobe that its entry can serve is served. -/
theorem serveStrobes_single {s : State} {n : Nat} {f : Strobe} (h : entMode s n f.ent 1 = true) : serveStrobes s n [] [f] = ([f], []) := by
  simp [serveStrobes, h]

/-- With no angle strobe scheduled none is dropped. -/
theorem dropAngle_setChm (s : State) (n : Nat) {c : Chmb} (h : c.angQ = []) : dropAngle (setChm s n c) n = setChm s n c := by
  have hc : { c with angQ := [], angGap := c.angGap || false } = c := by rw [Bool.or_false, ← h]
  simp only [dropAngle, chm_setChm, setChm_setChm, h, List.foldl_nil, List.range_zero, hc]

/-! ### Faults -/

/-- A lost strobe is counted and answered; the tests know nothing of it. -/
theorem noSample_test (s : State) (n : Nat) (f : Strobe) : (noSample s n f).test = s.test := by simp [noSample, raise, countUp, setChm]

/-- The strobe list of a Chamber, answered NO_SAMPLE. -/
def strobesLost (s : State) (n : Nat) : State := (chm s n).fbList.foldl (fun t f => noSample t n f) s

theorem strobesLost_test (s : State) (n : Nat) : (strobesLost s n).test = s.test := foldl_keeps (fun t f => noSample_test t n f) _ _

/-- A Chamber's work that holds no FEEDBACK entry ends with no answer but those of the strobe list. -/
theorem chmHalt_quiet {s : State} {n : Nat} (h : ∀ r, (chm s n).cur = some r ∨ (chm s n).conv = some r → r.src ≠ .feedback) :
    chmHalt s n = setChm (strobesLost s n) n { dropQueue (chm (strobesLost s n) n) with
      cur := none, conv := none, fbList := [], angLocked := false, angEdges := 0, angLast := none, scan := [], passOn := false, again := false } := by
  cases hcur : (chm s n).cur <;> cases hconv : (chm s n).conv <;> simp_all [chmHalt, strobesLost]

/-- A fault of CHVP in a Chamber with no FEEDBACK entry in progress and no injection. -/
theorem exec_chmbSupplyFault {s : State} {n : BitVec 3} (hon : unitOn s (lCHMB n.toNat) = true) (hinj : s.test.inj = false)
    (h : ∀ r, (chm s n.toNat).cur = some r ∨ (chm s n.toNat).conv = some r → r.src ≠ .feedback) :
    exec (.chmbSupplyFault n 0) s = done (setChm (strobesLost s n.toNat) n.toNat { dropQueue (chm (strobesLost s n.toNat) n.toNat) with
      chvp := true, cur := none, conv := none, fbList := [], angLocked := false, angEdges := 0, angLast := none, scan := [], passOn := false,
      again := false, calBusy := false }) := by
  have hno (m e : Nat) : injects (chmHalt s n.toNat) m e = false := by
    have htest : (chmHalt s n.toNat).test = s.test := by rw [chmHalt_quiet h]; exact strobesLost_test s n.toNat
    simp [injects, htest, hinj]
  refine congrArg done ((if_pos hon).trans ?_)
  dsimp only
  rw [hno, chmHalt_quiet h]
  simp

/-- The list of the next frame with one strobe, which its entry can serve, where no other strobe stands. -/
theorem exec_fbStrobeList_single {s : State} {n : BitVec 3} {f : Strobe} (hon : unitOn s (lCHMB n.toNat) = true)
    (hstarts : chmStarts s n.toNat = true) (hsent : (chm s n.toNat).fbSent = [f]) (hlist : (chm s n.toNat).fbList = [])
    (hq : (chm s n.toNat).angQ = []) (hmode : entMode s n.toNat f.ent 1 = true) :
    exec (.fbStrobeList n) s = done (setChm s n.toNat { chm s n.toNat with fbSent := [], fbList := [f] }) := by
  refine congrArg done ((if_neg (by simp [hon])).trans ((if_neg (by simp [hstarts])).trans ?_))
  have hsort : strobeSort [f] = [f] := rfl
  dsimp only
  rw [hlist, hsent, hsort]
  simp only [List.filter_nil, List.foldl_nil]
  rw [serveStrobes_single (by exact hmode), List.foldl_nil, chm_setChm, setChm_setChm, dropAngle_setChm _ _ (by exact hq)]

/-- A Chamber that starts entries has its domain on. -/
theorem unitOn_of_chmStarts {s : State} {n : Nat} (h : chmStarts s n = true) : unitOn s (lCHMB n) = true := by
  simp only [chmStarts, chmRuns, works, Bool.and_eq_true] at h
  obtain ⟨⟨⟨⟨hworks, -⟩, -⟩, -⟩, -⟩ := h
  obtain ⟨⟨⟨⟨⟨-, hon⟩, -⟩, -⟩, -⟩, -⟩ := hworks
  exact hon

theorem alive_setChm (s : State) (n : Nat) (c : Chmb) (u : Nat) : alive (setChm s n c) u = alive s u := rfl

/-- Settles O12: strobes are served or answered NO_SAMPLE; calibration, faults and the tachometer change their Chamber alone. -/
theorem chamberServiceCommandsComplete : Obligations.ChamberServiceCommandsComplete := by
  refine ⟨fun s n f hstarts hsent hlist hq hmode => ?_, fun s n hon hstarts => ?_, fun s n d t hstarts => ⟨fun htooth href => ?_, fun htooth href => ?_⟩,
    fun s n hstarts hlocked => ?_, fun s c n howns hfrozen => ?_, fun s c n howns hfrozen => ?_, fun s n hbusy hgrid => ?_,
    fun s n r hen hcount hsmall => ?_, fun s n => rfl, fun s n hon hinj hlist hquiet => ?_, fun s n f hon hinj hlist hcur hconv => ?_,
    fun s n halive hp hl hc => ?_⟩
  · refine ⟨_, (exec_fbStrobeList_single (unitOn_of_chmStarts hstarts) hstarts hsent hlist hq hmode), ?_, ?_, rfl⟩
    · rw [chm_setChm]
    · rw [chm_setChm]
  · exact congrArg done ((if_neg (by simp [hon])).trans (if_pos (by simp [hstarts])))
  · exact congrArg done ((if_neg (by simp [hstarts])).trans ((if_neg (by simp [href])).trans (if_pos (by simp [htooth]))))
  · exact congrArg done ((if_neg (by simp [hstarts])).trans ((if_pos (by simp [href])).trans (congrArg (refEdge · n.toNat) (if_neg (by simp [htooth])))))
  · exact congrArg done (if_pos (by simp [hstarts, hlocked]))
  · exact done_ownerWrite howns (if_pos hfrozen)
  · rw [pageOf_lCHMB]
    exact done_ownerWrite howns (if_neg (ne_true_of_eq_false hfrozen))
  · refine congrArg done ((if_pos hbusy).trans (if_neg ?_))
    have hback : backToBack s n.toNat = false := by simp [backToBack, hgrid]
    have hback' : backToBack (raise (setChm s n.toNat { chm s n.toNat with calBusy := false, calibrated := true, calDone := true, calFail := 0#8 })
      (lCHMB n.toNat) 6) n.toNat = false := hback
    simp [hback']
  · exact congrArg done (if_pos (by simp [hen, hcount, hsmall]))
  · refine (exec_chmbSupplyFault hon hinj hquiet).trans ?_
    have hlost : strobesLost s n.toNat = s := by rw [strobesLost, hlist]; rfl
    rw [hlost]
    simp [dropQueue, hlist, done]
  · refine (exec_chmbSupplyFault hon hinj (by simp [hcur, hconv])).trans ?_
    have hlost : strobesLost s n.toNat = noSample s n.toNat f := by rw [strobesLost, hlist]; rfl
    rw [hlost]
    rfl
  · refine ⟨setChm s n.toNat { chm s n.toNat with
      chvp := false, chvl := false, coupler := false, calBusy := true, calDone := false, cur := none, conv := none }, congrArg done ?_, ?_, ?_, rfl⟩
    · simp [halive, hp, hl, hc, chmFault, alive_setChm, startSelfCal]
    · rw [chm_setChm]
    · rw [chm_setChm]

end Sys2Proof.Machine
end

section
/-! PROOFS. The supply-sense converter: samples, windows, cycles, sags and blackout (R144 to R149). -/
namespace Sys2Proof.Machine

/-! ### Consecutive result words -/

/-- A register that a run of words does not reach keeps its value. -/
theorem rget_words_other {u o k : Nat} : ∀ (l : List Word) (n : Nat) (s : State), (∀ i, i < l.length → k ≠ rk u (o + 4 * (n + i))) →
    rget ((l.zipIdx n).foldl (fun t e => setReg t u (o + 4 * e.2) e.1) s) k = rget s k
  | [], _, _, _ => rfl
  | v :: l, n, s, h => by
    have hrest : ∀ i, i < l.length → k ≠ rk u (o + 4 * (n + 1 + i)) := fun i hi => by
      have := h (i + 1) (by simpa using hi)
      rwa [show n + (i + 1) = n + 1 + i by omega] at this
    rw [List.zipIdx_cons, List.foldl_cons, rget_words_other l (n + 1) _ hrest]
    exact rget_rset_other s _ k v (h 0 (by simp))

theorem rget_putWords_other {u o k : Nat} {l : List Word} (h : ∀ i, i < l.length → k ≠ rk u (o + 4 * i)) (s : State) :
    rget (putWords s u o l) k = rget s k := rget_words_other l 0 s (by simpa using h)

/-- A register that it reaches holds its word. -/
theorem reg_words_at {u o : Nat} (l : List Word) : ∀ (n i : Nat) (s : State), i < l.length →
    reg ((l.zipIdx n).foldl (fun t e => setReg t u (o + 4 * e.2) e.1) s) u (o + 4 * (n + i)) = l.getD i 0#32 := by
  induction l with
  | nil =>
    intro n i s h
    simp at h
  | cons v l ih =>
    intro n i s h
    rw [List.zipIdx_cons, List.foldl_cons]
    cases i with
    | zero =>
      rw [List.getD_cons_zero]
      have hrest : ∀ i, i < l.length → rk u (o + 4 * (n + 0)) ≠ rk u (o + 4 * (n + 1 + i)) := fun i _ => rk_ne (by omega) u
      exact (rget_words_other l (n + 1) _ hrest).trans (reg_setReg s u _ v)
    | succ i =>
      rw [List.getD_cons_succ, show n + (i + 1) = n + 1 + i by omega]
      exact ih (n + 1) i _ (by simpa using h)

theorem reg_putWords_at {u o i : Nat} {l : List Word} (h : i < l.length) (s : State) : reg (putWords s u o l) u (o + 4 * i) = l.getD i 0#32 := by
  have hat := reg_words_at (u := u) (o := o) l 0 i s h
  rwa [Nat.zero_add] at hat

theorem putWords_frame (u o : Nat) (l : List Word) (s : State) : ∃ a, putWords s u o l = { s with act := a } := by
  refine List.foldlRecOn (motive := fun t : State => ∃ a, t = { s with act := a }) l.zipIdx _ ⟨s.act, rfl⟩ ?_
  rintro t ⟨a, rfl⟩ e -
  exact ⟨_, rfl⟩

/-! ### Quantities sent to the integrity unit -/

/-- What is sent of a list of quantities: nothing by a standby (R448). -/
theorem ssnsSend_on {s : State} (hon : unitOn s lINTG = true) (q : Nat) (v : F32) (stamp : DWord) :
    ssnsSend s q v stamp = { s with xing := s.xing ++ (if standby s then [] else [⟨lSSNS, lINTG, .ssns (256 + q) v stamp⟩]) } := by
  unfold ssnsSend
  split
  · simp
  · exact send_on hon _ _

theorem ssnsSends_on {stamp : DWord} {q : Nat → Nat} : ∀ (l : List (F32 × Nat)) (s : State), unitOn s lINTG = true →
    l.foldl (fun t e => ssnsSend t (q e.2) e.1 stamp) s = { s with xing := s.xing ++
      (if standby s then [] else l.map (fun e => ⟨lSSNS, lINTG, .ssns (256 + q e.2) e.1 stamp⟩)) }
  | [], s, _ => by simp
  | e :: l, s, hon => by
    have hsame : standby { s with xing := s.xing ++ if standby s = true then [] else [⟨lSSNS, lINTG, .ssns (256 + q e.2) e.1 stamp⟩] } = standby s := rfl
    rw [List.foldl_cons, ssnsSend_on hon, ssnsSends_on l { s with xing := s.xing ++ if standby s = true then [] else [⟨lSSNS, lINTG, .ssns (256 + q e.2) e.1 stamp⟩] } hon, hsame]
    cases standby s <;> simp

theorem ssnsSend_frame (s : State) (q : Nat) (v : F32) (stamp : DWord) : ∃ a x, ssnsSend s q v stamp = { s with act := a, xing := x } := by
  unfold ssnsSend
  split
  · exact ⟨s.act, s.xing, rfl⟩
  · exact send_frame s _ _ _

/-! ### Windows -/

/-- The page with the results of a window, ahead of what is raised and sent. -/
def windowPage (s : State) (w : SsnsWindow) : State :=
  putWords (putWords (putWords s lSSNS 0x120 (windowVolts s)) lSSNS 0x140 (windowThd w)) lSSNS 0x200 w.harm

theorem windowVolts_length (s : State) : (windowVolts s).length = 7 := rfl
theorem windowThd_length (w : SsnsWindow) : (windowThd w).length = 3 := rfl

/-- What a window leaves of a register that is none of its results. -/
theorem rget_windowPage_other {s : State} {w : SsnsWindow} (hw : w.harm.length = 147) {k : Nat} (hvolts : ∀ i, i < 7 → k ≠ rk lSSNS (0x120 + 4 * i))
    (hthd : ∀ i, i < 3 → k ≠ rk lSSNS (0x140 + 4 * i)) (hharm : ∀ i, i < 147 → k ≠ rk lSSNS (0x200 + 4 * i)) :
    rget (windowPage s w) k = rget s k := by
  unfold windowPage
  rw [rget_putWords_other (by rwa [hw]), rget_putWords_other (by rwa [windowThd_length]), rget_putWords_other (by rwa [windowVolts_length])]

/-- Where the results of a window stand. -/
theorem reg_windowPage_volts {s : State} {w : SsnsWindow} (hw : w.harm.length = 147) {i : Nat} (hi : i < 7) :
    reg (windowPage s w) lSSNS (0x120 + 4 * i) = (windowVolts s).getD i 0#32 := by
  unfold windowPage reg
  rw [rget_putWords_other (fun j _ => rk_ne (by omega) _), rget_putWords_other (fun j hj => rk_ne (by rw [windowThd_length] at hj; omega) _)]
  exact reg_putWords_at (by rwa [windowVolts_length]) s
theorem reg_windowPage_thd {s : State} {w : SsnsWindow} (hw : w.harm.length = 147) {i : Nat} (hi : i < 3) :
    reg (windowPage s w) lSSNS (0x140 + 4 * i) = (windowThd w).getD i 0#32 := by
  unfold windowPage reg
  rw [rget_putWords_other (fun j _ => rk_ne (by omega) _)]
  exact reg_putWords_at (by rwa [windowThd_length]) _
theorem reg_windowPage_harm {s : State} {w : SsnsWindow} {i : Nat} (hi : i < w.harm.length) :
    reg (windowPage s w) lSSNS (0x200 + 4 * i) = w.harm.getD i 0#32 := reg_putWords_at hi _

theorem windowPage_frame (s : State) (w : SsnsWindow) : ∃ a, windowPage s w = { s with act := a } := by
  obtain ⟨a, ha⟩ := putWords_frame lSSNS 0x120 (windowVolts s) s
  obtain ⟨b, hb⟩ := putWords_frame lSSNS 0x140 (windowThd w) { s with act := a }
  obtain ⟨c, hc⟩ := putWords_frame lSSNS 0x200 w.harm { s with act := b }
  exact ⟨c, by rw [windowPage, ha, hb, hc]⟩

/-- The state that a window leaves behind, ahead of its samples: the page, WIN_CNT and the source. -/
def windowDone (s : State) (w : SsnsWindow) : State :=
  let t := setReg (windowPage s w) lSSNS 0x154 (reg (windowPage s w) lSSNS 0x154 + 1#32)
  raise { t with ssns := { t.ssns with rotErr := w.rotErr, win := {}, windowed := true } } lSSNS 5

/-- The samples that a window sends. -/
def windowSamples (s : State) (w : SsnsWindow) : List Xing :=
  (windowVolts s).zipIdx.map (fun e => ⟨lSSNS, lINTG, .ssns (256 + e.2) e.1 s.ssns.last⟩) ++
  (windowThd w).zipIdx.map (fun e => ⟨lSSNS, lINTG, .ssns (256 + (8 + e.2)) e.1 s.ssns.last⟩)

theorem exec_ssnsWindowEnd {s : State} {w : SsnsWindow} (hw : w.harm.length = 147) (hworks : works s lSSNS = true) (hn : s.ssns.win.n ≠ 0) :
    exec (.ssnsWindowEnd w) s = done ((windowThd w).zipIdx.foldl (fun t e => ssnsSend t (8 + e.2) e.1 s.ssns.last)
      ((windowVolts s).zipIdx.foldl (fun t e => ssnsSend t e.2 e.1 s.ssns.last) (windowDone s w))) := by
  have hcond : (works s lSSNS && decide (s.ssns.win.n ≠ 0)) = true := by simp [hworks, hn]
  show execSsnsWindowEnd w s = _
  unfold execSsnsWindowEnd
  rw [if_pos (decide_eq_true hw), if_pos hcond]
  rfl

/-- What `windowDone` keeps of what sending reads. -/
theorem windowDone_frame (s : State) (w : SsnsWindow) : ∃ a, windowDone s w = raise { s with
    act := a, ssns := { s.ssns with rotErr := w.rotErr, win := {}, windowed := true } } lSSNS 5 := by
  obtain ⟨a, ha⟩ := windowPage_frame s w
  unfold windowDone
  rw [ha]
  exact ⟨_, rfl⟩

/-- With the integrity unit's domain on, every sample of a window is on its way. -/
theorem windowSends_on {s : State} (hon : unitOn s lINTG = true) (w : SsnsWindow) :
    (windowThd w).zipIdx.foldl (fun t e => ssnsSend t (8 + e.2) e.1 s.ssns.last)
      ((windowVolts s).zipIdx.foldl (fun t e => ssnsSend t e.2 e.1 s.ssns.last) (windowDone s w)) =
    { windowDone s w with xing := s.xing ++ (if standby s then [] else windowSamples s w) } := by
  obtain ⟨a, ha⟩ := windowDone_frame s w
  have hvolts := ssnsSends_on (stamp := s.ssns.last) (q := fun i => i) (windowVolts s).zipIdx (windowDone s w) (by rw [ha]; exact hon)
  have hstandby : standby (windowDone s w) = standby s := by rw [ha]; rfl
  have hxing : (windowDone s w).xing = s.xing := by rw [ha]; rfl
  rw [hstandby, hxing] at hvolts
  rw [hvolts, ssnsSends_on (stamp := s.ssns.last) (q := fun i => 8 + i) (windowThd w).zipIdx { windowDone s w with
    xing := s.xing ++ (if standby s then [] else (windowVolts s).zipIdx.map (fun e => ⟨lSSNS, lINTG, .ssns (256 + e.2) e.1 s.ssns.last⟩)) }
    (by rw [ha]; exact hon)]
  have hstandby' : ∀ x, standby { windowDone s w with xing := x } = standby s := fun _ => hstandby
  rw [hstandby']
  cases standby s <;> simp [windowSamples]

/-- The registers of a window's results, once it is done. -/
theorem reg_windowDone_other (s : State) (w : SsnsWindow) {o : Nat} (h : o ≠ 0x154) :
    reg (windowDone s w) lSSNS o = reg (windowPage s w) lSSNS o := reg_setReg_other h _ _ _

/-- With no set pending a sample meets no boundary. -/
theorem ssnsBoundary_idle {s : State} (h : (hdr s lSSNS).pend = none) : ssnsBoundary s = s := by
  simp [ssnsBoundary, takeEffect_none h]

/-! ### Half cycles -/

/-- Three bits replaced whole, and bit A alone. -/
theorem phaseBits_all (old new : BitVec 3) : phaseBits old 7#3 new = new := by revert old new; decide
theorem phaseBits_first_set (old : BitVec 3) (b c : Bool) : phaseBits old 1#3 (abc true b c) = old ||| 1#3 := by revert old b c; decide
theorem phaseBits_first_clear {old : BitVec 3} (h : old.getLsbD 0 = false) (b c : Bool) : phaseBits old 1#3 (abc false b c) = old := by
  revert old b c; decide
theorem phaseBits_first_not (old : BitVec 3) (b c : Bool) : phaseBits old 1#3 (~~~abc true b c) = old &&& 6#3 := by revert old b c; decide

/-- The state in which phase A has just begun to sag. -/
def sagged (s : State) : State :=
  raise { s with ssns := { s.ssns with sag := s.ssns.sag ||| 1#3, above := s.ssns.above &&& 6#3, halfA := {} } } lSSNS 2

theorem sagged_latched (s : State) : (hdr (sagged s) lSSNS).latched.getLsbD 2 = true := by simp [sagged, raise]

/-- A new bit is new, whatever the others hold. -/
theorem sag_new {old : BitVec 3} (h : old.getLsbD 0 = false) : (old ||| 1#3) &&& ~~~old ≠ 0#3 := by revert old; decide
theorem sag_some (old : BitVec 3) : old ||| 1#3 ≠ 0#3 := by revert old; decide

/-- A half cycle of phase A alone whose RMS is below SAG_THR: the first sag is sent (R145, R148). -/
theorem exec_ssnsHalfCycle_sag {s : State} (hworks : works s lSSNS = true) (ha : s.ssns.halfA.n ≠ 0) (hsag : s.ssns.sag.getLsbD 0 = false)
    (hswell : s.ssns.swell.getLsbD 0 = false) (hlow : halfLow s s.ssns.halfA = true) (hhigh : halfHigh s s.ssns.halfA = false) :
    exec (.ssnsHalfCycle true false false) s =
      done (if s.ssns.sag = 0#3 then ssnsSend (sagged s) 12 f32One (time64 s) else sagged s) := by
  have hends : abc (true && decide (s.ssns.halfA.n ≠ 0)) (false && decide (s.ssns.halfB.n ≠ 0)) (false && decide (s.ssns.halfC.n ≠ 0)) = 1#3 := by
    simp [ha, abc, b2n]
  refine congrArg done ((if_pos (by simp [hworks, ha])).trans ?_)
  dsimp only
  rw [hlow, hhigh, hends, phaseBits_first_clear hswell, phaseBits_first_set, phaseBits_first_not, if_pos rfl]
  have hnew : decide ((s.ssns.sag ||| 1#3) &&& ~~~s.ssns.sag = 0#3) = false := decide_eq_false (sag_new hsag)
  have hsame : decide (s.ssns.swell &&& ~~~s.ssns.swell = 0#3) = true := decide_eq_true (by simp)
  have hsome : decide (s.ssns.sag ||| 1#3 = 0#3) = false := decide_eq_false (sag_some _)
  simp only [ha, ne_eq, decide_not, decide_false, Bool.not_false, Bool.and_self, Bool.false_and, if_true, Bool.false_eq_true, if_false,
    hnew, hsame, hsome, Bool.not_true, raiseIf]
  by_cases hfirst : s.ssns.sag = 0#3
  · rw [if_neg (by simp [hfirst]), if_pos hfirst]
    rfl
  · rw [if_pos (by simp [hfirst]), if_neg hfirst]
    rfl

/-- Settles O13: sums and runs are kept sample by sample; a window replaces its registers and is sent; sags, swells and blackouts are told as
they begin and end. -/
theorem supplySenseCommandsComplete : Obligations.SupplySenseCommandsComplete := by
  refine ⟨fun s a b c n hworks hpend => ?_, fun s w hw hworks hn hon => ?_, fun s w hw hworks hn => ?_, fun s f p hworks hbad => ?_,
    fun s f p hworks hok => ⟨fun hwin => ?_, fun hwin => ?_⟩, fun s hworks ha hb hc hsag hswell hquiet => ?_,
    fun s hworks ha hsag hswell hlow hhigh => ?_, fun s a b c hworks ha hb hc => ?_, fun s d hworks hrun hblack => ?_,
    fun s hworks hblack habove => ?_⟩
  · refine congrArg done ((if_pos hworks).trans ?_)
    rw [ssnsBoundary_idle hpend]
  · have hlen : w.harm.length = 147 := of_decide_eq_true hw
    obtain ⟨a, hframe⟩ := windowDone_frame s w
    refine ⟨_, (exec_ssnsWindowEnd hlen hworks hn).trans (congrArg done (windowSends_on hon w)), ?_, ?_, ?_, ?_, fun i hi => ?_, fun i hi => ?_,
      fun i hi => ?_, rfl, fun v hv => ?_, fun k hk => ?_, ?_⟩
    · refine (reg_setReg (windowPage s w) lSSNS 0x154 _).trans (congrArg (· + 1#32) ?_)
      exact rget_windowPage_other hlen (fun i hi => rk_ne (by omega) _) (fun i hi => rk_ne (by omega) _) (fun i hi => rk_ne (by omega) _)
    · rw [hframe]; rfl
    · rw [hframe]; rfl
    · rw [hframe]; rfl
    · exact (reg_windowDone_other s w (by omega)).trans (reg_windowPage_volts hlen hi)
    · exact (reg_windowDone_other s w (by omega)).trans (reg_windowPage_thd hlen hi)
    · exact (reg_windowDone_other s w (by omega)).trans (reg_windowPage_harm (by rwa [hlen]))
    · rw [hframe]
      exact hdr_setHdr_other _ _ _ _ hv
    · refine (rget_rset_other (windowPage s w) (rk lSSNS 0x154) k _ (hk 0x154 (by decide))).trans ?_
      exact rget_windowPage_other hlen (fun i hi => hk _ (by omega)) (fun i hi => hk _ (by omega)) (fun i hi => hk _ (by omega))
    · rw [hframe]; rfl
  · show execSsnsWindowEnd w s = _
    unfold execSsnsWindowEnd
    rw [if_pos (show decide (w.harm.length = 147) = true from hw)]
    exact congrArg done (if_neg (by simp [hn]))
  · refine congrArg done ((if_pos hworks).trans ?_)
    simp only [hbad, Bool.false_and]
    rfl
  · refine congrArg done ((if_pos hworks).trans ?_)
    simp only [hok, hwin, Bool.and_self]
    rfl
  · refine congrArg done ((if_pos hworks).trans ?_)
    simp only [hok, hwin, Bool.and_false]
    rfl
  · refine congrArg done ((if_pos (by simp [hworks, ha])).trans ?_)
    have hqa := hquiet _ (.inl rfl)
    have hqb := hquiet _ (.inr (.inl rfl))
    have hqc := hquiet _ (.inr (.inr rfl))
    have hends : abc (true && decide (s.ssns.halfA.n ≠ 0)) (true && decide (s.ssns.halfB.n ≠ 0)) (true && decide (s.ssns.halfC.n ≠ 0)) = 7#3 := by
      simp [ha, hb, hc, abc, b2n]
    have hnone : abc false false false = 0#3 := rfl
    dsimp only
    rw [hqa.1, hqb.1, hqc.1, hqa.2, hqb.2, hqc.2, hends, hnone]
    simp [phaseBits_all, hsag, hswell, raiseIf, ha, hb, hc]
  · rw [exec_ssnsHalfCycle_sag hworks ha hsag hswell hlow hhigh]
    by_cases hfirst : s.ssns.sag = 0#3
    · rw [if_pos hfirst]
      obtain ⟨a, x, hsend⟩ := ssnsSend_frame (sagged s) 12 f32One (time64 s)
      refine ⟨_, rfl, ?_⟩
      rw [hsend]
      refine ⟨rfl, rfl, rfl, rfl, rfl, rfl, sagged_latched s, fun _ hactive hon => ?_, rfl⟩
      have hon' := ssnsSend_on (s := sagged s) hon 12 f32One (time64 s)
      have hstandby : standby (sagged s) = false := hactive
      rw [hsend, hstandby] at hon'
      exact congrArg (·.xing) hon'
    · rw [if_neg hfirst]
      exact ⟨sagged s, rfl, rfl, rfl, rfl, rfl, rfl, rfl, sagged_latched s, fun h => absurd h hfirst, rfl⟩
  · refine congrArg done (if_neg ?_)
    have hnone (x : Bool) (n : Nat) (h : x = true → n = 0) : (x && decide (n ≠ 0)) = false := by cases x <;> simp_all
    rw [hnone a _ ha, hnone b _ hb, hnone c _ hc]
    simp
  · simp only [exec, execBlackoutOn, hrun]
    exact congrArg done (if_pos (by simp [hworks, hblack]))
  · exact congrArg done (if_pos (by simp [hworks, hblack, habove]))

end Sys2Proof.Machine
end

section
/-! PROOFS. The integrity unit: acceptance, the strike rule, deadlines, noise and its windows (R151 to R160, R178 to R181). -/
namespace Sys2Proof.Machine

@[simp] theorem chan_setChan (s : State) (c : Nat) (v : Chan) : chan (setChan s c v) c = v := tget_tset_same s.intg.chan c v _
@[simp] theorem setChan_setChan (s : State) (c : Nat) (v w : Chan) : setChan (setChan s c v) c w = setChan s c w := by simp [setChan]

/-- The final quality asks a channel for its open-circuit state alone. -/
theorem finalQual_setChan {s : State} {c : Nat} {v : Chan} (h : v.ocOpen = (chan s c).ocOpen) (p : Prov) :
    finalQual (setChan s c v) c p = finalQual s c p := by
  simp only [finalQual, chan_setChan, h]

/-- What the queue of the unit holds is no matter of the page. -/
theorem alive_intg (s : State) (i : Intg) (u : Nat) : alive { s with intg := i } u = alive s u := rfl
theorem hdr_intg (s : State) (i : Intg) (u : Nat) : hdr { s with intg := i } u = hdr s u := rfl
theorem chReg_intg (s : State) (i : Intg) (o c : Nat) : chReg { s with intg := i } o c = chReg s o c := rfl

/-! ### The strike rule -/

theorem resolveChecked_passed {s : State} {c : Nat} {p : Prov} (hpass : failedChecks p = []) (hpair : p.pairSquash = false) :
    resolveChecked s c p = confirm (setChan s c { chan s c with tmoStrike := false, strike := false }) c p (finalQual s c p) := by
  simp only [resolveChecked, hpass, hpair, Bool.false_and, List.isEmpty_nil, if_true, Bool.false_eq_true, if_false]
  rw [finalQual_setChan (by rfl)]
theorem resolveChecked_first {s : State} {c : Nat} {p : Prov} (hfail : failedChecks p ≠ []) (hstrike : (chan s c).strike = false) :
    resolveChecked s c p = squash (setChan s c { chan s c with tmoStrike := false, strike := true }) c p := by
  have hsome : (failedChecks p).isEmpty = false := by simpa using hfail
  simp only [resolveChecked, hsome, hstrike, Bool.false_eq_true, if_false, Bool.not_false, if_true]
theorem resolveChecked_second {s : State} {c : Nat} {p : Prov} (hfail : failedChecks p ≠ []) (hstrike : (chan s c).strike = true)
    (hpair : p.pairSquash = false) :
    resolveChecked s c p = confirm (setChan s c { chan s c with tmoStrike := false }) c p (finalQual s c p) := by
  have hsome : (failedChecks p).isEmpty = false := by simpa using hfail
  simp only [resolveChecked, hsome, hpair, Bool.false_and, Bool.false_eq_true, if_false]
  rw [if_neg (by simp [hstrike]), finalQual_setChan (by rfl)]

theorem exec_sampleResolve {s : State} {c : BitVec 9} {p : Prov} {rest : List Prov} (halive : alive s lINTG = true)
    (hhead : (chan s c.toNat).inflight = p :: rest) (hlate : p.late = false) (hcross : p.cross.isSome = true) :
    exec (.sampleResolve c) s = done (resolveChecked s c.toNat p) := by
  refine congrArg done ((if_neg (by simp [halive])).trans ?_)
  simp only [hhead, hlate, hcross, Bool.false_eq_true, if_false, if_true]

/-! ### Deadlines -/

theorem exec_confWinDeadline {s : State} {c : BitVec 9} {q : Prov} {rest : List Prov} (halive : alive s lINTG = true)
    (hmarked : (chan s c.toNat).inflight.map (fun p => if p.cross.isNone && decide (some p.due = firstDue (chan s c.toNat)) then { p with late := true } else p)
      = q :: rest) :
    exec (.confWinDeadline c) s = done (if q.late then resolveTimeout (setChan s c.toNat { chan s c.toNat with inflight := q :: rest }) c.toNat q
      else setChan s c.toNat { chan s c.toNat with inflight := q :: rest }) := by
  refine congrArg done ((if_neg (by simp [halive])).trans ?_)
  dsimp only
  rw [hmarked, chan_setChan]

/-- The channel's oldest sample, with a check open and the first deadline, is marked. -/
theorem marked_head {ch : Chan} {p : Prov} {rest : List Prov} (hhead : ch.inflight = p :: rest) (hcross : p.cross = none)
    (hdue : firstDue ch = some p.due) :
    ch.inflight.map (fun q => if q.cross.isNone && decide (some q.due = firstDue ch) then { q with late := true } else q) =
      { p with late := true } :: rest.map (fun q => if q.cross.isNone && decide (q.due = p.due) then { q with late := true } else q) := by
  rw [hhead, hdue]
  simp [hcross]

/-! ### Noise and the PV window -/

/-- A noise measurement that ends with a mean and a deviation. -/
def noiseTaken (s : State) (m sd : Word) : State :=
  let t := setReg (setReg s lINTG 0x120 m) lINTG 0x11C sd
  raise { t with intg := { t.intg with noise := none, noiseDone := true } } lINTG 3

theorem noiseTaken_frame (s : State) (m sd : Word) : ∃ a, noiseTaken s m sd =
    raise { s with act := a, intg := { s.intg with noise := none, noiseDone := true } } lINTG 3 := ⟨_, rfl⟩
theorem reg_noiseTaken_mean (s : State) (m sd : Word) : reg (noiseTaken s m sd) lINTG 0x120 = m :=
  (reg_setReg_other (by decide) (setReg s lINTG 0x120 m) _ sd).trans (reg_setReg s _ _ m)

theorem exec_noiseDone {s : State} {n : Noise} (hnoise : s.intg.noise = some n) (hgot : n.got = n.want) :
    ∃ sd, exec .noiseDone s = done (noiseTaken s (f32RoundRat n.sum n.want 0 64 false) sd) := by
  refine ⟨f32RoundRat (Nat.sqrt ((n.want * n.sq - n.sum.natAbs * n.sum.natAbs) * 2 ^ 80) : Nat) n.want 40 64 false, ?_⟩
  show execNoiseDone s = _
  unfold execNoiseDone
  rw [hnoise]
  exact congrArg done (if_pos hgot)

/-- A state differs from another in registers alone. -/
def RegsMoved (s t : State) : Prop := ∃ a, t = { s with act := a }

theorem regsMoved_refl (s : State) : RegsMoved s s := ⟨s.act, rfl⟩
theorem regsMoved_setReg {s t : State} (h : RegsMoved s t) (u o : Nat) (v : Word) : RegsMoved s (setReg t u o v) := by
  obtain ⟨a, rfl⟩ := h
  exact ⟨_, rfl⟩
theorem RegsMoved.restored {s t : State} (h : RegsMoved s t) : { t with act := s.act } = s := by
  obtain ⟨a, rfl⟩ := h
  rfl

/-- The PV window of CTX_x as a selection leaves it. -/
def pvWindow (s : State) (o c : Nat) (v : PvVal) : State :=
  setReg (setReg64 (setReg (setReg s lINTG o (BitVec.ofNat 32 c)) lINTG (o + 4) v.value) lINTG (o + 8) v.stamp) lINTG (o + 0x10)
    (BitVec.ofNat 32 (v.state.toNat + 16 * v.qual.toNat + 0x10000 * v.seq.toNat))

theorem regsMoved_pvWindow (s : State) (o c : Nat) (v : PvVal) : RegsMoved s (pvWindow s o c v) :=
  regsMoved_setReg (regsMoved_setReg (regsMoved_setReg (regsMoved_setReg (regsMoved_setReg (regsMoved_refl s) _ _ _) _ _ _) _ _ _) _ _ _) _ _ _
theorem reg_pvWindow_sel (s : State) (o c : Nat) (v : PvVal) : reg (pvWindow s o c v) lINTG o = BitVec.ofNat 32 c := by
  unfold pvWindow setReg64
  rw [reg_setReg_other (by omega), reg_setReg_other (by omega), reg_setReg_other (by omega), reg_setReg_other (by omega), reg_setReg]
theorem reg_pvWindow_value (s : State) (o c : Nat) (v : PvVal) : reg (pvWindow s o c v) lINTG (o + 4) = v.value := by
  unfold pvWindow setReg64
  rw [reg_setReg_other (by omega), reg_setReg_other (by omega), reg_setReg_other (by omega), reg_setReg]
theorem reg_pvWindow_stat (s : State) (o c : Nat) (v : PvVal) : reg (pvWindow s o c v) lINTG (o + 0x10) =
    BitVec.ofNat 32 (v.state.toNat + 16 * v.qual.toNat + 0x10000 * v.seq.toNat) := reg_setReg _ _ _ _

theorem exec_pvSel {s : State} {x : Ctx} {v : Word} (hreach : reaches s x lINTG = true) (hch : fld v 8 0 ≤ 269) :
    exec (.pvSel x x v) s = done (pvWindow s (0x200 + 0x20 * x.toNat) (fld v 8 0) (chan s (fld v 8 0)).pv) :=
  done_ctxWrite hreach (if_neg (by omega))

theorem resolveTimeout_setChan (s : State) (c : Nat) (v : Chan) (p : Prov) : resolveTimeout (setChan s c v) c p =
    if v.tmoStrike then statusItem (squash (setChan s c { v with tmoStrike := !v.tmoStrike }) c p) c 11 p.x.stamp p.x.seq
    else squash (setChan s c { v with tmoStrike := !v.tmoStrike }) c p := by
  simp only [resolveTimeout, chan_setChan, setChan_setChan]

/-- Settles O14: an accepted sample goes to `acceptSample`, a checked one to the strike rule, and a deadline marks the samples that it meets. -/
theorem integrityCommandsComplete : Obligations.IntegrityCommandsComplete := by
  refine ⟨fun s x rest hq halive hfreeze hen hoc => ?_, fun s c v d rest hq halive hfreeze hen => ?_, fun s x rest hq halive hfreeze => ?_,
    fun s c p rest halive hhead hlate hcross hfail hstrike => ?_, fun s c p rest halive hhead hlate hcross hpass hpair => ?_,
    fun s c p rest halive hhead hlate hcross hfail hstrike hpair => ?_, fun s c p rest halive hhead hcross hdue => ⟨fun htmo => ?_, fun htmo => ?_⟩,
    fun s c p q halive hhead hlate hcross hqcross hqlate => ?_, fun s c v howns hrun => ?_, fun s n hnoise hgot => ?_,
    fun s x v hreach hch => ?_, fun s c v howns hch => ?_, fun s c v howns hch => ?_⟩
  · simp only [exec, execIntgSampleAccept, hq]
    exact congrArg done ((if_neg (by simp [alive_intg, halive])).trans ((if_neg (by simp [hdr_intg, hfreeze])).trans
      ((if_neg (by simp [chReg_intg, hen])).trans (if_neg (ne_true_of_eq_false hoc)))))
  · simp only [exec, execIntgSampleAccept, hq]
    exact congrArg done ((if_neg (by simp [alive_intg, halive])).trans ((if_neg (by simp [hdr_intg, hfreeze])).trans
      (if_neg (by simp [chReg_intg, hen]))))
  · simp only [exec, execIntgSampleAccept, hq]
    exact congrArg done ((if_neg (by simp [alive_intg, halive])).trans (if_pos hfreeze))
  · exact (exec_sampleResolve halive hhead hlate hcross).trans (congrArg done (resolveChecked_first hfail hstrike))
  · exact (exec_sampleResolve halive hhead hlate hcross).trans (congrArg done (resolveChecked_passed hpass hpair))
  · exact (exec_sampleResolve halive hhead hlate hcross).trans (congrArg done (resolveChecked_second hfail hstrike hpair))
  · refine (exec_confWinDeadline halive (marked_head hhead hcross hdue)).trans (congrArg done ((if_pos rfl).trans ?_))
    rw [resolveTimeout_setChan, if_neg (ne_true_of_eq_false htmo)]
    simp [hcross]
  · refine (exec_confWinDeadline halive (marked_head hhead hcross hdue)).trans (congrArg done ((if_pos rfl).trans ?_))
    rw [resolveTimeout_setChan, if_pos htmo]
    simp [hcross]
  · have hdue : firstDue (chan s c.toNat) = some q.due := by
      simp [firstDue, hhead, hcross, hqcross, hqlate]
    have hmarked : (chan s c.toNat).inflight.map (fun p => if p.cross.isNone && decide (some p.due = firstDue (chan s c.toNat))
        then { p with late := true } else p) = [p, { q with late := true }] := by
      rw [hhead, hdue]
      simp [Option.isSome_iff_ne_none.mp hcross, hqcross]
    exact (exec_confWinDeadline halive hmarked).trans (congrArg done (if_neg (ne_true_of_eq_false hlate)))
  · exact done_ownerWrite howns (if_pos hrun)
  · obtain ⟨sd, hexec⟩ := exec_noiseDone hnoise hgot
    obtain ⟨a, hframe⟩ := noiseTaken_frame s (f32RoundRat n.sum n.want 0 64 false) sd
    refine ⟨_, hexec, ?_, ?_, reg_noiseTaken_mean _ _ _, ?_, ?_⟩
    · rw [hframe]; rfl
    · rw [hframe]; rfl
    · simp [noiseTaken, raise]
    · rw [hframe]; rfl
  · refine ⟨_, exec_pvSel hreach hch, reg_pvWindow_sel _ _ _ _, ?_, ?_, (regsMoved_pvWindow _ _ _ _).restored⟩
    · rw [show 0x204 + 0x20 * x.toNat = 0x200 + 0x20 * x.toNat + 4 by omega]
      exact reg_pvWindow_value _ _ _ _
    · rw [show 0x210 + 0x20 * x.toNat = 0x200 + 0x20 * x.toNat + 0x10 by omega]
      exact reg_pvWindow_stat _ _ _ _
  · exact done_ownerWrite howns (if_neg (by omega))
  · exact done_ownerWrite howns (if_pos hch)

end Sys2Proof.Machine
end

section
/-! PROOFS. The Gallery: its own events (R183 to R208) and the commands of a CMD block (R194 to R202, R213). -/
namespace Sys2Proof.Machine

/-! ### Points -/

@[simp] theorem pnt_setPnt (s : State) (p : Nat) (v : Point) : pnt (setPnt s p v) p = v := tget_tset_same s.gal.pts p v _
theorem pnt_setPnt_other (s : State) {p q : Nat} (v : Point) (h : q ≠ p) : pnt (setPnt s p v) q = pnt s q := tget_tset_other s.gal.pts p q v _ _ h
@[simp] theorem setPnt_setPnt (s : State) (p : Nat) (v w : Point) : setPnt (setPnt s p v) p w = setPnt s p w := by simp [setPnt]

/-- A unit that works is alive. -/
theorem alive_of_works {s : State} {u : Nat} (h : works s u = true) : alive s u = true := by
  simp only [works, Bool.and_eq_true] at h
  obtain ⟨⟨⟨⟨⟨hpresent, hon⟩, hen⟩, -⟩, hdegr⟩, hfail⟩ := h
  simp only [alive, Bool.and_eq_true]
  exact ⟨⟨⟨⟨hpresent, hon⟩, hen⟩, hdegr⟩, hfail⟩

/-- The Gallery runs where it works, with no FREEZE written, on no standby. -/
theorem galRuns_iff (s : State) : galRuns s = true ↔ works s lGAL = true ∧ (hdr s lGAL).freeze = false ∧ standby s = false := by
  simp [galRuns, and_assoc]

/-- The value of DEV_REF, where a point's evaluation alone has moved. -/
theorem devValue_setPnt {s : State} {p : Nat} {v : Point} (hdesc : v.desc = (pnt s p).desc) (hcore : v.core = (pnt s p).core) (d : List Word) :
    devValue (setPnt s p v) d = devValue s d := by
  by_cases h : fld (dw d 10) 15 0 = p
  · simp only [devValue, h, pnt_setPnt, hdesc, hcore]
  · simp only [devValue, pnt_setPnt_other s v h]

/-! ### The Gallery's own events -/

/-- A point with one descriptor waiting takes it. -/
theorem takeDesc_due {s : State} {p : Nat} {d : List Word} (hnext : (pnt s p).next = some d) (hwait : (pnt s p).wait = none)
    (heval : (pnt s p).eval = none) : takeDesc s p = supRefresh (putRegionDesc (descEffect s p d) p d) p := by
  simp only [takeDesc, hnext, hwait, heval, Option.isSome_none, Bool.or_self, Bool.false_eq_true, if_false]
theorem takeDesc_none {s : State} {p : Nat} (hnext : (pnt s p).next = none) : takeDesc s p = s := by simp only [takeDesc, hnext]

/-- An evaluation that starts. -/
theorem evalTake_setPnt {s : State} {p : Nat} {v : Point} (hdesc : v.desc = (pnt s p).desc) (hcore : v.core = (pnt s p).core) :
    evalTake (setPnt s p v) p = setPnt s p { v with evDesc := v.desc, evDev := devValue s v.desc } := by
  simp only [evalTake, pnt_setPnt, setPnt_setPnt, devValue_setPnt hdesc hcore]

theorem exec_galEvaluate {s : State} {p : Nat} {rest : List Nat} {i : Item} (hruns : galRuns s = true) (hready : s.gal.ready = p :: rest)
    (hnext : (pnt s p).next = none) (hslot : (pnt s p).slot = some i) :
    exec .galEvaluate s = done (evalTake (setPnt (setReg { s with gal := { s.gal with ready := rest } } lGAL 0x11C (reg s lGAL 0x11C + 1#32)) p
      { pnt s p with slot := none, eval := some i, evalRes := none }) p) := by
  have htake : takeDesc { s with gal := { s.gal with ready := rest } } p = { s with gal := { s.gal with ready := rest } } := takeDesc_none hnext
  have hslot' : (pnt { s with gal := { s.gal with ready := rest } } p).slot = some i := hslot
  refine congrArg done ((if_neg (by simp [hruns])).trans ?_)
  rw [hready]
  dsimp only
  rw [htake, hslot']
  rfl

/-- A confirmed item's evaluation ends in its commit, a provisional one's in the overlay. -/
theorem exec_galEvaluationCommit {s : State} {p : BitVec 11} {i : Item} (hworks : works s lGAL = true) (hstandby : standby s = false)
    (hwait : (pnt s p.toNat).wait = none) (heval : (pnt s p.toNat).eval = some i) (hres : i.prov = true → (pnt s p.toNat).evalRes = none) :
    exec (.galEvaluationCommit p) s = done (if i.prov then setPnt s p.toNat { pnt s p.toNat with eval := none, prov := some i }
      else commitItem (setPnt s p.toNat { pnt s p.toNat with eval := none, evalRes := none }) p.toNat i) := by
  simp only [exec, execGalEvaluationCommit, heval]
  refine congrArg done ((if_neg (by simp [hworks, hstandby, hwait])).trans ?_)
  cases hprov : i.prov
  · rfl
  · rw [hres hprov]
    rfl

/-- A squashed provisional item leaves the overlay. -/
theorem resolveProv_squashed (s : State) (p : Nat) (i : Item) :
    resolveProv s p i none = setPnt s p { pnt s p with prov := none, res := none, eval := none, evalRes := none } := rfl

/-- An expiry acts at once where the Gallery runs and the point waits for no verdict (R204, R211). -/
theorem dueOr_now {s : State} {p : Nat} (hruns : galRuns s = true) (hwait : (pnt s p).wait = none) (k : Nat) : dueOr s p k = applyDue s p k := by
  obtain ⟨hworks, hfreeze, hstandby⟩ := (galRuns_iff s).mp hruns
  simp only [dueOr, alive_of_works hworks, hstandby, hfreeze, hwait, Option.isSome_none, Bool.not_true, Bool.or_self, Bool.false_eq_true, if_false]

/-- A verdict's commit, its request and answer done with (R204). -/
theorem verdictCommit_waiting {s : State} {p : Nat} {w : PtWait} (hwait : (pnt s p).wait = some w) (sup : Bool) :
    verdictCommit s p sup = releaseHeld (finish (setPnt s p { pnt s p with wait := none }) p
      (if sup then { w.core with sup := true, st := 5#3 } else w.core) true w.cause w.src w.stamp none) := by
  simp only [verdictCommit, hwait]

theorem exec_galVerdict {s : State} {p : BitVec 11} {sup : Bool} (hvans : s.gal.vans = [(p.toNat, sup)]) (hends : galEnds s = true) :
    exec (.galVerdict p) s = done (verdictCommit (dropVerdict s p.toNat) p.toNat sup) := by
  simp only [exec, execGalVerdict, hvans, List.find?_cons, decide_true]
  exact congrArg done (if_pos hends)

/-- Settles O15: an event of a point acts where the Gallery runs and the point waits for no verdict; a verdict ends the wait. -/
theorem galleryEventsComplete : Obligations.GalleryEventsComplete := by
  refine ⟨fun s p d hruns hnext hwait heval => ?_, fun s i rest p pt hin halive hpts htakes hslot => ?_, fun s p i hruns hslot heval hready => ?_,
    fun s p rest i hruns hready hnext hslot => ?_, fun s p i hworks hstandby hwait heval hprov => ?_,
    fun s p i hworks hstandby hwait heval hprov hres => ?_, fun s p i hruns hwait hprov hres => ?_, fun s p k t hruns hwait htmr => ?_,
    fun s p hruns hwait hshelf hst => ?_, fun s p hruns hwait hshelf hst => ?_, fun s p w sup hon hen hwait hvans => ?_,
    fun s p w hon hen hwait hvans => ?_, fun s p on rest hruns hsupq hwait => ?_⟩
  · exact congrArg done ((if_pos hruns).trans (takeDesc_due hnext hwait heval))
  · have hpoint : pnt { s with galIn := rest } p = pt := by simp [pnt, hpts, tget]
    simp only [exec, execGalItemArrival, hin]
    refine congrArg done ((if_neg (by simp [show alive { s with galIn := rest } lGAL = true from halive])).trans ?_)
    rw [hpts, List.filter_cons_of_pos (by exact htakes), List.filter_nil, List.foldl_cons, List.foldl_nil, pointItem, fillSlot, hpoint, hslot]
    dsimp only
    rw [hpoint]
    exact (apply_ite (setPnt { s with galIn := rest } p) _ _ _).symm
  · exact congrArg done (if_pos (by simp [hruns, hslot, heval, hready]))
  · refine (exec_galEvaluate hruns hready hnext hslot).trans (congrArg done ?_)
    exact evalTake_setPnt (s := setReg { s with gal := { s.gal with ready := rest } } lGAL 0x11C (reg s lGAL 0x11C + 1#32)) rfl rfl
  · exact (exec_galEvaluationCommit hworks hstandby hwait heval (by simp [hprov])).trans (congrArg done (if_neg (by simp [hprov])))
  · exact (exec_galEvaluationCommit hworks hstandby hwait heval (fun _ => hres)).trans (congrArg done (if_pos hprov))
  · simp only [exec, execGalResolution, hprov, hres]
    exact congrArg done (if_pos (by simp [hruns, hwait]))
  · have hk : k.toNat ≠ 8 := by have := k.isLt; omega
    refine congrArg done ((if_pos (by simp [htmr])).trans ((dueOr_now hruns hwait _).trans ((if_neg hk).trans ?_)))
    simp only [expireDelay, htmr]
  · refine congrArg done ((if_pos hshelf).trans ((dueOr_now hruns hwait _).trans ((if_pos rfl).trans ?_)))
    exact (if_neg (by simp [hshelf])).trans (if_neg hst)
  · refine congrArg done ((if_pos hshelf).trans ((dueOr_now hruns hwait _).trans ((if_pos rfl).trans ?_)))
    exact (if_neg (by simp [hshelf])).trans (if_pos hst)
  · refine (exec_galVerdict hvans (by simp [galEnds, hon, hen])).trans (congrArg done ?_)
    exact verdictCommit_waiting (s := dropVerdict s p.toNat) hwait sup
  · exact congrArg done (if_pos (by simp [galEnds, hon, hen, hwait, hvans]))
  · simp only [exec, execGalSupChange, hsupq]
    exact congrArg done (if_pos (by simp [hruns, hwait]))

end Sys2Proof.Machine
end

section
/-! PROOFS. The commands of a CMD block (R194 to R202, R213). -/
namespace Sys2Proof.Machine

/-! ### A command that reaches its points -/

/-- A table answers its default, or an entry. -/
theorem tget_cases {α : Type} (t : Tbl α) (k : Nat) (d : α) : tget t k d = d ∨ ∃ e ∈ t, tget t k d = e.2 := by
  induction t with
  | nil => exact .inl rfl
  | cons e r ih =>
    by_cases h : k = e.1
    · exact .inr ⟨e, List.mem_cons_self, by simp [tget, h]⟩
    · have htail : tget (e :: r) k d = tget r k d := by simp [tget, h]
      rw [htail]
      rcases ih with hd | ⟨e', he', heq⟩
      · exact .inl hd
      · exact .inr ⟨e', List.mem_cons_of_mem _ he', heq⟩

/-- Where no point waits for a verdict, none does by its index, and no command is held. -/
theorem pnt_wait_none {s : State} (h : s.gal.pts.all (fun e => e.2.wait.isNone) = true) (p : Nat) : (pnt s p).wait = none := by
  rcases tget_cases s.gal.pts p ({} : Point) with hd | ⟨e, he, heq⟩
  · rw [pnt, hd]
  · have hnone := List.all_eq_true.mp h e he
    rw [pnt, heq]
    simpa using hnone
theorem cmdWaits_none {s : State} (h : s.gal.pts.all (fun e => e.2.wait.isNone) = true) (c : GalCmd) : cmdWaits s c = false := by
  have hpts : ∀ e ∈ s.gal.pts, e.2.wait.isSome = false := fun e he => by simpa using List.all_eq_true.mp h e he
  unfold cmdWaits
  split
  · rw [List.any_eq_false]
    intro e he
    simp [hpts e he]
  · rw [List.any_eq_false]
    intro e he
    simp [hpts e he]
  · rfl
  · rw [pnt_wait_none h]
    rfl

theorem galCommand_runs {s : State} (hruns : galRuns s = true) (hfree : s.gal.pts.all (fun e => e.2.wait.isNone) = true) {c : GalCmd}
    (hrange : cmdRange c = false) : galCommand s c = runCmd s c := by
  obtain ⟨hworks, hfreeze, hstandby⟩ := (galRuns_iff s).mp hruns
  simp only [galCommand, alive_of_works hworks, hstandby, hfreeze, hrange, cmdWaits_none hfree, Bool.not_true, Bool.or_self,
    Bool.false_eq_true, if_false]

/-- A write of CMD_OP by the block's context, with no command held. -/
theorem done_cmdWrite {s t : State} {x : Ctx} (hreach : reaches s x lGAL = true) (hidle : cmdBusy s x.toNat = false) {k : State → State}
    (hk : k s = t) : done (cmdWrite s x x k) = .next (settle t) :=
  done_ctxWrite hreach ((if_neg (by simp [hidle])).trans hk)

/-- An acknowledgement of points all of which the context may acknowledge. -/
theorem ackMany_all {s : State} {c : GalCmd} (h : (ackSet s (if c.op = 2 then some c.target else none) c.before).all (fun q => mayAck s c.src q) = true) :
    ackMany s c = cmdResult ((ackSet s (if c.op = 2 then some c.target else none) c.before).foldl (fun t q => ackPoint t c.src q) s) c.src 0
      (ackSet s (if c.op = 2 then some c.target else none) c.before).length := by
  have hall : ∀ l : List Nat, l.all (fun q => mayAck s c.src q) = true → l.filter (fun q => mayAck s c.src q) = l := fun l hl =>
    List.filter_eq_self.mpr (List.all_eq_true.mp hl)
  simp only [ackMany, hall _ h, if_true]

/-- A command on one point, where the Gallery runs and no point waits. -/
theorem galCommand_point {s : State} (hruns : galRuns s = true) (hfree : s.gal.pts.all (fun e => e.2.wait.isNone) = true) {c : GalCmd}
    (hrange : cmdRange c = false) (hop : c.op ≠ 2 ∧ c.op ≠ 3) : galCommand s c = pointCmd s c :=
  (galCommand_runs hruns hfree hrange).trans (if_neg (by simp [hop.1, hop.2]))

/-- Settles O16: past the checks of its block and of the Gallery, a command acts on its points and reports OK. -/
theorem galleryCommandsComplete : Obligations.GalleryCommandsComplete := by
  intro s x v hreach hidle
  dsimp only
  have hat (a : Nat) : 0x200 + 0x40 * x.toNat + a = 0x200 + a + 0x40 * x.toNat := by omega
  have hbefore : reg s lGAL (0x200 + 0x40 * x.toNat + 12) ++ reg s lGAL (0x200 + 0x40 * x.toNat + 8) =
      reg s lGAL (0x20C + 0x40 * x.toNat) ++ reg s lGAL (0x208 + 0x40 * x.toNat) := by rw [hat, hat]
  refine ⟨fun hruns hfree hp => ⟨fun hmay hun hinst => ?_, fun hmay => ?_, fun hmay => ?_, fun hmay hflag hoos hdis hpos hmax => ?_, fun hmay hst => ?_,
    fun hmay hoos hdis => ?_, fun hmay hst => ?_, fun hsoft hmay hfin hq => ?_, ?_⟩, ?_, ?_, fun w hx hlocked hpath hon hfrozen => ?_⟩
  · have htarget : ¬ 2047 < fld v 31 8 := Nat.not_lt.mpr hp
    refine done_cmdWrite hreach hidle ((galCommand_point (c := cmdOf s x 1 v) hruns hfree (decide_eq_false htarget) (by simp [cmdOf])).trans ?_)
    exact (if_neg (by simp [cmdOf, hmay])).trans ((if_neg (by simp [cmdOf, hun])).trans (if_neg (by simp [cmdOf, hinst])))
  · have hgroup : ¬ 65535 < fld v 31 8 := by omega
    refine done_cmdWrite hreach hidle ((galCommand_runs (c := cmdOf s x 2 v) hruns hfree (decide_eq_false hgroup)).trans ((if_pos (.inl rfl)).trans ?_))
    rw [← hbefore] at hmay ⊢
    exact ackMany_all (c := cmdOf s x 2 v) hmay
  · refine done_cmdWrite hreach hidle ((galCommand_runs (c := cmdOf s x 3 v) hruns hfree rfl).trans ((if_pos (.inr rfl)).trans ?_))
    rw [← hbefore] at hmay ⊢
    exact ackMany_all (c := cmdOf s x 3 v) hmay
  · have htarget : ¬ 2047 < fld v 31 8 := Nat.not_lt.mpr hp
    refine done_cmdWrite hreach hidle ((galCommand_point (c := cmdOf s x 4 v) hruns hfree (decide_eq_false htarget) (by simp [cmdOf])).trans ?_)
    exact (if_neg (by simp [cmdOf, hmay])).trans ((if_neg (by simp [cmdOf, hflag, hoos, hdis])).trans
      (if_neg (ne_true_of_eq_false (Bool.or_eq_false_iff.mpr ⟨decide_eq_false hpos, decide_eq_false (Nat.not_lt.mpr hmax)⟩))))
  · have htarget : ¬ 2047 < fld v 31 8 := Nat.not_lt.mpr hp
    refine done_cmdWrite hreach hidle ((galCommand_point (c := cmdOf s x 5 v) hruns hfree (decide_eq_false htarget) (by simp [cmdOf])).trans ?_)
    exact (if_neg (by simp [cmdOf, hmay])).trans (if_neg (by simp [cmdOf, hst]))
  · have htarget : ¬ 2047 < fld v 31 8 := Nat.not_lt.mpr hp
    refine done_cmdWrite hreach hidle ((galCommand_point (c := cmdOf s x 6 v) hruns hfree (decide_eq_false htarget) (by simp [cmdOf])).trans ?_)
    exact (if_neg (by simp [cmdOf, hmay])).trans (if_neg (by simp [cmdOf, hoos, hdis]))
  · have htarget : ¬ 2047 < fld v 31 8 := Nat.not_lt.mpr hp
    refine done_cmdWrite hreach hidle ((galCommand_point (c := cmdOf s x 7 v) hruns hfree (decide_eq_false htarget) (by simp [cmdOf])).trans ?_)
    exact (if_neg (by simp [cmdOf, hmay])).trans (if_neg (by simp [cmdOf, hst]))
  · obtain ⟨hworks, hfreeze, hstandby⟩ := (galRuns_iff s).mp hruns
    refine done_cmdWrite hreach hidle ((if_neg (by simp [alive_of_works hworks, hstandby])).trans ((if_neg (ne_true_of_eq_false hfreeze)).trans
      ((if_neg (Nat.not_lt.mpr hsoft)).trans ((if_neg (by simp [hmay])).trans (if_neg ?_)))))
    rw [hfin, decide_eq_false (Nat.not_lt.mpr hq)]
    decide
  · obtain ⟨hworks, hfreeze, hstandby⟩ := (galRuns_iff s).mp hruns
    refine done_cmdWrite hreach hidle ?_
    simp only [unknownCmd, alive_of_works hworks, hstandby, hfreeze, Bool.not_true, Bool.or_self, Bool.false_eq_true, if_false]
  · exact done_ctxWrite hreach rfl
  · refine congrArg done ((if_pos rfl).trans ((access_reaches (s := { s with rdata := 0#64 }) hreach _ _ _).trans ?_))
    rw [← hat 0x34, ← hat 0x18]
    rfl
  · exact congrArg done ((if_pos (by simp [hpath, hon, hlocked])).trans (if_pos (by simp [hfrozen, hx])))

end Sys2Proof.Machine
end

section
/-! PROOFS. The end of a rebuild of the grouping engine (R230, R234, R239). -/
namespace Sys2Proof.Machine

/-- The engine rebuilds with no hold and no window due, and owes the FINALs of a role that the node took and lost meanwhile (R234, R239). -/
def finalsOwed : State :=
  { pwr := { doms := BitVec.allOnes _ }, hdr := [(lGRP, { en := true })], grp := { rebuild := true, finalsDue := true } }

theorem finalsOwed_works : works finalsOwed lGRP = true := by decide

/-- A rebuild that ends on a node that is not the master forgets the FINALs it owes. -/
theorem exec_grpRebuildDone_notMaster {s : State} (hworks : works s lGRP = true) (hrebuild : s.grp.rebuild = true) (hdue : s.grp.due = [])
    (hmaster : s.grp.master = false) (hpts : s.gal.pts = []) :
    exec .grpRebuildDone s = .next (settle { s with grp := { s.grp with rebuild := false, due := [], finalsDue := false } }) := by
  refine congrArg done ((if_pos (by simp [hrebuild, hworks])).trans ?_)
  simp [hdue, hmaster, hpts]

/-- Refutes O17: the end of a rebuild forgets the FINALs owed, which the clause of GRP_REBUILD_DONE keeps. -/
theorem not_groupingCommandsComplete : ¬ Obligations.GroupingCommandsComplete := by
  unfold Obligations.GroupingCommandsComplete
  rintro ⟨-, -, -, -, -, -, -, -, -, -, -, -, hrebuilt, -⟩
  have hstated := hrebuilt finalsOwed finalsOwed_works rfl rfl
  rw [exec_grpRebuildDone_notMaster finalsOwed_works rfl rfl rfl rfl] at hstated
  have howed : false = true := congrArg (fun t : State => t.grp.finalsDue) (Host.Outcome.next.inj hstated)
  exact absurd howed (by decide)

end Sys2Proof.Machine
end

section
/-! PROOFS. The receipt of alarm messages (R219 to R223, R233 to R237). -/
namespace Sys2Proof.Machine

/-- The origin of a message, and the number of its member (R235). -/
def msgOrigin (m : List Byte) : Nat := leNat ((m.drop 4).take 2)
def msgNode (m : List Byte) : Nat := bitsOf (msgOrigin m) 11 0
def msgSession (m : List Byte) : Word := BitVec.ofNat 32 (leNat ((m.drop 8).take 4))
def msgSeq (m : List Byte) : Word := BitVec.ofNat 32 (leNat ((m.drop 12).take 4))

/-- What a well-formed message `m` of TYPE `typ` does once its sender is on record. -/
def rxTyped (s : State) (typ : Nat) (m : List Byte) : State :=
  let body := m.drop 24
  let n := msgNode m
  match typ with
  | 4 => if (leNat (body.take 2) = 0xFFFF ∨ leNat (body.take 2) = nodeId s) ∧ !standby s then { s with grp := { s.grp with snapDue := true } } else s
  | 0x10 => rxHb s n (bitsOf (msgOrigin m) 15 15) (msgSession m) (msgSeq m) body
  | 0x11 => offerMaster s n (leNat (body.take 1))
  | 0x12 =>
    let s := setNode s n (yieldBy (node s n) (bitsOf (msgOrigin m) 15 15))
    let s := if s.grp.masterNode = some n then setMaster s none else s
    if leNat (body.take 2) = nodeId s ∧ eligible s then takeRole s else s
  | _ => rxEvent s n typ (msgSession m) (msgSeq m) body

/-- A message is well-formed: a header of version 1, the length it states, and a body that its TYPE may have (R235, R236). -/
def MsgOk (m : List Byte) : Prop :=
  24 ≤ m.length ∧ leNat (m.take 1) = 1 ∧ leNat ((m.drop 2).take 2) = m.length ∧
    bodyOk (leNat ((m.drop 1).take 1)) (m.drop 24).length = true

/-- The sender of `m` on record (R502). -/
def senderSeen (s : State) (m : List Byte) : State :=
  nodeSeen s (msgNode m) (BitVec.ofNat 16 (leNat ((m.drop 6).take 2)))

theorem rxAlarm_wellFormed {s : State} {m : List Byte} (hnet : domOn s dNET = true) (halive : alive s lGRP = true) (hok : MsgOk m)
    (hpeer : msgNode m ≠ nodeId s) :
    rxAlarm s m = election (rxTyped (senderSeen s m) (leNat ((m.drop 1).take 1)) m) := by
  obtain ⟨hlen, hversion, hstated, hbody⟩ := hok
  refine (if_neg (by simp [hnet, halive])).trans ((if_neg ?_).trans (if_neg hpeer))
  simp only [hversion, hstated, hbody, Nat.not_lt.mpr hlen, ne_eq, not_true_eq_false, Bool.not_true, Bool.false_eq_true, or_self,
    not_false_eq_true]

theorem rxAlarm_badVersion {s : State} {m : List Byte} (hnet : domOn s dNET = true) (halive : alive s lGRP = true)
    (hversion : leNat (m.take 1) ≠ 1) : rxAlarm s m = countUp s lGRP 0x14C 0 32 :=
  (if_neg (by simp [hnet, halive])).trans (if_pos (.inr (.inl hversion)))

/-- A YIELD of a node that is not the master, in favour of another (R234). -/
theorem rxTyped_yield {s : State} {m : List Byte} (hother : leNat ((m.drop 24).take 2) ≠ nodeId s) (hnotMaster : s.grp.masterNode ≠ some (msgNode m)) :
    rxTyped s 0x12 m = setNode s (msgNode m) (yieldBy (node s (msgNode m)) (bitsOf (msgOrigin m) 15 15)) := by
  simp only [rxTyped]
  rw [if_neg (c := (setNode s _ _).grp.masterNode = _) hnotMaster]
  exact if_neg fun hyield => hother hyield.1

/-- Settles O18: a well-formed message is taken by its TYPE alone, once its sender is on record. -/
theorem alarmMessagesReceived : Obligations.AlarmMessagesReceived := by
  unfold Obligations.AlarmMessagesReceived
  intro s m hnet halive typ n session seq body first t
  refine ⟨fun hlen hversion hstated hbody hpeer => ?_, fun hversion i hi => ?_⟩
  · have htyped : ∀ k, typ = k → rxAlarm s m = election (rxTyped t k m) := fun k hk =>
      hk ▸ rxAlarm_wellFormed hnet halive ⟨hlen, hversion, hstated, hbody⟩ hpeer
    refine ⟨fun h => ?_, fun h => ?_, fun h => ?_, fun h => ?_, fun h => ?_, fun h hasked hduty => ?_, fun h => ?_, fun h => ?_,
      fun h hother hnotMaster => ?_⟩
    · exact congrArg done (htyped 1 h)
    · exact congrArg done (htyped 2 h)
    · exact congrArg done (htyped 3 h)
    · exact congrArg done (htyped 5 h)
    · exact congrArg done (htyped 6 h)
    · have hduty' : standby t = false := hduty
      exact congrArg done ((htyped 4 h).trans (congrArg election (if_pos ⟨hasked, by simp [hduty']⟩)))
    · exact congrArg done (htyped 0x10 h)
    · exact congrArg done (htyped 0x11 h)
    · exact congrArg done ((htyped 0x12 h).trans (congrArg election (rxTyped_yield hother hnotMaster)))
  · have hbad : rxAlarm s m = countUp s lGRP 0x14C 0 32 := rxAlarm_badVersion hnet halive hversion
    rcases hi with rfl | rfl | rfl | rfl | rfl | rfl | rfl | rfl | rfl <;> exact congrArg done hbad

end Sys2Proof.Machine
end

section
/-! PROOFS. What the node sends on the alarm ring, and who is master (R222, R233 to R238, R502). -/
namespace Sys2Proof.Machine

theorem txTake_single {r : TxRec} : txTake [r] = [r] := by
  unfold txTake
  simp only [List.takeWhile_cons, List.takeWhile_nil, decide_true, if_true]
  split_ifs <;> rfl

theorem exec_lonievoSend_single {s : State} {r : TxRec} (hpub : publishes s = true) (halive : alive s lGRP = true) (hnet : domOn s dNET = true)
    (hq : s.grp.txq = [r]) (htyp : r.typ ≠ 3) :
    exec .lonievoSend s =
      .next (settle (sendAlarm { s with grp := { s.grp with txq := [], seq := s.grp.seq + 1#32 } } r.typ r.body)) := by
  refine congrArg done ((if_neg (by simp [hpub, halive, hnet])).trans ?_)
  simp [hq, txTake_single, htyp]

/-- With no point, a snapshot is the SYNC_END of an empty one: no record, and no bit set (R221). -/
theorem emptyBitmap : (List.range 256).map (fun i => (List.range 8).foldl (fun (b : Byte) k =>
    if ([] : Tbl Point).any (fun e => decide (e.1 = 8 * i + k)) then cput b k true else b) 0#8) = List.replicate 256 0#8 := by
  simp

theorem emptySnapshotBody : leBytes 2 0 ++ [0#8, 0#8] ++ List.replicate 256 0#8 = List.replicate 260 0#8 := by
  have hhead : leBytes 2 0 ++ [0#8, 0#8] = List.replicate 4 0#8 := rfl
  rw [hhead, List.replicate_append_replicate]

theorem exec_syncSnapshotSend_empty {s : State} (halive : alive s lGRP = true) (hpub : publishes s = true) (hdue : s.grp.snapDue = true)
    (hpts : s.gal.pts = []) :
    exec .syncSnapshotSend s = .next (settle { s with grp := { s.grp with
      snapDue := false, txq := s.grp.txq ++ [⟨6, List.replicate 260 0#8⟩] } }) := by
  refine congrArg done ((if_pos (by simp [hdue, hpub, halive])).trans ?_)
  rw [hpts]
  dsimp only [List.filter_nil]
  rw [emptyBitmap]
  simp only [List.map_nil, List.append_nil, List.length_nil, emptySnapshotBody]

/-- A node without its heartbeats (R222). -/
def lostNode (v : Node) : Node :=
  { v with lost := true, asked := false, mark := none, m0 := { v.m0 with at0 := none }, m1 := { v.m1 with at0 := none } }

/-- A node is lost without LOST_REL and was not the master (R222). -/
theorem exec_nodeLost_plain {s : State} {n : BitVec 12} (halive : alive s lGRP = true) (hseen : (node s n.toNat).seen = true)
    (hlost : (node s n.toNat).lost = false) (hkeep : cfgBit s lGRP 0x100 16 = false) (hnotMaster : s.grp.masterNode ≠ some n.toNat) :
    exec (.nodeLost n) s = .next (settle (election (raise (setNode s n.toNat (lostNode (node s n.toNat))) lGRP 3))) := by
  have hseen' : (tget s.grp.nodes n.toNat {}).seen = true := hseen
  have hlost' : (tget s.grp.nodes n.toNat {}).lost = false := hlost
  have hkeep' : cfgBit (raise (setNode s n.toNat (lostNode (node s n.toNat))) lGRP 3) lGRP 0x100 16 = false := hkeep
  refine congrArg done ((if_neg (by simp [halive, hseen', hlost'])).trans (congrArg election ?_))
  refine Eq.trans (congrArg (fun t : State => if t.grp.masterNode = some n.toNat then setMaster t none else t)
    (if_neg (ne_true_of_eq_false hkeep'))) ?_
  exact if_neg hnotMaster

/-- A request with one peer outstanding, and not every node asked afresh (R502). -/
theorem exec_syncReqRetry_single {s : State} {n : Nat} {v : Node} (halive : alive s lGRP = true) (hnodes : s.grp.nodes = [(n, v)])
    (hasked : v.asked = true) (hlost : v.lost = false) (hall : s.grp.allAsked = false ∨ v.seen = true) :
    exec .syncReqRetry s = .next (settle (sendAlarm s 4 (leBytes 2 n ++ [0#8, 0#8]))) := by
  have hone : (s.grp.allAsked && s.grp.nodes.all (fun e => !e.2.seen)) = false := by
    rcases hall with h | h <;> simp [h, hnodes]
  refine congrArg done ((if_pos halive).trans ?_)
  rw [hone]
  simp only [Bool.false_eq_true, if_false]
  rw [hnodes]
  simp [hasked, hlost, sendSyncReq]

theorem nackWrite_queues {s : State} {x : Ctx} {form : Nat} {v : Word} (hreach : reaches s x lGRP = true) (halive : alive s lGRP = true)
    (hidle : nackBusy s x.toNat = false) :
    done (nackWrite s x x form v) = .next (settle { s with grp := { s.grp with txq := s.grp.txq ++ [⟨3, leBytes 1 form ++ (leBytes 1 x.toNat ++ [0#8, 0#8] ++ leBytes 4 (fld v 31 8) ++
      leBytes 4 (reg s lGRP (0x208 + 0x20 * x.toNat)).toNat ++ leBytes 4 (reg s lGRP (0x20C + 0x20 * x.toNat)).toNat)⟩] } }) := by
  refine done_ctxWrite hreach ((if_neg (by simp [hidle])).trans ((if_neg (by simp [halive])).trans ?_))
  rw [show 0x200 + 0x20 * x.toNat + 8 = 0x208 + 0x20 * x.toNat by omega, show 0x200 + 0x20 * x.toNat + 12 = 0x20C + 0x20 * x.toNat by omega]
  simp only [List.append_assoc]

/-- Settles O19, command by command. -/
theorem alarmTransportCommandsComplete : Obligations.AlarmTransportCommandsComplete := by
  unfold Obligations.AlarmTransportCommandsComplete
  refine ⟨fun s r hpub halive hnet hq htyp => exec_lonievoSend_single hpub halive hnet hq htyp, fun s hen hon hnet hphase => ?_,
    fun s n v halive hnodes hasked hlost hall => exec_syncReqRetry_single halive hnodes hasked hlost hall,
    fun s halive hpub hdue hpts => exec_syncSnapshotSend_empty halive hpub hdue hpts,
    fun s n halive hseen hlost hkeep hnotMaster => exec_nodeLost_plain halive hseen hlost hkeep hnotMaster, fun s halive hstarted => ?_,
    fun s hwait hnone heligible hfirst => ?_, fun s c howns halive hmaster => ?_, fun s c n howns halive hmaster hnext => ?_,
    fun s c howns hyielded => ?_, fun s c howns halive hnodes => ?_, fun s x v hreach halive hidle => ?_⟩
  · exact congrArg done (if_pos (by simp [hen, hon, hnet, hphase]))
  · exact congrArg done (if_pos (by simp [halive, hstarted]))
  · exact congrArg done (if_pos (by simp [hwait, hnone, heligible, hfirst]))
  · refine done_ownerWrite howns ((if_neg (by simp [halive])).trans ?_)
    rw [hmaster]
    cases nextMaster s <;> rfl
  · refine done_ownerWrite howns ((if_neg (by simp [halive])).trans ?_)
    rw [hnext, hmaster]
  · exact done_ownerWrite howns (if_pos hyielded)
  · refine done_ownerWrite howns ((if_neg (by simp [halive])).trans ?_)
    rw [hnodes]
    rfl
  · exact ⟨nackWrite_queues hreach halive hidle, nackWrite_queues hreach halive hidle⟩

end Sys2Proof.Machine
end

section
/-! PROOFS. Calls, call loops, the dead-man timer and ECMD blocks (R245 to R267). -/
namespace Sys2Proof.Machine

/-! ### Notifications leave Echo's own state alone -/

theorem hostEvent_echo (s : State) (line ctx kind : Nat) (b : List Byte) : (hostEvent s line ctx kind b).echo = s.echo := by
  obtain ⟨a, ha⟩ := dropAbsent_cases s line
  unfold hostEvent
  split
  · rw [ha]
  · rfl

theorem flowRec_echo (s : State) (line : Nat) (src : BitVec 4) (typ : Byte) (b : List Byte) : (flowRec s line src typ b).echo = s.echo := by
  obtain ⟨f, a, h⟩ := flowRec_frame s line src typ b
  rw [h]

theorem notify_echo (s : State) (kind k : Nat) (arg : Word) : (notify s kind k arg).echo = s.echo := by
  refine List.foldlRecOn (motive := fun t : State => t.echo = s.echo) _ _ ?_ fun t ht x _ => (hostEvent_echo t _ _ _ _).trans ht
  have hraised : ∀ i : Option Nat, (match i with | some i => raise s lECHO i | none => s).echo = s.echo := by rintro (_ | _) <;> rfl
  have hlogged : ∀ t : State, (if cfgBit t lECHO 0x100 2 then
      flowRec t lECHO 3#4 (BitVec.ofNat 8 kind) (notifyBytes s kind k arg) else t).echo = t.echo := by
    intro t
    split
    · exact flowRec_echo _ _ _ _ _
    · rfl
  exact (hlogged _).trans (hraised _)

theorem notifyFree_echo (s : State) (kind k : Nat) : (notifyFree s kind k).echo = s.echo :=
  notify_echo _ kind k _

/-! ### Frames -/

theorem setCallLine_frame (s : State) (x : Nat) (l : CallLine) :
    ∃ a b, setCallLine s x l = { s with echo := { s.echo with a := a, b := b } } := by
  unfold setCallLine
  split
  · exact ⟨l, s.echo.b, rfl⟩
  · exact ⟨s.echo.a, l, rfl⟩

theorem framesRun_setCallLine (s : State) (x : Nat) (l : CallLine) : framesRun (setCallLine s x l) = framesRun s := by
  obtain ⟨a, b, h⟩ := setCallLine_frame s x l
  rw [h]
  rfl

theorem lineFrame_frame (s : State) (x : Nat) :
    ∃ a b f o, lineFrame s x = { s with echo := { s.echo with a := a, b := b }, fresh := f, out := o } := by
  unfold lineFrame
  dsimp only
  split
  · obtain ⟨a, b, h⟩ := setCallLine_frame s x { callLine s x with poll := none }
    exact ⟨a, b, s.fresh, s.out, h⟩
  · split
    · next w _ _ =>
      obtain ⟨a, b, h⟩ := setCallLine_frame _ x _
      rw [h]
      exact ⟨a, b, _, _, rfl⟩
    · obtain ⟨a, b, h⟩ := setCallLine_frame _ x _
      rw [h]
      exact ⟨a, b, _, _, rfl⟩

theorem exec_callFrameStart_runs {s : State} (hruns : framesRun s = true) :
    ∃ t, exec .callFrameStart s = .next (settle t) ∧ t.echo.fnum = s.echo.fnum + 1#2 ∧ t.echo.calls = s.echo.calls ∧
      { t with echo := s.echo, out := s.out, fresh := s.fresh } = s := by
  refine ⟨_, congrArg done (if_pos hruns), ?_⟩
  obtain ⟨a0, b0, f0, o0, h0⟩ := lineFrame_frame s 0
  obtain ⟨a1, b1, f1, o1, h1⟩ := lineFrame_frame (lineFrame s 0) 1
  dsimp only
  rw [h1, h0]
  exact ⟨rfl, rfl, rfl⟩

/-! ### The dead-man timer -/

/-- The counter reaches a mark while calls do not run: Echo owes what it has not heard. -/
theorem dmEvent_unheard {s : State} {st : BitVec 2} (hon : domOn s dGAL = true) (hcalls : callsRun s = false) (hslept : s.echo.dm.slept = false) :
    dmEvent s st = { s with echo := { s.echo with dm := { s.echo.dm with
      st := st, owedPrew := s.echo.dm.owedPrew || decide (st = 2#2), owedExp := s.echo.dm.owedExp || decide (st = 3#2) } } } := by
  have hcalls' : ∀ d : DeadMan, callsRun { s with echo := { s.echo with dm := d } } = false := fun _ => hcalls
  simp only [dmEvent, hon, Bool.not_true, Bool.or_false, Bool.false_eq_true, if_false, dmDeliver, dmHeard, hcalls', hslept, Bool.false_and,
    Bool.not_false, if_true]

/-- The counter reaches a mark in Sleep: it wakes the module, and Echo owes what it has not heard (R264). -/
theorem dmEvent_asleep {s : State} {st : BitVec 2} (hoff : domOn s dGAL = false) :
    dmEvent s st = wake { s with echo := { s.echo with dm := { s.echo.dm with
      st := st, owedPrew := s.echo.dm.owedPrew || decide (st = 2#2), owedExp := s.echo.dm.owedExp || decide (st = 3#2), slept := true } } } 5#4 := by
  simp only [dmEvent, hoff, Bool.not_false, Bool.or_true, if_true]

/-- The counter on record once Echo has heard of a mark. -/
def dmHeardAt (s : State) (st : BitVec 2) : State :=
  { s with echo := { s.echo with dm := { s.echo.dm with st := st, owedPrew := false, owedExp := false, slept := false } } }

/-- The counter reaches a mark while calls run: Echo is told of what it is owed (R252, R255). -/
theorem dmEvent_heard {s : State} {st : BitVec 2} (hon : domOn s dGAL = true) (hcalls : callsRun s = true) :
    dmEvent s st =
      (let t := if s.echo.dm.owedPrew || decide (st = 2#2) then notifyFree (dmHeardAt s st) 8 0xFF else dmHeardAt s st
       if s.echo.dm.owedExp || decide (st = 3#2) then
         (if (call (notifyFree t 9 0xFF) 16).st = 0#2 then openCall (notifyFree t 9 0xFF) 16 false none else notifyFree t 9 0xFF)
       else t) := by
  have hcalls' : ∀ d : DeadMan, callsRun { s with echo := { s.echo with dm := d } } = true := fun _ => hcalls
  simp only [dmEvent, hon, Bool.not_true, Bool.or_false, Bool.false_eq_true, if_false, dmDeliver, dmHeard, hcalls', Bool.true_or]
  rfl

theorem call_notifyFree (s : State) (kind k j : Nat) : call (notifyFree s kind k) j = call s j :=
  congrArg (fun e : Echo => tget e.calls j {}) (notifyFree_echo s kind k)

theorem callsRun_duty {s : State} (h : callsRun s = true) : alive s lECHO = true ∧ standby s = false := by
  simp only [callsRun, Bool.and_eq_true, Bool.not_eq_true'] at h
  exact ⟨h.1.1, h.2⟩

/-- A mark of the counter that is the duty's to tell. -/
theorem exec_dmPrewarn_mark {s t : State} (haon : domOn s dAON = true) (hduty : standby s = false) (hst : s.echo.dm.st = 1#2)
    (heq : dmEvent s 2#2 = t) : exec .dmPrewarn s = .next (settle t) :=
  congrArg done ((if_pos (by simp [haon, hduty, hst])).trans heq)
theorem exec_dmExpiry_mark {s t : State} (haon : domOn s dAON = true) (hduty : standby s = false) (hst : s.echo.dm.st = 2#2)
    (heq : dmEvent s 3#2 = t) : exec .dmExpiry s = .next (settle t) :=
  congrArg done ((if_pos (by simp [haon, hduty, hst])).trans heq)

/-! ### The commands of ECMD blocks -/

/-- A command of ECMD_x that Echo takes. -/
theorem done_ecmdWrite {s t : State} {x : Ctx} (hreach : reaches s x lECHO = true) (halive : alive s lECHO = true)
    (hfreeze : (hdr s lECHO).freeze = false) (hduty : standby s = false) {k : State → State} (hk : k s = t) :
    done (ecmdWrite s x x k) = .next (settle t) :=
  done_ctxWrite hreach ((if_neg (ne_true_of_eq_false hfreeze)).trans ((if_neg (by simp [halive, hduty])).trans hk))

theorem cmdDm_granted {s : State} {x : Nat} {arming : Bool} {k : State → State} (hctx : cfgBit s lECHO 0x110 (8 + x) = true)
    (harm : arming = true → 64 ≤ cfg s lECHO 0x10C 6 0) : cmdDm s x arming k = ecmdResult (k s) x 0 := by
  have hfree : (arming && decide (cfg s lECHO 0x10C 6 0 < 64)) = false := by
    cases arming with
    | false => rfl
    | true => simpa using harm rfl
  exact (if_neg (by simp [hctx])).trans (if_neg (ne_true_of_eq_false hfree))

/-! ### The line faults of a loop -/

theorem lineFaultOn_opens {s : State} {x : Nat} (h : (callLine s x).opened = false) :
    lineFaultOn s x false = notify (setCallLine s x { callLine s x with opened := true, poll := none }) 12 0xFF (BitVec.ofNat 32 x) := by
  simp only [lineFaultOn, Bool.not_false, Bool.or_true, Bool.or_false, Bool.false_eq_true, if_false, h]
  rfl
theorem lineFaultOn_shorts {s : State} {x : Nat} (h : (callLine s x).short = false) :
    lineFaultOn s x true = notify (setCallLine s x { callLine s x with short := true, off := true, poll := none }) 12 0xFF
      (BitVec.ofNat 32 (x + 256)) := by
  simp only [lineFaultOn, Bool.not_true, Bool.or_true, Bool.or_false, if_true, h, Bool.false_eq_true, if_false]
  rfl

/-- Settles O20, command by command. -/
theorem echoCommandsComplete : Obligations.EchoCommandsComplete := by
  unfold Obligations.EchoCommandsComplete
  refine ⟨fun s c k rest hruns hq => ?_, fun s g k term rose rest hruns hq => ?_, fun s k hruns hfrozen hst hstage => ?_,
    fun s hruns => exec_callFrameStart_runs hruns, fun s x a r hruns hline hpoll hcrc => ?_, fun s x a hruns hline hpoll => ?_,
    fun s x halive hunit hopen => ?_, fun s x halive hshort => ?_, fun s x halive hshort => ?_, fun s x halive hfault hoff => ?_,
    fun s haon hgal hduty hcalls hslept hst => ?_, fun s haon hgal hduty hcalls hslept hst => ?_, fun s haon hgal hcalls hst howed => ?_,
    fun s haon hgal hcalls hst howed hidle => ?_, fun s haon hgal hduty hst => ?_, fun s haon hgal hduty hst => ?_,
    fun s x v hreach halive hfreeze hduty => ?_, fun s u halive => congrArg done (if_pos halive)⟩
  · simp only [exec, execEchoItem]
    rw [hq]
    exact congrArg done (if_pos hruns)
  · simp only [exec, execEchoGroupTerm]
    rw [hq]
    exact congrArg done (if_pos hruns)
  · obtain ⟨halive, hduty⟩ := callsRun_duty hruns
    exact congrArg done ((if_neg (by simp [halive, hduty])).trans ((if_neg (ne_true_of_eq_false hfrozen)).trans (if_pos ⟨hst, hstage⟩)))
  · simp only [exec, execCallReply, hpoll]
    exact congrArg done ((if_neg (by simp [framesRun_setCallLine, hruns, hline])).trans (if_pos hcrc))
  · simp only [exec, execCallReply, hpoll]
    exact congrArg done (if_neg (by simp [framesRun_setCallLine, hruns, hline]))
  · exact congrArg done ((if_pos (by simp [halive, hunit])).trans (lineFaultOn_opens hopen))
  · exact congrArg done ((if_pos halive).trans (lineFaultOn_shorts hshort))
  · exact congrArg done (if_pos (by simp [halive, hshort]))
  · exact congrArg done (if_pos (by simp [halive, hfault, hoff]))
  · refine exec_dmPrewarn_mark haon hduty hst ((dmEvent_unheard hgal hcalls hslept).trans ?_)
    simp
  · refine exec_dmExpiry_mark haon hduty hst ((dmEvent_unheard hgal hcalls hslept).trans ?_)
    simp
  · refine exec_dmPrewarn_mark haon (callsRun_duty hcalls).2 hst ((dmEvent_heard hgal hcalls).trans ?_)
    simp [howed, dmHeardAt]
  · refine exec_dmExpiry_mark haon (callsRun_duty hcalls).2 hst ((dmEvent_heard hgal hcalls).trans ?_)
    have hidle' : (call (notifyFree (dmHeardAt s 3#2) 9 0xFF) 16).st = 0#2 :=
      (congrArg Call.st (call_notifyFree _ 9 0xFF 16)).trans hidle
    simp only [howed, show decide (3#2 = 2#2) = false from rfl, Bool.or_self, Bool.false_eq_true, if_false, decide_true, Bool.or_true,
      if_true, hidle']
    simp [dmHeardAt]
  · refine exec_dmPrewarn_mark haon hduty hst ((dmEvent_asleep hgal).trans ?_)
    simp
  · refine exec_dmExpiry_mark haon hduty hst ((dmEvent_asleep hgal).trans ?_)
    simp
  · refine ⟨fun hctx hk hst => ?_, fun hctx hst => ?_, fun hctx harm hst => ?_, fun hctx harm hst => ?_, fun hctx hu => ?_, ?_⟩
    · exact done_ecmdWrite hreach halive hfreeze hduty ((if_neg (by simp [hctx])).trans ((if_neg (by omega)).trans (if_neg (by simp [hst]))))
    · exact done_ecmdWrite hreach halive hfreeze hduty
        ((cmdDm_granted hctx fun h => absurd h (by decide)).trans (congrArg (ecmdResult · x.toNat 0) (if_neg hst)))
    · exact done_ecmdWrite hreach halive hfreeze hduty
        ((cmdDm_granted hctx fun _ => harm).trans (congrArg (ecmdResult · x.toNat 0) (if_neg (by simp [hst]))))
    · exact done_ecmdWrite hreach halive hfreeze hduty
        ((cmdDm_granted hctx fun _ => harm).trans (congrArg (ecmdResult · x.toNat 0) (if_neg hst)))
    · exact done_ecmdWrite hreach halive hfreeze hduty ((if_neg (by simp [hctx])).trans (if_neg (by omega)))
    · exact done_ecmdWrite hreach halive hfreeze hduty rfl

end Sys2Proof.Machine
end

section
/-! PROOFS. Digital inputs (R300 to R305, R318). -/
namespace Sys2Proof.Machine

theorem frozen_of_works {s : State} {u : Nat} (h : works s u = true) : (hdr s u).frozen = false := by
  simp only [works, Bool.and_eq_true, Bool.not_eq_true'] at h
  exact h.1.1.2

/-- The raw state at a voltage (R300), as the two thresholds and the level before. -/
theorem rawState_eq (type1 was : Bool) (mv : Nat) :
    rawState type1 was mv = (decide ((if type1 then 9000 else 12500) ≤ mv) || (decide ((if type1 then 7000 else 10000) < mv) && was)) := by
  unfold rawState
  by_cases hup : (if type1 then 9000 else 12500) ≤ mv
  · simp [hup]
  · by_cases hdown : mv ≤ (if type1 then 7000 else 10000)
    · simp [hup, hdown, Nat.not_lt.mpr hdown]
    · simp [hup, hdown, Nat.lt_of_not_le hdown]

/-- The raw state that a voltage gives an input. -/
def diLevel (s : State) (n mv : Nat) : Bool := rawState (bit (diCfg s n) 1) (diCh s n).raw mv

theorem exec_diFilteredChange_frozen {s : State} {n : BitVec 6} {mv : BitVec 16} {d : DWord} (hon : diOn s n.toNat = true)
    (hwb : (diCh s n.toNat).wb = false) (halive : alive s lFIO = true) (hfrozen : (hdr s lFIO).frozen = true) :
    exec (.diFilteredChange n mv d) s =
      .next (settle (setDi s n.toNat { diCh s n.toNat with raw := diLevel s n.toNat mv.toNat, edge := d })) :=
  congrArg done ((if_neg (by simp [halive, hon, hwb])).trans (if_pos hfrozen))

/-- At work, a level that was reported already is kept without an item, and any other gives one (R301, R303). -/
theorem exec_diFilteredChange_works {s : State} {n : BitVec 6} {mv : BitVec 16} {d : DWord} (hon : diOn s n.toNat = true)
    (hwb : (diCh s n.toNat).wb = false) (hworks : works s lFIO = true) :
    exec (.diFilteredChange n mv d) s = done (
      if (diCh s n.toNat).filt = diLevel s n.toNat mv.toNat && (diCh s n.toNat).first then
        setDi s n.toNat { diCh s n.toNat with raw := diLevel s n.toNat mv.toNat }
      else diItem (setDi (raiseIf (decide ((diCh s n.toNat).filt ≠ diLevel s n.toNat mv.toNat)) s lFIO 0) n.toNat
        { diCh s n.toNat with filt := diLevel s n.toNat mv.toNat, raw := diLevel s n.toNat mv.toNat }) n.toNat d) :=
  congrArg done ((if_neg (by simp [alive_of_works hworks, hon, hwb])).trans (if_neg (ne_true_of_eq_false (frozen_of_works hworks))))

theorem gateFreq_none {s : State} {c : DiCh} (h : c.gateN < 2) : gateFreq s c = (f32Zero, s) := if_pos h
theorem gateFreq_some {s : State} {c : DiCh} (hn : 2 ≤ c.gateN) (hspan : c.gateFirst.toNat < c.gateLast.toNat) :
    gateFreq s c =
      (f32RoundRat (((c.gateN - 1) * 1000000000 : Nat) : Int) (c.gateLast.toNat - c.gateFirst.toNat) 0 64 false, s) :=
  (if_neg (Nat.not_lt.mpr hn)).trans (if_neg (Nat.not_le.mpr hspan))

/-- A gate ends at work: its frequency is written and issued (R304). -/
theorem exec_diGateEnd_works {s : State} {n : BitVec 3} {f : F32} (hworks : works s lFIO = true) (hon : diOn s n.toNat = true)
    (hfreq : gateFreq s (diCh s n.toNat) = (f, s)) :
    exec (.diGateEnd n) s = .next (settle (fioItem (setReg (setDi s n.toNat { diCh s n.toNat with gateN := 0 }) lFIO (0x170 + 4 * n.toNat) f)
      2 n.toNat f 0#4 (time64 s))) := by
  refine congrArg done ((if_neg (by simp [alive_of_works hworks, hon])).trans
    ((if_neg (ne_true_of_eq_false (frozen_of_works hworks))).trans ?_))
  rw [hfreq]
  rfl

/-- Settles O21, command by command. -/
theorem digitalInputCommandsComplete : Obligations.DigitalInputCommandsComplete := by
  unfold Obligations.DigitalInputCommandsComplete
  refine ⟨fun s n mv d hon hwb => ?_, fun s n d hworks hon hbreak hwb => ?_, fun s n d hworks hon hwb => ?_,
    fun s n b d halive hon hcounts => ?_, fun s n hworks hon hfew => exec_diGateEnd_works hworks hon (gateFreq_none hfew),
    fun s n hworks hon hmany hspan => exec_diGateEnd_works hworks hon (gateFreq_some hmany hspan), fun s n halive hfrozen hon => ?_,
    fun s n hwake hsleep hrun => ?_⟩
  · intro c up down level
    have hlevel : diLevel s n.toNat mv.toNat = level := rawState_eq _ _ _
    refine ⟨fun hworks hnew => ?_, fun hworks hsame hfirst => ?_, fun hworks hsame hfirst => ?_, fun halive hfrozen => ?_⟩
    · rw [exec_diFilteredChange_works hon hwb hworks, hlevel]
      refine congrArg done ((if_neg (by simp [c, hnew])).trans ?_)
      rw [raiseIf_true (by simpa using hnew)]
    · rw [exec_diFilteredChange_works hon hwb hworks, hlevel]
      exact congrArg done (if_pos (by simp [c, hsame, hfirst]))
    · rw [exec_diFilteredChange_works hon hwb hworks, hlevel]
      refine congrArg done ((if_neg (by simp [c, hfirst])).trans ?_)
      rw [show decide ((diCh s n.toNat).filt ≠ level) = false by simpa using hsame, ← hsame]
      rfl
    · rw [exec_diFilteredChange_frozen hon hwb halive hfrozen, hlevel]
  · exact congrArg done (if_neg (by simp [hworks, hon, hbreak, hwb]))
  · exact congrArg done (if_neg (by simp [hworks, hon, hwb]))
  · exact congrArg done ((if_neg (by simp [halive, hon])).trans (if_neg (by simp [hcounts])))
  · exact congrArg done ((if_neg (by simp [halive, hon])).trans (if_pos hfrozen))
  · refine ⟨_, congrArg done (if_pos hwake), rfl, ?_⟩
    rw [wake, if_pos ⟨hsleep, hrun⟩]
    exact ⟨rfl, rfl, rfl⟩

end Sys2Proof.Machine
end

section
/-! PROOFS. Digital and analog outputs, their faults and their forces (R306 to R321). -/
namespace Sys2Proof.Machine

/-- Where no set waits, a part of it changes nothing (R81). -/
theorem takePart_none {s : State} {u : Nat} (h : (hdr s u).pend = none) (p : Nat → Bool) : takePart s u p = (s, []) := by
  simp only [takePart, h]

/-- The bits of FORCE_LOCK that the two commands write (R320). -/
theorem forceTake_bit (v : Word) : bit (v ||| 0x80000000#32) 31 = true := by simp [bit]
theorem forceRelease_take (v : Word) : bit ((v &&& 0x7FFFFFFF#32) ||| 0x40000000#32) 31 = false := by simp [bit]
theorem forceRelease_bit (v : Word) : bit ((v &&& 0x7FFFFFFF#32) ||| 0x40000000#32) 30 = true := by simp [bit]

/-- Settles O22, command by command. -/
theorem outputCommandsComplete : Obligations.OutputCommandsComplete := by
  unfold Obligations.OutputCommandsComplete
  refine ⟨fun s n hworks hpend => ?_, fun s c v howns => done_ownerWrite howns rfl, fun s c n v howns => done_ownerWrite howns rfl,
    fun s n hback herr => ?_, fun s n hback herr => ?_, fun s n b hon => ?_, fun s c n v howns => ?_, fun s n halive hretry htrip => ?_,
    fun s n hworks hen hhigh hsup hload => ?_, fun s n hworks hsup hload => ?_, fun s b hwatched hsup => ?_, fun s b halive hsup => ?_,
    fun s n x hcode hvolts hshort => ?_, fun s n x hworks hcode hvolts hen hbreak => ?_, fun s n halive => congrArg done (if_pos halive),
    fun s c v hreach hctx hlock hmin hmax => ?_, fun s c v hreach hctx hlock => ?_, fun s halive hlock => ?_,
    fun s c n v hreach hlock => ?_, fun s c n v hreach hlock => ?_⟩
  · refine congrArg done ((if_neg (by simp [alive_of_works hworks])).trans ((if_neg (ne_true_of_eq_false (frozen_of_works hworks))).trans ?_))
    rw [takePart_none hpend]
    rfl
  · exact congrArg done (if_pos (by simp [hback, herr]))
  · exact congrArg done (if_pos (by simp [hback, herr]))
  · exact congrArg done (if_pos (by simpa using hon))
  · refine done_ownerWrite howns ?_
    simp only [doStatClear, Bool.not_or, Bool.and_assoc]
  · exact congrArg done (if_pos (by simp [halive, hretry, htrip]))
  · exact congrArg done (if_pos (by simp [hworks, hen, hhigh, hsup, hload]))
  · exact congrArg done (if_pos (by simp [hworks, hsup, hload]))
  · exact congrArg done (if_pos (by rw [hwatched, hsup]; rfl))
  · exact congrArg done (if_pos (by simp [halive, hsup]))
  · exact congrArg done ((if_neg (by simp [hcode, hvolts])).trans ((if_pos rfl).trans (if_neg (ne_true_of_eq_false hshort))))
  · exact congrArg done ((if_neg (by simp [hcode, hvolts])).trans ((if_neg (by decide)).trans (if_pos (by simp [hworks, hen, hbreak]))))
  · have htaken : (s.fio.lock.isSome && decide (s.fio.lock ≠ some c)) = false := by
      rcases hlock with h | h <;> simp [h]
    refine congrArg done ((access_reaches hreach _ _ _).trans ((if_neg (by simp [hctx])).trans ((if_pos (forceTake_bit v)).trans (if_neg ?_))))
    rw [htaken, decide_eq_false (Nat.ne_of_gt hmin), decide_eq_false (Nat.not_lt.mpr hmax)]
    decide
  · exact congrArg done ((access_reaches hreach _ _ _).trans ((if_neg (by simp [hctx])).trans
      ((if_neg (ne_true_of_eq_false (forceRelease_take v))).trans (if_pos (by simp [forceRelease_bit v, hlock])))))
  · exact congrArg done (if_pos (by simp [halive, Option.isSome_iff_ne_none, hlock]))
  · exact congrArg done ((access_reaches hreach _ _ _).trans (if_pos hlock))
  · exact congrArg done ((access_reaches hreach _ _ _).trans (if_pos hlock))

end Sys2Proof.Machine
end

section
/-! PROOFS. The loop engine's commands (R177, R269 to R273, R282, R286, R288, R292, R293). -/
namespace Sys2Proof.Machine

/-! ### Slots -/

@[simp] theorem slot_setSlot (s : State) (n : Nat) (v : Slot) : slot (setSlot s n v) n = v := by simp [slot, setSlot]
@[simp] theorem setSlot_setSlot (s : State) (n : Nat) (v w : Slot) : setSlot (setSlot s n v) n w = setSlot s n w := by simp [setSlot]

theorem takeEarly_nil {s : State} {n : Nat} (h : (slot s n).early = []) : takeEarly s n = s := if_pos (by rw [h]; rfl)

/-- Where the run kept no older set, a step of it uses the values in use (R270). -/
theorem inRun_current {s : State} {n : Nat} (h : (slot s n).old = []) (f : State → State) : inRun s n f = f s := if_pos (by rw [h]; rfl)

theorem slotRel_executed (s : State) (n : Nat) : slotRel (setSlot s n { slot s n with execd := true }) n = slotRel s n := by simp [slotRel]

theorem slotExec_released {s : State} {n : Nat} (h : slotRel s n = true) :
    slotExec s n = takeEarly (slotRun (setSlot s n { slot s n with execd := true }) n) n :=
  if_pos ((slotRel_executed s n).trans h)

/-- A slot that waits for its first confirmed value executes without effect (R293). -/
theorem slotExec_unreleased {s : State} {n : Nat} (hrel : slotRel s n = false) (hearly : (slot s n).early = []) (hkind : sFbKind s n = 0)
    (hspec : sSpec s n = true) (hheld : (slot s n).core.held = none) :
    slotExec s n = setSlot s n { slot s n with execd := true, status := false } := by
  have hnone : releaseValue (setSlot s n { slot s n with execd := true }) n = none := by
    have huse : (decide (sFbKind s n = 0) && sSpec s n) = true := by rw [hkind, hspec]; rfl
    refine (if_pos huse).trans ?_
    rw [slot_setSlot, hheld]
    rfl
  have hearly' : (slot (setSlot s n { slot s n with execd := true }) n).early = [] := by rw [slot_setSlot]; exact hearly
  refine (if_neg (ne_true_of_eq_false ((slotRel_executed s n).trans hrel))).trans ?_
  rw [takeEarly_nil hearly', hnone]
  simp

theorem slotEnters_behind {s : State} {m : BitVec 6} {n : Nat} (hwaits : slotWaits s m.toNat = true) (hready : slotReady s m.toNat = true)
    (hbefore : slotBefore s m.toNat n = true) : slotEnters s n = false := by
  have hany : (List.range 64).any (fun k => slotWaits s k && slotReady s k && slotBefore s k n) = true :=
    List.any_eq_true.mpr ⟨m.toNat, List.mem_range.mpr m.isLt, by simp [hwaits, hready, hbefore]⟩
  simp [slotEnters, hany]

theorem exec_loopFbArrival_waits {s : State} {n : BitVec 6} {x : Sample} (halive : alive s lLOOP = true)
    (hin : (slot s n.toNat).evalIn = some x) (hearly : (slot s n.toNat).early = []) :
    exec (.loopFbArrival n) s = .next (settle (setSlot s n.toNat { slot s n.toNat with
      evalIn := none, arr := some (.value (smpId x.ch x.seq.toNat) (loopEval s n.toNat x).1 (BitVec.ofNat 4 (loopEval s n.toNat x).2)),
      waits := (slot s n.toNat).waits ++ [(smpId x.ch x.seq.toNat, (loopEval s n.toNat x).1)], status := false, readyAt := s.now,
      lastFx := if (loopEval s n.toNat x).2 ≤ 1 then (loopEval s n.toNat x).1 else (slot s n.toNat).lastFx })) := by
  simp only [exec, execLoopFbArrival]
  rw [hin]
  refine congrArg done ((if_neg (by simp [halive])).trans (takeEarly_nil ?_))
  rw [slot_setSlot]
  exact hearly

theorem exec_loopFbResolution_front {s : State} {n : BitVec 6} {q : Nat} {r : Option (BitVec 4)} {rest : List (Nat × Option (BitVec 4))}
    (halive : alive s lLOOP = true) (hin : (slot s n.toNat).resIn = (q, r) :: rest) :
    exec (.loopFbResolution n) s = done (if tooEarly s n.toNat q then
      setSlot s n.toNat { slot s n.toNat with resIn := rest, early := (slot s n.toNat).early ++ [(q, r)] }
      else resolved (setSlot s n.toNat { slot s n.toNat with resIn := rest }) n.toNat q r) := by
  simp only [exec, execLoopFbResolution]
  rw [hin]
  exact congrArg done (if_neg (by simp [halive]))

/-- The deadline of a slot: it is ready late, and runs where it enters the pipeline (R272). -/
theorem exec_loopFbDeadline_late {s t : State} {n : BitVec 6} (hwaits : slotWaits s n.toNat = true) (hkind : runFbKind s n.toNat = 0)
    (hspec : runSpec s n.toNat = false) (hready : slotReady s n.toNat = false)
    (ht : t = setSlot s n.toNat { slot s n.toNat with late := true, readyAt := s.now }) :
    exec (.loopFbDeadline n) s = done (if slotEnters t n.toNat then inRun t n.toNat (fun u => slotExec u n.toNat) else t) := by
  subst ht
  exact congrArg done (if_pos (by simp [hwaits, hkind, hspec, hready]))

/-- A slot that enters the pipeline, is released and kept no older set runs. -/
theorem inRun_slotExec {s : State} {n : Nat} (hold : (slot s n).old = []) (hrel : slotRel s n = true) :
    inRun s n (fun u => slotExec u n) = takeEarly (slotRun (setSlot s n { slot s n with execd := true }) n) n :=
  (inRun_current hold _).trans (slotExec_released hrel)

theorem slotCmdWrite_owns {s : State} {c : Ctx} {n : Nat} {op : BitVec 2} (howns : owns s c (uSLOT n) = true) (hop : op ≠ 0#2) :
    done (slotCmdWrite s c n op) = .next (settle (setSlot s n { slot s n with cmds := (slot s n).cmds ++ [op] })) :=
  done_ownerWrite howns (if_neg hop)

/-- Settles O23, command by command. -/
theorem loopCommandsComplete : Obligations.LoopCommandsComplete := by
  unfold Obligations.LoopCommandsComplete
  refine ⟨fun s hruns hfreeze hpend => ?_, fun s hruns hfreeze => ?_, fun s n henters hold hrel => ?_,
    fun s n henters hold hearly hrel hkind hspec hheld => ?_, fun s n m hwaits hready hbefore => ?_,
    fun s n x halive hin hearly => exec_loopFbArrival_waits halive hin hearly, fun s n q r rest halive hin => ⟨fun hmay => ?_, fun hearly => ?_⟩,
    fun s n hwaits hkind hspec hready => ?_, fun s n hruns hdue hrel hold => ?_,
    fun s c n i op howns hi => ?_, fun s c w v hpath hon hlocked hin hfree => ?_, fun s c w v hpath hon hlocked hbad => ?_⟩
  · refine congrArg done ((if_neg (by simp [hruns])).trans ((if_neg (ne_true_of_eq_false hfreeze)).trans ?_))
    rw [takeEffect, takePart_none hpend]
  · exact congrArg done ((if_neg (by simp [hruns])).trans (if_pos hfreeze))
  · exact congrArg done ((if_pos henters).trans (inRun_slotExec hold hrel))
  · exact congrArg done ((if_pos henters).trans ((inRun_current hold _).trans (slotExec_unreleased hrel hearly hkind hspec hheld)))
  · exact congrArg done (if_neg (ne_true_of_eq_false (slotEnters_behind hwaits hready hbefore)))
  · exact (exec_loopFbResolution_front halive hin).trans (congrArg done (if_neg (ne_true_of_eq_false hmay)))
  · exact (exec_loopFbResolution_front halive hin).trans (congrArg done (if_pos hearly))
  · intro t
    have hlate := exec_loopFbDeadline_late hwaits hkind hspec hready (rfl : t = _)
    have hslot : slot t n.toNat = { slot s n.toNat with late := true, readyAt := s.now } := slot_setSlot s _ _
    refine ⟨fun henters hold hrel => ?_, fun hbehind => hlate.trans (congrArg done (if_neg (ne_true_of_eq_false hbehind)))⟩
    have hold' : (slot t n.toNat).old = [] := by rw [hslot]; exact hold
    have hrel' : slotRel t n.toNat = true := by rw [slotRel, hslot]; exact hrel
    exact hlate.trans (congrArg done ((if_pos henters).trans (inRun_slotExec hold' hrel')))
  · have hmode : decide ((slot s n.toNat).mode ≠ 0#3) = true := hrel
    refine congrArg done ((if_pos (by rw [hruns, hdue, hmode]; rfl)).trans (inRun_current ?_ _))
    rw [slot_setSlot]
    exact hold
  · rcases hi with ⟨rfl, rfl⟩ | ⟨rfl, rfl⟩ | ⟨rfl, rfl⟩
    · exact slotCmdWrite_owns howns (by decide)
    · exact slotCmdWrite_owns howns (by decide)
    · exact slotCmdWrite_owns howns (by decide)
  · refine congrArg done ((if_pos (by simp [hpath, hon, hlocked])).trans (if_neg ?_))
    rw [hfree]
    simp only [Bool.false_eq_true, or_false]
    omega
  · refine congrArg done ((if_pos (by simp [hpath, hon, hlocked])).trans (if_pos ?_))
    exact hbad.imp (fun h => by omega) id

end Sys2Proof.Machine
end

section
/-! PROOFS. The Lantern panel and the Calcite updates (R326 to R349, R485, R486). -/
namespace Sys2Proof.Machine

/-! ### Lantern -/

/-- The panel at a frame boundary with nothing waiting: the count, the blink generators and the attributes in use (R329, R332). -/
def boundaryIdle (s : State) : State :=
  let t := { s with lant := { s.lant with
    frames := s.lant.frames + 1#32, blinkA := blinkOn s 0x104 (time64 s), blinkB := blinkOn s 0x108 (time64 s), commits := [], updates := [] } }
  { t with lant := { t.lant with attr := (atEntries t).foldl (fun m e => tset m e (atAttr t e) aOFF) [] } }

theorem exec_lantFrameBoundary_idle {s : State} (hscans : lantScans s = true) (hworks : works s lLANT = true) (hpend : (hdr s lLANT).pend = none)
    (hcommits : s.lant.commits = []) (hupdates : s.lant.updates = []) :
    exec .lantFrameBoundary s = .next (settle (boundaryIdle s)) := by
  have hworks' : ∀ l : Lant, works { s with lant := l } lLANT = true := fun _ => hworks
  refine congrArg done ((if_pos hscans).trans ?_)
  rw [takeEffect, takePart_none hpend]
  refine (if_pos (hworks' _)).trans ?_
  dsimp only
  rw [hcommits, hupdates]
  rfl

/-- AT_ADDR counts on under AUTOINC (R348). -/
theorem atNext_eq (s t : State) (h : t.act = s.act) : atNext t = if cfgBit s lLANT 0x118 31 then setReg t lLANT 0x118 (atAfter s) else t := by
  have hreg : reg t lLANT 0x118 = reg s lLANT 0x118 := congrArg (fun a => tget a (rk lLANT 0x118) (resetOfKey (rk lLANT 0x118))) h
  unfold atNext
  rw [hreg]
  rfl

/-! ### Calcite -/

theorem tryUpdate_pending {s : State} {r : Nat} {l : BitVec 2} (hmay : updMay s = true) (hen : bEn s r = true) (hrun : (bReg s r).run = false)
    (hsteps : (bReg s r).steps = []) (hbegun : (bReg s r).begun = true) (hpend : (bReg s r).pend = some l) (hnew : l ≠ (bReg s r).shown) :
    tryUpdate s r true = startUpdate s r l := by
  refine (if_neg (by simp [hmay, hen, hrun, hsteps])).trans ((if_neg (by simp [hbegun])).trans ?_)
  rw [hpend]
  exact (if_neg hnew).trans (if_pos rfl)

theorem exec_bistRecoveryStart_may {s : State} (hmay : calcMay s = true) (hfirst : s.bist.recovered = false) (hidle : s.bist.recovery = false) :
    exec .bistRecoveryStart s = done ((regionsOn s).foldl (fun t r => recoverRegion t s.grot.calcOk r) { s with bist := { s.bist with
      recovery := true, dirty := if s.grot.calcOk then BitVec.ofNat 32 (jget s 0x44 4) else 0xFFFFFFFF#32 } }) :=
  congrArg done (if_pos (by simp [hmay, hfirst, hidle]))

theorem exec_bistRecoveryDone_none {s : State} (hrec : s.bist.recovery = true) (hon : calcOn s = true) (hvin : s.pwr.fail = false)
    (hnone : regionsOn s = []) : exec .bistRecoveryDone s =
      .next (settle (bistRefreshAll (raise { s with bist := { s.bist with recovery := false, recovered := true } } lBIST 1))) := by
  refine congrArg done ((if_pos (by simp [hrec, hon, hvin])).trans ?_)
  rw [hnone]
  rfl

/-- Settles O24, command by command. -/
theorem displayCommandsComplete : Obligations.DisplayCommandsComplete := by
  unfold Obligations.DisplayCommandsComplete
  refine ⟨fun s hscans hworks hpend hcommits hupdates => ?_, fun s c v howns hgo hone => ?_, fun s c v howns hgo hall => ?_,
    fun s c v howns => ?_, fun s c v howns => done_ownerWrite howns rfl, fun s ok hpresent => congrArg done (if_pos hpresent),
    fun s r l hmay hen hrun hsteps hbegun hpend hnew => congrArg done (tryUpdate_pending hmay hen hrun hsteps hbegun hpend hnew),
    fun s r hruns => congrArg done (if_pos hruns), fun s hmay hfirst hidle hcalc => ?_, fun s hmay hfirst hidle hcalc => ?_,
    fun s hrec hon hvin hnone => exec_bistRecoveryDone_none hrec hon hvin hnone, fun s hmay hinit hsome hstale => ?_,
    fun s c r v howns hsrc hgo => ?_, fun s c r v howns hsrc => ?_, fun s c v howns hfree => ?_, fun s c v howns hused => ?_,
    fun s b hpresent => congrArg done (if_pos hpresent)⟩
  · exact ⟨_, exec_lantFrameBoundary_idle hscans hworks hpend hcommits hupdates, rfl, rfl, rfl, rfl, rfl, rfl, rfl⟩
  · refine done_ownerWrite howns ((if_pos hgo).trans ?_)
    rw [hone]
    rfl
  · refine done_ownerWrite howns ((if_pos hgo).trans ?_)
    rw [hall]
    rfl
  · intro next
    have hnext : ∀ t : State, t.act = s.act → atNext t = next t := atNext_eq s
    refine ⟨fun hword => done_ownerWrite howns ?_, fun hword hok => done_ownerWrite howns ?_, fun hword hbad => done_ownerWrite howns ?_,
      fun hword => done_ownerWrite howns ((if_pos hword).trans (hnext s rfl))⟩
    · refine (if_neg (by omega)).trans ((if_pos hword).trans ?_)
      rw [hword, Nat.add_zero]
      exact hnext _ rfl
    · refine (if_neg (by omega)).trans ((if_neg (by omega)).trans ((if_pos hok).trans ?_))
      rw [hword]
      exact hnext _ rfl
    · exact (if_neg (by omega)).trans ((if_neg (by omega)).trans (if_neg (ne_true_of_eq_false hbad)))
  · rw [exec_bistRecoveryStart_may hmay hfirst hidle, hcalc]
    rfl
  · rw [exec_bistRecoveryStart_may hmay hfirst hidle, hcalc]
    rfl
  · exact congrArg done (if_pos (by simp [hmay, hinit, hsome, hstale]))
  · exact done_ownerWrite howns ((if_neg (by simp [hsrc])).trans (if_pos hgo))
  · exact done_ownerWrite howns (if_pos (by simp [hsrc]))
  · exact done_ownerWrite howns (if_neg (by simpa using hfree))
  · exact done_ownerWrite howns (if_pos (by simpa using hused))

end Sys2Proof.Machine
end

section
/-! PROOFS. The start of a DMA descriptor in degraded mode (R396, R412). -/
namespace Sys2Proof.Machine

@[simp] theorem queue_setQueue (s : State) (n : Nat) (v : Queue) : queue (setQueue s n v) n = v := by simp [queue, setQueue]
theorem queue_settle (s : State) (n : Nat) : queue (settle s) n = queue s n := rfl

/-- A queue of CTX_2 set up for an expansion target (DEPTH 1, FUNC 3, HOST 1), with one descriptor to go, in degraded mode. -/
def degradedQueue : State :=
  { pwr := { doms := BitVec.allOnes _, degraded := true }
    hdr := [(uQUEUE 0, { owner := 2#3 })]
    act := [(rk (uQUEUE 0) 0x10, 0x40030001#32)]
    hostUp := 1#4
    dma := { q := [(0, { tail := 1#16 })] } }

/-- In degraded mode no new transfer of an expansion target begins (R396). -/
theorem exec_dmaDescriptorStart_degraded {s : State} {q : BitVec 6} {ans : MemAns} (hpend : (hdr s (uQUEUE q.toNat)).pend = none)
    (hdegraded : s.pwr.degraded = true) (hfunc : qFunc s q.toNat = 3) :
    exec (.dmaDescriptorStart q ans) s = .next (settle s) := by
  have hsame : (if dmaRuns s && (queue s q.toNat).run.isNone then queueBoundary s q.toNat else s) = s := by
    rw [queueBoundary, hpend]
    simp
  simp only [exec, execDmaDescriptorStart, hsame]
  exact congrArg done (if_neg (by simp [hdegraded, hfunc]))

/-- Refutes O25: in degraded mode a queue of an expansion target starts no descriptor, and the clause of DMA_DESCRIPTOR_START does not
leave that case out. -/
theorem not_dmaCommandsComplete : ¬ Obligations.DmaCommandsComplete := by
  unfold Obligations.DmaCommandsComplete
  rintro ⟨hstart, -⟩
  have hstated := hstart degradedQueue 0#6 (List.replicate 32 0#8) (by decide) (by decide) (by decide) (by decide) (by decide) (by decide)
    (by decide) (by decide)
  rw [exec_dmaDescriptorStart_degraded (by decide) rfl (by decide)] at hstated
  have hrun := congrArg (fun t : State => (queue t 0).run.isSome) (Host.Outcome.next.inj hstated)
  have hidle : (queue (settle degradedQueue) 0).run.isSome = false := rfl
  dsimp only at hrun
  rw [hidle, queue_settle, show (0#6 : BitVec 6).toNat = 0 from rfl, queue_setQueue] at hrun
  exact absurd hrun (by decide)

end Sys2Proof.Machine
end

section
/-! PROOFS. Host links, inbound windows and the IOTLB invalidations (R405, R407, R408, R426, R427). -/
namespace Sys2Proof.Machine

/-- A window access of a host, of 1 to 8 bytes, is well-formed. -/
theorem window_wellFormed {c : Ctx} {n : BitVec 4} (hlo : 2 ≤ c.toNat) (hhi : c.toNat ≤ 5) (hmin : 1 ≤ n.toNat) (hmax : n.toNat ≤ 8) :
    (decide (2 ≤ c.toNat) && decide (c.toNat ≤ 5) && decide (1 ≤ n.toNat) && decide (n.toNat ≤ 8)) = true := by
  simp [hlo, hhi, hmin, hmax]

theorem invCmd_queues {op : Nat} (h : op ≠ 0) (s : State) (d : Nat) : invCmd s op d = { s with dma := { s.dma with
    inv := s.dma.inv ++ [(op, d, (reg s lIOMMU 0x208).toNat + 0x100000000 * (reg s lIOMMU 0x20C).toNat)] } } := if_neg h

/-- Settles O26, command by command. -/
theorem hostCommandsComplete : Obligations.HostCommandsComplete := by
  unfold Obligations.HostCommandsComplete
  refine ⟨fun s c v howns => ⟨?_, ?_, ?_⟩, fun s hwaiting => ?_, fun s p hup => ?_, fun s p hon hen hserved hdown => ?_,
    fun s c a v n hlo hhi hmin hmax hpath => ?_, fun s c a v n t b hlo hhi hmin hmax hpath hread => ?_⟩
  · exact done_ownerWrite howns (invCmd_queues (by decide) s _)
  · exact done_ownerWrite howns (invCmd_queues (by decide) s _)
  · exact done_ownerWrite howns (invCmd_queues (by decide) s _)
  · exact congrArg done (if_neg (by simpa using hwaiting))
  · exact congrArg done (if_pos hup)
  · exact congrArg done (if_pos (by rw [hon, hen, hserved, hdown]; rfl))
  · exact (if_pos (window_wellFormed hlo hhi hmin hmax)).trans (congrArg done (if_neg (by simp [hpath])))
  · refine (if_pos (window_wellFormed hlo hhi hmin hmax)).trans (congrArg done ((if_neg (by simp [hpath])).trans ?_))
    dsimp only
    rw [hread]
    rfl

end Sys2Proof.Machine
end

section
/-! PROOFS. The ring, network values and the sleep link (R222, R372 to R380, R383 to R386). -/
namespace Sys2Proof.Machine

/-! ### Network values -/

/-- A message of one record (R379). -/
theorem nvRx_single {s : State} {b : List Byte} (hworks : works s lNET = true) (hlen : b.length = 24) (hversion : b.getD 0 0#8 = 1#8)
    (hcount : b.getD 1 0#8 = 1#8) :
    nvRx s b = nvTake s (leNat ((b.drop 2).take 2) % 4096) (b.getD 16 0#8).toNat (BitVec.ofNat 32 (leNat (b.drop 20))) := by
  have hone : (1#8 : Byte).toNat = 1 := rfl
  have htail : (b.drop 20).take 4 = b.drop 20 := List.take_of_length_le (by simp [hlen])
  refine (if_neg (by rw [hworks, hversion, hcount, hone, hlen]; decide)).trans ?_
  rw [hcount, hone]
  simp only [nvRecords, List.foldl_cons, List.foldl_nil, List.drop_drop, List.getD_eq_getElem?_getD, List.getElem?_drop, htail]

/-- What is to be sent is spelled from what is not a network value. -/
theorem nvMessages_nvDue (s : State) (d : List (Nat × Word)) (n : Nat) (l : List (Nat × Word)) :
    nvMessages { s with net := { s.net with nvDue := d } } n l = nvMessages s n l := by
  induction n generalizing l with
  | zero => rfl
  | succ n ih => simp only [nvMessages, ih]; rfl

theorem exec_nvMessageSend_duty {s : State} (hon : netOn s = true) (hfrozen : (hdr s lNET).frozen = false) (hdegraded : s.pwr.degraded = false)
    (hduty : standby s = false) :
    exec .nvMessageSend s = .next (settle { s with
      net := { s.net with nvDue := [] },
      out := s.out ++ nvMessages s 4 (lastOf (s.net.nvDue.filter (fun e => decide (nvDir s e.1 = 2)))) }) := by
  refine congrArg done ((if_neg (by simp [hon, hfrozen])).trans ((if_neg (by simp [hdegraded, hduty])).trans ?_))
  rw [nvMessages_nvDue]

/-! ### Frames of the ring -/

/-- Counters do not move what a page has in use elsewhere. -/
theorem cfgBit_netCount (s : State) {o i : Nat} (ho : rk lNET 0x100 ≠ rk lNET o) : cfgBit (netCount s o) lNET 0x100 i = cfgBit s lNET 0x100 i :=
  congrArg (bit · i) (rget_countUp_other ho 0 32)

@[simp] theorem netCount_now (s : State) (o : Nat) : (netCount s o).now = s.now := rfl
@[simp] theorem netCount_out (s : State) (o : Nat) : (netCount s o).out = s.out := rfl
@[simp] theorem dupPut_out (s : State) (e : DupEnt) : (dupPut s e).out = s.out := rfl

/-- The counter of a port's received frames. -/
def rxCount (b : Bool) : Nat := if b then 0x134 else 0x130

theorem cfgBit_rxCount (s : State) (b : Bool) : cfgBit (netCount s (rxCount b)) lNET 0x100 0 = cfgBit s lNET 0x100 0 := by
  cases b
  · exact cfgBit_netCount s (by decide)
  · exact cfgBit_netCount s (by decide)

/-- A frame whose FCS fails goes no further outside HSR mode. -/
theorem ringFrame_badFcs {s : State} {b : Bool} {f : RingFrame} (hfcs : f.fcsOk = false) (hmode : cfgBit s lNET 0x100 0 = true) :
    ringFrame s b f = netCount (netCount s (rxCount b)) 0x140 := by
  have hmode' := (cfgBit_rxCount s b).trans hmode
  simp only [rxCount] at hmode' ⊢
  exact (if_pos (by simp [hfcs])).trans (if_neg (by simp [hmode']))

/-- Outside HSR mode an untagged alarm frame is the alarm transport's. -/
theorem ringFrame_alarm {s : State} {b : Bool} {f : RingFrame} {m : List Byte} (hfcs : f.fcsOk = true) (hsrc : f.src ≠ s.otp.mac)
    (hmode : cfgBit s lNET 0x100 0 = true) (hseq : f.seq = none) (hkind : f.kind = .alarm m)
    (hnode : toNode (netCount s (rxCount b)) f.dst = true) (hvlan : vlanTaken (netCount s (rxCount b)) f = true) :
    ringFrame s b f = rxAlarm (netCount s (rxCount b)) m := by
  have hmode' := (cfgBit_rxCount s b).trans hmode
  have hsrc' : f.src ≠ (netCount s (rxCount b)).otp.mac := hsrc
  simp only [rxCount] at hmode' hsrc' hnode hvlan
  simp [ringFrame, hfcs, hsrc', hmode', hseq, hkind, hnode, hvlan, handleFrame, rxCount]

/-- Outside HSR mode a frame that the duplicate table knows is counted. -/
theorem ringFrame_duplicate {s : State} {b : Bool} {f : RingFrame} {q : BitVec 16} {e : DupEnt} (hfcs : f.fcsOk = true)
    (hsrc : f.src ≠ s.otp.mac) (hmode : cfgBit s lNET 0x100 0 = true) (hseq : f.seq = some q) (hkind : f.kind = .other)
    (hold : dupFind (netCount s (rxCount b)) f.src q = some e) :
    ringFrame s b f = netCount (dupPut (netCount s (rxCount b)) { e with fromA := e.fromA || !b, fromB := e.fromB || b }) 0x138 := by
  have hmode' := (cfgBit_rxCount s b).trans hmode
  have hsrc' : f.src ≠ (netCount s (rxCount b)).otp.mac := hsrc
  simp only [rxCount] at hmode' hsrc' hold
  simp [ringFrame, hfcs, hsrc', hmode', hseq, hkind, hold, rxCount]

/-- In HSR mode a new frame for others is entered and goes on. -/
theorem ringFrame_onward {s : State} {b : Bool} {f : RingFrame} {q : BitVec 16} (hfcs : f.fcsOk = true) (hsrc : f.src ≠ s.otp.mac)
    (hmode : cfgBit s lNET 0x100 0 = false) (hseq : f.seq = some q) (hkind : f.kind = .other)
    (hnew : dupFind (netCount s (rxCount b)) f.src q = none) (hother : toNode s f.dst = false) :
    ringFrame s b f = { dupPut (netCount s (rxCount b)) ⟨f.src, q, s.now, !b, b⟩ with out := s.out ++ [.ringFrame (b2n (!b)) f.bytes] } := by
  have hmode' := (cfgBit_rxCount s b).trans hmode
  have hsrc' : f.src ≠ (netCount s (rxCount b)).otp.mac := hsrc
  have hdst : f.dst ≠ s.otp.mac := by
    simp only [toNode, Bool.or_eq_false_iff, decide_eq_false_iff_not] at hother
    exact hother.1
  have hdst' : f.dst ≠ (netCount s (rxCount b)).otp.mac := hdst
  have hother' : ∀ (e : DupEnt) (o : List Out), toNode { dupPut (netCount s (rxCount b)) e with out := o } f.dst = false := fun _ _ => hother
  simp only [rxCount] at hmode' hsrc' hdst' hother' hnew
  simp [ringFrame, hfcs, hsrc', hmode', hseq, hkind, hnew, hdst', forwardFrame, rxCount, hother']

/-- In HSR mode a transparent clock forwards an event message with its residence time (R377). -/
theorem ringFrame_transparent {s : State} {b : Bool} {f : RingFrame} {r : BitVec 32} (hfcs : f.fcsOk = true) (hsrc : f.src ≠ s.otp.mac)
    (hmode : cfgBit s lNET 0x100 0 = false) (hkind : f.kind = .ptp true r) (hother : toNode s f.dst = false)
    (halive : alive s lPTP = true) (hrole : cfg s lPTP 0x114 1 0 = 2) :
    ringFrame s b f = { netCount s (rxCount b) with out := s.out ++ [.ptpForward (b2n (!b)) f.bytes r.toNat] } := by
  have hmode' := (cfgBit_rxCount s b).trans hmode
  have hsrc' : f.src ≠ (netCount s (rxCount b)).otp.mac := hsrc
  simp only [toNode, Bool.or_eq_false_iff, decide_eq_false_iff_not] at hother
  obtain ⟨hdst, hgroup⟩ := hother
  have hgroup' : f.dst[40] = false := hgroup
  have hdst' : f.dst ≠ (netCount s (rxCount b)).otp.mac := hdst
  have halive' : alive (netCount s (rxCount b)) lPTP = true := halive
  have hrole' : cfg (netCount s (rxCount b)) lPTP 0x114 1 0 = 2 := by
    cases b <;> exact (congrArg (fld · 1 0) (rget_countUp_other (by decide) 0 32)).trans hrole
  simp only [rxCount] at hmode' hsrc' hdst' halive' hrole'
  cases hseq : f.seq <;> simp [ringFrame, hfcs, hsrc', hmode', hseq, hkind, hdst', forwardFrame, toNode, hgroup', rxCount, halive', hrole']

/-- A frame of a ring port whose link is up. -/
theorem ringFrame_taken {s : State} {p : Fin 3} {f : RingFrame} (hon : netOn s = true)
    (hlink : (p = 0 ∧ s.net.linkA = true) ∨ (p = 1 ∧ s.net.linkB = true)) :
    (if !netOn s then s
     else if p = 2 then (if s.net.svcUp then svcFrame s f else s)
     else if (if p = 1 then s.net.linkB else s.net.linkA) then ringFrame s (decide (p = 1)) f else s) = ringFrame s (decide (p = 1)) f := by
  rcases hlink with ⟨rfl, hup⟩ | ⟨rfl, hup⟩
  · exact (if_neg (by simp [hon])).trans ((if_neg (by decide)).trans (if_pos hup))
  · exact (if_neg (by simp [hon])).trans ((if_neg (by decide)).trans (if_pos hup))

/-- Settles O27, command by command. -/
theorem networkCommandsComplete : Obligations.NetworkCommandsComplete := by
  unfold Obligations.NetworkCommandsComplete
  refine ⟨fun s hon hdown => ?_, fun s hon hdown => ?_, fun s hon hup => ?_, fun s hon hup => ?_, fun s up hon hnew => ?_,
    fun s b hworks hlen hversion hcount => congrArg done (nvRx_single hworks hlen hversion hcount), fun s v hon hdir hfresh => ?_,
    fun s c v x howns hfree hdir => ?_, fun s c v x howns hnamed => done_ownerWrite howns (if_pos hnamed),
    fun s hon hfrozen hdegraded hduty => exec_nvMessageSend_duty hon hfrozen hdegraded hduty, fun s f hon hup hfcs hmode => ?_,
    fun s f hon hup hfcs hmode => ?_, fun s f m hon hup hfcs hsrc hmode hseq hkind hnode hvlan => ?_,
    fun s f q e hon hup hfcs hsrc hmode hseq hkind hold => ?_, fun s f q hon hup hfcs hsrc hmode hseq hkind hnew hother => ?_,
    fun s f r hon hup hfcs hsrc hmode hkind hother halive hrole => ?_, fun s f hon hup hfcs hvid hdst hkind hserved => ?_,
    fun s hon => congrArg done (if_pos hon), fun s hon => congrArg done (if_pos hon), fun s p hon hunit habsent => ?_,
    fun s p hon hunit hpresent => ?_, fun s c v howns hgo hon => ?_, fun s m hon hrun hsleep hwake hmask => ?_⟩
  · exact congrArg done (if_pos (by simp [hon, hdown]))
  · exact congrArg done (if_pos (by simp [hon, hdown]))
  · exact congrArg done (if_pos (by simp [hon, hup]))
  · exact congrArg done (if_pos (by simp [hon, hup]))
  · exact congrArg done (if_pos (by simp [hon, hnew]))
  · exact congrArg done (if_pos (by simp [hon, hdir, hfresh]))
  · exact done_ownerWrite howns ((if_neg (by simp [hfree])).trans (if_pos hdir))
  · exact congrArg done ((ringFrame_taken hon (.inl ⟨rfl, hup⟩)).trans (ringFrame_badFcs (b := false) hfcs hmode))
  · exact congrArg done ((ringFrame_taken hon (.inr ⟨rfl, hup⟩)).trans (ringFrame_badFcs (b := true) hfcs hmode))
  · exact congrArg done ((ringFrame_taken hon (.inl ⟨rfl, hup⟩)).trans (ringFrame_alarm (b := false) hfcs hsrc hmode hseq hkind hnode hvlan))
  · exact congrArg done ((ringFrame_taken hon (.inr ⟨rfl, hup⟩)).trans (ringFrame_duplicate (b := true) hfcs hsrc hmode hseq hkind hold))
  · exact congrArg done ((ringFrame_taken hon (.inl ⟨rfl, hup⟩)).trans (ringFrame_onward (b := false) hfcs hsrc hmode hseq hkind hnew hother))
  · exact congrArg done ((ringFrame_taken hon (.inr ⟨rfl, hup⟩)).trans
      (ringFrame_transparent (b := true) hfcs hsrc hmode hkind hother halive hrole))
  · refine congrArg done ((if_neg (by simp [hon])).trans ((if_pos rfl).trans ((if_pos hup).trans ((if_neg ?_).trans ?_))))
    · simp [hfcs, hvid, hdst]
    · rw [hkind]
      exact if_pos hserved
  · refine congrArg done ((if_neg (by rw [hon, habsent]; decide)).trans (raiseIf_true hunit _ _ _))
  · refine congrArg done ((if_neg (by rw [hon, hpresent]; decide)).trans (raiseIf_true hunit _ _ _))
  · exact done_ownerWrite howns (if_pos (by simp [hgo, hon]))
  · exact congrArg done (if_pos (by simp [hon, asleepNow, hrun, hsleep, hwake, hmask]))

end Sys2Proof.Machine
end

section
/-! PROOFS. CAN, serial ports, SPI expansion and PMBus (R389 to R395, R414, R415). -/
namespace Sys2Proof.Machine

/-- A link that runs works, and its ports are not stopped (R396). -/
theorem linkRuns_iff (s : State) (u : Nat) : linkRuns s u = true ↔ works s u = true ∧ portsStopped s = false := by
  simp [linkRuns]

theorem raise_sends (s : State) (o : Out) (u i : Nat) :
    { raise s u i with out := (raise s u i).out ++ [o] } = raise { s with out := s.out ++ [o] } u i := rfl
theorem setQueue_out (s : State) (n : Nat) (v : Queue) : (setQueue s n v).out = s.out := rfl

/-! ### CAN -/

theorem exec_canFrameRx_frozen {s : State} {n : Fin 6} {f : CanFrame} (hlen : f.data.length = canDataLen f) (halive : alive s (lCAN n.val) = true)
    (hfrozen : (hdr s (lCAN n.val)).frozen = true) (hruns : portsStopped s = false) (hst : (canSt s n.val).st ≠ 2#2)
    (hloop : cfgBit s (lCAN n.val) 0x100 2 = false) :
    exec (.canFrameRx n f) s = .next (settle (raise (countUp s (lCAN n.val) 0x114 0 32) (lCAN n.val) 3)) :=
  (if_neg (not_not_intro hlen)).trans (congrArg done ((if_neg (by simp [hruns, hst, hloop])).trans (if_pos (by simp [halive, hfrozen]))))

/-- REC after a frame while it is not above 127: one less. -/
theorem recAfter_low {s : State} {rec : Nat} (h : rec ≤ 127) : recAfter s rec = (s, rec - 1) := if_neg (by omega)

theorem exec_canFrameRx_runs {s : State} {n : Fin 6} {f : CanFrame} (hlen : f.data.length = canDataLen f)
    (hruns : linkRuns s (lCAN n.val) = true) (hform : f.fdf = false ∨ cfgBit s (lCAN n.val) 0x100 0 = true) (hst : (canSt s n.val).st ≠ 2#2)
    (hloop : cfgBit s (lCAN n.val) 0x100 2 = false) (hrec : (canSt s n.val).rx + f.errors.toNat ≤ 127) :
    exec (.canFrameRx n f) s = .next (settle (canReceive
      (canCounts (busErrors s n.val f.errors.toNat) n.val (canSt s n.val).tec ((canSt s n.val).rx + f.errors.toNat - 1)) n.val f
      (time64 (busErrors s n.val f.errors.toNat) - f.ago.setWidth 64))) := by
  obtain ⟨hworks, hstopped⟩ := (linkRuns_iff s _).mp hruns
  have hfd : (f.fdf && !cfgBit s (lCAN n.val) 0x100 0) = false := by rcases hform with h | h <;> simp [h]
  refine (if_neg (not_not_intro hlen)).trans (congrArg done ((if_neg (by simp [hstopped, hst, hloop])).trans
    ((if_neg (by simp [frozen_of_works hworks])).trans ((if_neg (by simp [hworks])).trans ((if_neg (ne_true_of_eq_false hfd)).trans ?_)))))
  dsimp only
  rw [recAfter_low hrec]

theorem exec_canFrameTxDone_sends {s : State} {n : Fin 6} {e : Byte} {ago : BitVec 32} {r : QRun} (hruns : linkRuns s (lCAN n.val) = true)
    (hst : (canSt s n.val).st ≠ 2#2) (hlisten : cfgBit s (lCAN n.val) 0x100 1 = false) (hloop : cfgBit s (lCAN n.val) 0x100 2 = false)
    (htx : txRun s (cfgBit s (lCAN n.val) 0x100 23) (cfg s (lCAN n.val) 0x100 21 16) n.val = some r) :
    let t := canCounts (busErrors s n.val e.toNat) n.val ((canSt s n.val).tec + 8 * e.toNat - 1) (canSt s n.val).rx
    let q := cfg s (lCAN n.val) 0x100 21 16
    exec (.canFrameTxDone n e ago) s = .next (settle (raise
      { setQueue t q { queue t q with run := some { r with res := some (time64 s - ago.setWidth 64) } } with
        out := t.out ++ [.linkFrame n.val r.buf] } (lCAN n.val) 1)) := by
  intro t q
  have hlisten' : bit (reg s (lCAN n.val) 0x100) 1 = false := hlisten
  have htx' : txRun s (bit (reg s (lCAN n.val) 0x100) 23) (fld (reg s (lCAN n.val) 0x100) 21 16) n.val = some r := htx
  refine congrArg done ((if_neg (by simp [hruns, hst, hlisten'])).trans ?_)
  rw [htx']
  refine (if_neg (ne_true_of_eq_false hloop)).trans ((raise_sends _ _ _ _).trans ?_)
  rw [setQueue_out]
  rfl

/-! ### Serial ports -/

/-- A whole sentence with a right checksum, and nothing after it (R392). -/
theorem serChars_whole {s : State} {k n : Nat} {c : Byte} {r l : List Byte} {d : DWord} (hstart : isStart c = true)
    (hscan : scanSentence [c] 1 r = some (l, .whole, [])) (hcheck : sentCheck l = (true, true)) :
    serChars k false false (n + 1) s d (c :: r) = serDeliver (countUp (serLine (setReg s (lSER k) 0x11C
      (BitVec.ofNat 32 (min (reg s (lSER k) 0x11C).toNat 0xFFFFFFFF))) k false) (lSER k) 0x114 0 32) k (sentRecord l 3 d) d := by
  have hjunk : (c :: r).takeWhile (fun b => !isStart b) = [] := by simp [hstart]
  simp only [serChars, hjunk, List.length_nil, List.drop_zero, Nat.add_zero, hscan, List.isEmpty_nil, if_true, serDeliverSentence, hcheck,
    Bool.not_true, Bool.and_false, Bool.false_eq_true, if_false, Bool.or_false]
  rfl

theorem exec_serTxDone_sends {s : State} {n : Fin 6} {ago : BitVec 32} {r : QRun} (hruns : linkRuns s (lSER n.val) = true)
    (htx : txRun s (cfgBit s (lSER n.val) 0x10C 7) (cfg s (lSER n.val) 0x10C 5 0) (8 + n.val) = some r) :
    let q := cfg s (lSER n.val) 0x10C 5 0
    let t := setQueue s q { queue s q with run := some { r with res := some (time64 s - ago.setWidth 64) } }
    exec (.serTxDone n ago) s = .next (settle (raise { t with out := s.out ++ [.linkFrame (8 + n.val) (serBytes t n.val r.buf)] } (lSER n.val) 1)) := by
  intro q t
  have htx' : txRun s (bit (reg s (lSER n.val) 0x10C) 7) (fld (reg s (lSER n.val) 0x10C) 5 0) (8 + n.val) = some r := htx
  refine congrArg done ((if_neg (by simp [hruns])).trans ?_)
  rw [htx']
  rfl

/-- Settles O28, command by command. -/
theorem fieldLinkCommandsComplete : Obligations.FieldLinkCommandsComplete := by
  unfold Obligations.FieldLinkCommandsComplete
  refine ⟨fun s n f hlen halive hfrozen hruns hst hloop => exec_canFrameRx_frozen hlen halive hfrozen hruns hst hloop,
    fun s n f hlen hruns hform hst hloop hrec => exec_canFrameRx_runs hlen hruns hform hst hloop hrec,
    fun s n e ago r hruns hst hlisten hloop htx => exec_canFrameTxDone_sends hruns hst hlisten hloop htx, fun s n hruns hst => ?_,
    fun s n hruns hst hmay => ?_, fun s c n howns hst => done_ownerWrite howns (if_pos hst),
    fun s c n howns hst => done_ownerWrite howns (if_neg hst), fun s n b e ago hsome hlen hhears => ?_,
    fun s n c r l ago hhears hstart hscan hcheck => ?_, fun s n ago r hruns htx => exec_serTxDone_sends hruns htx,
    fun s q rx r hrun hlen => ?_, fun s q rx r p hrun hlen hpec => ?_, fun s q rx r p hrun => ⟨?_, ?_⟩, fun s b => rfl⟩
  · exact congrArg done (if_pos (by simp [hruns, hst]))
  · have hmay' : (cfgBit s (lCAN n.val) 0x100 3 || (canSt s n.val).restart) = true := by rcases hmay with h | h <;> simp [h]
    exact congrArg done (if_pos (by rw [hruns, hst, hmay']; rfl))
  · exact (if_neg (by simp [hsome, Nat.not_lt.mpr hlen])).trans (congrArg done (if_pos hhears))
  · exact congrArg done ((if_pos hhears).trans (serChars_whole hstart hscan hcheck))
  · simp only [exec, execSpiTransferDone, hrun]
    exact congrArg done (if_pos hlen)
  · have hpass : (((r.buf.getD 3 0#8).getLsbD 0 || cfgBit s lNET 0x164 2) && !p) = false := by
      rcases hpec with ⟨h3, hcfg⟩ | h
      · rw [h3, hcfg]; rfl
      · simp [h]
    simp only [exec, execPmbTransactionDone, hrun]
    exact congrArg done ((if_neg (by exact ne_true_of_eq_false hpass)).trans (if_pos hlen))
  · simp only [exec, execPmbTransactionDone, hrun]
    exact congrArg done (if_pos rfl)
  · simp only [exec, execPmbTimeout, hrun]
    rfl

end Sys2Proof.Machine
end

section
/-! PROOFS. The starts of the block tests (R458, R459). -/
namespace Sys2Proof.Machine

/-- The header of a page whose test has begun. -/
def testing (s : State) (u sel : Nat) : State :=
  setHdr s u { hdr s u with tRun := true, tDone := false, tPass := false, tSel := BitVec.ofNat 8 sel, tKind := BitVec.ofNat 8 sel }

/-- A test that its page names begins where its condition holds and none runs. -/
theorem testRun_begins {s : State} {c : Ctx} {u sel : Nat} (hnamed : testNamed u sel = true) (hallowed : testAllowed s u sel = true)
    (hidle : (hdr s u).tRun = false) : testRun s c u sel = testBegin s u sel :=
  if_pos (by simp [hnamed, hallowed, hidle])
theorem testRun_busy {s : State} {c : Ctx} {u sel : Nat} (hbusy : (hdr s u).tRun = true) : testRun s c u sel = capture s u c true 0x9 0x30 :=
  if_neg (by simp [hbusy])

/-! ### The condition of a test, by its kind -/

theorem testAllowed_live {s : State} {u sel : Nat} (hlive : testFrozen u sel = false) (hfree : testService u = false) (hpair : u ≠ lROPE)
    (hworks : works s u = true) : testAllowed s u sel = true := by
  simp [testAllowed, hlive, hfree, hworks, hpair]
theorem testAllowed_frozen {s : State} {u sel : Nat} (hkind : testFrozen u sel = true) (halive : alive s u = true)
    (hfrozen : (hdr s u).frozen = true) : testAllowed s u sel = true := by
  simp [testAllowed, hkind, halive, hfrozen]
theorem testAllowed_service {s : State} {u sel : Nat} (hlive : testFrozen u sel = false) (hkind : testService u = true) (hworks : works s u = true)
    (hstate : s.pwr.lcState = 3#3) : testAllowed s u sel = true := by
  simp [testAllowed, hlive, hkind, hworks, inService, hstate]
theorem testAllowed_fence {s : State} (hworks : works s lROPE = true) (hpair : cfgBit s lROPE 0x100 0 = true) : testAllowed s lROPE 1 = true := by
  have hlive : testFrozen lROPE 1 = false := by decide
  have hfree : testService lROPE = false := by decide
  simp [testAllowed, hlive, hfree, hworks, hpair]

theorem testBegin_plain {s : State} {u sel : Nat} (hbist : u ≠ lBIST) (hgal : u ≠ lGAL) (hrope : u ≠ lROPE) :
    testBegin s u sel = testing s u sel :=
  (if_neg hbist).trans ((if_neg hgal).trans (if_neg hrope))

theorem testBegin_gal (s : State) (sel : Nat) : testBegin s lGAL sel = descClear (testing s lGAL sel) := rfl
theorem testBegin_bist (s : State) (sel : Nat) : testBegin s lBIST sel = sweepStart (testing s lBIST sel) := rfl
theorem testBegin_rope (s : State) (sel : Nat) : testBegin s lROPE sel = { testing s lROPE sel with out := s.out ++ [.fence 200] } := rfl

/-- A live test of a page that does nothing else at its start. -/
theorem done_test1_live {s : State} {c : Ctx} {u : Nat} (howns : owns s c u = true) (hidle : (hdr s u).tRun = false) (hworks : works s u = true)
    (hnamed : testNamed u 1 = true) (hlive : testFrozen u 1 = false) (hfree : testService u = false) (hrope : u ≠ lROPE) (hbist : u ≠ lBIST)
    (hgal : u ≠ lGAL) : done (test1 s c u) = .next (settle (testing s u 1)) :=
  done_ownerWrite howns ((testRun_begins hnamed (testAllowed_live hlive hfree hrope hworks) hidle).trans (testBegin_plain hbist hgal hrope))

theorem done_test1_busy {s : State} {c : Ctx} {u : Nat} (howns : owns s c u = true) (hbusy : (hdr s u).tRun = true) :
    done (test1 s c u) = .next (settle (capture s u c true 0x9 0x30)) := done_ownerWrite howns (testRun_busy hbusy)

/-! ### The Chambers -/

theorem lCHMB_tests (k : BitVec 3) : 5 ≤ lCHMB k.toNat ∧ lCHMB k.toNat ≤ 12 := by
  have hk := k.isLt
  simp only [lCHMB]
  omega

theorem testBegin_chmb (s : State) (k : BitVec 3) (sel : Nat) : testBegin s (lCHMB k.toNat) sel = testing s (lCHMB k.toNat) sel := by
  obtain ⟨hlo, hhi⟩ := lCHMB_tests k
  exact testBegin_plain (by simp only [lBIST]; omega) (by simp only [lGAL]; omega) (by simp only [lROPE]; omega)

theorem testNamed_chmb (k : BitVec 3) : testNamed (lCHMB k.toNat) 1 = true ∧ testNamed (lCHMB k.toNat) 2 = true := by
  obtain ⟨hlo, hhi⟩ := lCHMB_tests k
  constructor
  · simp [testNamed, hlo, show lCHMB k.toNat ≤ 23 by omega]
  · simp [testNamed, hlo, hhi]

theorem testFrozen_chmb (k : BitVec 3) : testFrozen (lCHMB k.toNat) 1 = false ∧ testFrozen (lCHMB k.toNat) 2 = true := by
  obtain ⟨hlo, hhi⟩ := lCHMB_tests k
  constructor
  · simp [testFrozen, show lCHMB k.toNat ≠ lSSNS by simp only [lSSNS]; omega]
  · simp [testFrozen, hlo, hhi]

theorem testService_chmb (k : BitVec 3) : testService (lCHMB k.toNat) = false := by
  obtain ⟨hlo, hhi⟩ := lCHMB_tests k
  simp [testService, show lCHMB k.toNat ≠ lBIST by simp only [lBIST]; omega, show lCHMB k.toNat ≠ lNET by simp only [lNET]; omega]

theorem exec_chmbRefCheck_begins {s : State} {c : Ctx} {k : BitVec 3} (howns : owns s c (lCHMB k.toNat) = true)
    (hidle : (hdr s (lCHMB k.toNat)).tRun = false) (hworks : works s (lCHMB k.toNat) = true) :
    exec (.chmbRefCheck c k) s = .next (settle (testing s (lCHMB k.toNat) 1)) := by
  obtain ⟨hlo, hhi⟩ := lCHMB_tests k
  have hrope : lCHMB k.toNat ≠ lROPE := by simp only [lROPE]; omega
  exact done_ownerWrite howns ((testRun_begins (testNamed_chmb k).1
    (testAllowed_live (testFrozen_chmb k).1 (testService_chmb k) hrope hworks) hidle).trans (testBegin_chmb s k 1))

theorem exec_chmbSrcCheck_begins {s : State} {c : Ctx} {k : BitVec 3} (howns : owns s c (lCHMB k.toNat) = true)
    (hidle : (hdr s (lCHMB k.toNat)).tRun = false) (halive : alive s (lCHMB k.toNat) = true) (hfrozen : (hdr s (lCHMB k.toNat)).frozen = true) :
    exec (.chmbSrcCheck c k) s = .next (settle (testing s (lCHMB k.toNat) 2)) :=
  done_ownerWrite howns ((testRun_begins (testNamed_chmb k).2 (testAllowed_frozen (testFrozen_chmb k).2 halive hfrozen) hidle).trans
    (testBegin_chmb s k 2))

/-- Settles O29: a test begins by its kind, and a page whose test runs turns another away. -/
theorem blockTestStartsComplete : Obligations.BlockTestStartsComplete := by
  unfold Obligations.BlockTestStartsComplete
  refine ⟨fun s c k howns hidle hworks => exec_chmbRefCheck_begins howns hidle hworks,
    fun s c k howns hidle halive hfrozen => exec_chmbSrcCheck_begins howns hidle halive hfrozen, fun s c howns hidle halive hfrozen => ?_,
    fun s c howns hidle hworks => ?_, fun s c howns hidle hworks => ?_, fun s c howns hidle hworks => ?_, fun s c howns hidle hworks => ?_,
    fun s c howns hidle hworks => ?_, fun s c howns hidle hworks => ?_, fun s c howns hidle hworks => ?_, fun s c howns hidle hworks => ?_,
    fun s c howns hidle hworks hstate => ?_, fun s c howns hidle hworks hstate => ?_, fun s c howns hidle hworks hpair => ?_,
    fun s c i u howns hi hbusy => ?_⟩
  · exact done_ownerWrite howns ((testRun_begins (by decide) (testAllowed_frozen (by decide) halive hfrozen) hidle).trans
      (testBegin_plain (by decide) (by decide) (by decide)))
  · exact done_test1_live howns hidle hworks (by decide) (by decide) (by decide) (by decide) (by decide) (by decide)
  · exact done_ownerWrite howns ((testRun_begins (by decide) (testAllowed_live (by decide) (by decide) (by decide) hworks) hidle).trans
      (testBegin_gal s 1))
  · exact done_test1_live howns hidle hworks (by decide) (by decide) (by decide) (by decide) (by decide) (by decide)
  · exact done_test1_live howns hidle hworks (by decide) (by decide) (by decide) (by decide) (by decide) (by decide)
  · exact done_test1_live howns hidle hworks (by decide) (by decide) (by decide) (by decide) (by decide) (by decide)
  · exact done_test1_live howns hidle hworks (by decide) (by decide) (by decide) (by decide) (by decide) (by decide)
  · exact done_test1_live howns hidle hworks (by decide) (by decide) (by decide) (by decide) (by decide) (by decide)
  · exact done_test1_live howns hidle hworks (by decide) (by decide) (by decide) (by decide) (by decide) (by decide)
  · exact done_ownerWrite howns ((testRun_begins (by decide) (testAllowed_service (by decide) (by decide) hworks hstate) hidle).trans
      (testBegin_bist s 1))
  · exact done_ownerWrite howns ((testRun_begins (by decide) (testAllowed_service (by decide) (by decide) hworks hstate) hidle).trans
      (testBegin_plain (by decide) (by decide) (by decide)))
  · exact done_ownerWrite howns ((testRun_begins (by decide) (testAllowed_fence hworks hpair) hidle).trans
      (testBegin_rope s 1))
  · have hrun : exec i s = done (test1 s c u) := by
      simp only [List.mem_cons, Prod.mk.injEq, List.not_mem_nil, or_false] at hi
      rcases hi with ⟨rfl, rfl⟩ | ⟨rfl, rfl⟩ | ⟨rfl, rfl⟩ | ⟨rfl, rfl⟩ | ⟨rfl, rfl⟩ | ⟨rfl, rfl⟩ | ⟨rfl, rfl⟩ | ⟨rfl, rfl⟩ | ⟨rfl, rfl⟩ |
        ⟨rfl, rfl⟩ | ⟨rfl, rfl⟩ | ⟨rfl, rfl⟩ <;> rfl
    exact hrun.trans (done_test1_busy howns hbusy)

end Sys2Proof.Machine
end

section
/-! PROOFS. The ends of block tests and injections, and the debugger (R405, R458 to R461, R466, R467). -/
namespace Sys2Proof.Machine

/-- A test that may end ends with its verdict (R458, R460). -/
theorem exec_blockTestDone_ends {s : State} {u : BitVec 6} {k : Nat} {p : Bool} (hu : u.toNat = k) (hpage : k < 45)
    (hrun : (hdr s k).tRun = true) (halive : alive s k = true) (hmay : (hdr s k).freeze = false ∨ testFrozen k (hdr s k).tKind.toNat = true) :
    exec (.blockTestDone u p) s = .next (settle (testEnd (testVerdict s k p).1 k true (testVerdict s k p).2)) := by
  subst hu
  refine congrArg done (if_neg ?_)
  rintro (hbad | hbad | hbad | ⟨hfreeze, hlive⟩)
  · omega
  · simp [hrun] at hbad
  · simp [halive] at hbad
  · rcases hmay with h | h
    · exact absurd (h.symm.trans hfreeze) (by decide)
    · rw [h] at hlive
      exact absurd hlive (by decide)

theorem testVerdict_found {s : State} {u : Nat} {p : Bool} (hgal : u ≠ lGAL) (hgrp : u ≠ lGRP) (hecho : u ≠ lECHO) (hlant : u ≠ lLANT)
    (hbist : u ≠ lBIST) (hrope : u ≠ lROPE) : testVerdict s u p = (s, p) := by
  simp only [testVerdict, hgal, hgrp, hecho, hlant, hbist, hrope, if_false]
theorem testVerdict_rope (s : State) (p : Bool) : testVerdict s lROPE p = (s, cbit s.rope.peerFlags 4) := rfl
theorem testVerdict_gal (s : State) (p : Bool) : testVerdict s lGAL p = (descReport s, !(descReport s).gal.descBad) := rfl
theorem testVerdict_grp (s : State) (p : Bool) : testVerdict s lGRP p = (graphCheck s, !(graphCheck s).grp.chkBad && !(graphCheck s).grp.edgeBad) := rfl

/-- What the end of a test leaves: the header of its page, and FAIL_MAP (R458). -/
theorem testEnd_complete {s : State} {u : Nat} {p : Bool} (hrun : (hdr s u).tRun = true) (hbist : u ≠ lBIST) :
    testEnd s u true p = { setHdr s u { hdr s u with tRun := false, tDone := true, tPass := p, tKind := 0#8 } with
      test := { s.test with failMap := if p then s.test.failMap &&& ~~~BitVec.ofNat 64 (2 ^ u) else s.test.failMap ||| BitVec.ofNat 64 (2 ^ u) } } := by
  refine (if_neg (by simp [hrun])).trans ?_
  simp only [hbist, if_false, Bool.not_true, Bool.false_eq_true, Bool.true_and]
  rfl

/-- The frame of a test's end. -/
theorem testEnd_frame {s : State} {u : Nat} {p : Bool} (hrun : (hdr s u).tRun = true) (hbist : u ≠ lBIST) :
    hdr (settle (testEnd s u true p)) u = { hdr s u with tRun := false, tDone := true, tPass := p, tKind := 0#8 } ∧
    { testEnd s u true p with hdr := s.hdr, test := { (testEnd s u true p).test with failMap := s.test.failMap } } = s := by
  rw [testEnd_complete hrun hbist]
  exact ⟨hdr_setHdr s u _, rfl⟩

/-- Settles O30, event by event. -/
theorem serviceEventsComplete : Obligations.ServiceEventsComplete := by
  unfold Obligations.ServiceEventsComplete
  refine ⟨fun s u p hpage hrun halive hmay hgal hgrp hecho hlant hbist hrope => ?_, fun s p hrun hworks hfreeze => ?_,
    fun s p hrun halive hfreeze => ?_, fun s p hrun halive hfreeze => ?_, fun s hinj => congrArg done (if_pos hinj), fun s app hstate hon => ?_,
    fun s hattached hallowed hon => ⟨?_, ?_⟩, fun s => rfl⟩
  · refine ⟨testEnd s u.toNat true p, ?_, (testEnd_frame hrun hbist).1, ?_, (testEnd_frame hrun hbist).2⟩
    · rw [exec_blockTestDone_ends rfl hpage hrun halive hmay, testVerdict_found hgal hgrp hecho hlant hbist hrope]
    · rw [testEnd_complete hrun hbist]
  · exact ⟨testEnd s lROPE true (cbit s.rope.peerFlags 4),
      exec_blockTestDone_ends (u := 43#6) rfl (by decide) hrun (alive_of_works hworks) (.inl hfreeze),
      (testEnd_frame hrun (by decide)).1, (testEnd_frame hrun (by decide)).2⟩
  · rw [exec_blockTestDone_ends (k := lGAL) rfl (by decide) hrun halive (.inl hfreeze), testVerdict_gal]
  · rw [exec_blockTestDone_ends (k := lGRP) rfl (by decide) hrun halive (.inl hfreeze), testVerdict_grp]
  · have hallowed : debugAllowed s app = true := by
      rcases hstate with h | ⟨rfl, h | h⟩ <;> simp [debugAllowed, h]
    exact congrArg done (if_pos (by simp [hallowed, hon]))
  · exact congrArg done ((if_pos (by simp [hattached, hallowed, hon])).trans (if_pos rfl))
  · exact congrArg done ((if_pos (by simp [hattached, hallowed, hon])).trans (if_neg (by decide)))

end Sys2Proof.Machine
end

section
/-! PROOFS. The link of a redundant pair (R442 to R447, R452, R457). -/
namespace Sys2Proof.Machine

/-! ### Heartbeats -/

theorem tryStandby_notCatchup {s : State} (h : s.rope.role ≠ 2#3) : tryStandby s = s := if_neg (by simp [h])

/-- The partner as a heartbeat tells it. -/
def heard (s : State) (h : Heartbeat) : State :=
  { s with rope := { s.rope with
    miss := 0, peerLost := false, linkFault := false, peerRole := BitVec.ofNat 3 h.role.toNat, peerFlags := h.flags, peerAck := h.ack } }

theorem exec_ropeHeartbeatRx_other {s : State} {h : Heartbeat} (hon : ropeOn s = true) (hlost : s.rope.peerLost = false) (h4 : h.role ≠ 4#8)
    (h5 : h.role ≠ 5#8) : exec (.ropeHeartbeatRx true h) s = .next (settle (hbRole (heard s h) h.role.toNat h.flags.toNat)) := by
  have hduty : (decide (h.role = 5#8) || decide (h.role = 4#8)) = false := by simp [h4, h5]
  refine congrArg done ((if_neg (by simp [hon])).trans ((if_neg (by decide)).trans ?_))
  rw [hlost, hduty]
  rfl

/-- The partner as the duty's heartbeat tells it: EVT_SEQ too (R443). -/
def heardDuty (s : State) (h : Heartbeat) : State := { heard s h with rope := { (heard s h).rope with evtSeq := h.evtSeq } }

theorem exec_ropeHeartbeatRx_duty {s : State} {h : Heartbeat} (hon : ropeOn s = true) (hlost : s.rope.peerLost = false) (h5 : h.role = 5#8)
    (hstandby : standby s = true) :
    exec (.ropeHeartbeatRx true h) s =
      .next (settle (hbRole { heardDuty s h with grp := { s.grp with session := h.session } } h.role.toNat h.flags.toNat)) := by
  have hstandby' : standby (heardDuty s h) = true := hstandby
  have hduty : (decide (h.role = 5#8) || decide (h.role = 4#8)) = true := by simp [h5]
  refine congrArg done ((if_neg (by simp [hon])).trans ((if_neg (by decide)).trans ?_))
  rw [hlost, hduty]
  exact congrArg (hbRole · h.role.toNat h.flags.toNat) (if_pos hstandby')

/-! ### Missed heartbeats -/

/-- The counters after a missed interval. -/
def missed (s : State) : State :=
  countUp { s with rope := { s.rope with miss := min (s.rope.miss + 1) 3, hbMiss := satW s.rope.hbMiss 1 } } lROPE 0x10C 0 32

/-- The partner is lost. -/
def peerGone (s : State) : State :=
  { s with rope := { s.rope with
    peerLost := decide (s.rope.peerRole ≠ 7#3), peerRole := 7#3, peerFlags := 0#8, handover := false, snapSent := false, snap := [] } }

theorem missed_rope (s : State) : (missed s).rope = { s.rope with miss := min (s.rope.miss + 1) 3, hbMiss := satW s.rope.hbMiss 1 } := rfl

theorem exec_ropeHbMiss_early {s : State} (hon : ropeOn s = true) (hmiss : s.rope.miss < 2) : exec .ropeHbMiss s = .next (settle (missed s)) :=
  congrArg done ((if_neg (by simp [hon])).trans (if_pos (.inl (show min (s.rope.miss + 1) 3 < 3 by omega))))

/-- The role machine at the loss of the partner: a takeover with fence, or the loss told (R446). -/
def roleAtLoss (s : State) (known : Bool) : State :=
  match s.rope.role.toNat with
  | 2 => takeover s true
  | 3 => takeover s true
  | 5 => raiseIf known s lROPE 1
  | _ => s

theorem roleAtLoss_takeover {s : State} (h : s.rope.role = 2#3 ∨ s.rope.role = 3#3) (known : Bool) : roleAtLoss s known = takeover s true := by
  rcases h with h | h <;> simp [roleAtLoss, h]
theorem roleAtLoss_duty {s : State} (h : s.rope.role = 5#3) (known : Bool) : roleAtLoss s known = raiseIf known s lROPE 1 := by
  simp [roleAtLoss, h]

theorem exec_ropeHbMiss_third {s : State} (hon : ropeOn s = true) (hmiss : s.rope.miss = 2) (hlost : s.rope.peerLost = false) :
    exec .ropeHbMiss s = .next (settle (roleAtLoss (peerGone (missed s)) (decide (s.rope.peerRole ≠ 7#3)))) := by
  have hthird : ¬((missed s).rope.miss < 3 ∨ (missed s).rope.peerLost = true) := by
    rw [missed_rope]
    simp [hmiss, hlost]
  exact congrArg done ((if_neg (by simp [hon])).trans (if_neg hthird))

theorem missed_third {s : State} (hmiss : s.rope.miss = 2) :
    missed s = countUp { s with rope := { s.rope with miss := 3, hbMiss := satW s.rope.hbMiss 1 } } lROPE 0x10C 0 32 := by
  rw [missed, hmiss]
  rfl

theorem peerGone_known {s : State} (h : s.rope.peerRole ≠ 7#3) : peerGone s = { s with rope := { s.rope with
    peerLost := true, peerRole := 7#3, peerFlags := 0#8, handover := false, snapSent := false, snap := [] } } := by
  simp [peerGone, h]
theorem peerGone_unknown {s : State} (hrole : s.rope.peerRole = 7#3) (hlost : s.rope.peerLost = false) : peerGone s = { s with rope := { s.rope with
    peerFlags := 0#8, handover := false, snapSent := false, snap := [] } } := by
  simp [peerGone, hrole, hlost]

/-! ### Commands -/

theorem handoverCmd_accepts {s : State} (hworks : works s lROPE = true) (hon : ropeOn s = true) (hrole : s.rope.role = 5#3)
    (hpeer : s.rope.peerRole = 3#3) (hhealth : peerHealthOk s = true) :
    handoverCmd s = { s with rope := { s.rope with refused := false, handover := true } } :=
  (if_neg (by simp [hworks])).trans (if_pos (by simp [hon, hrole, hpeer, hhealth]))
theorem handoverCmd_refuses {s : State} (hworks : works s lROPE = true) (hrole : s.rope.role ≠ 5#3) :
    handoverCmd s = { s with rope := { s.rope with refused := true } } :=
  (if_neg (by simp [hworks])).trans (if_neg (by simp [hrole]))

theorem pulseFence_out {s : State} (h : s.pwr.degraded = false) (ns : Nat) : pulseFence s ns = { s with out := s.out ++ [.fence ns] } :=
  if_neg (ne_true_of_eq_false h)

theorem fenceCmd_pulses {s : State} (hworks : works s lROPE = true) (hon : ropeOn s = true) (hdegraded : s.pwr.degraded = false) :
    fenceCmd s 0#3 = { s with rope := { s.rope with refused := false }, out := s.out ++ [.fence 50000] } := by
  have hon' : ropeOn { s with rope := { s.rope with refused := false } } = true := hon
  exact (if_neg (by decide)).trans ((if_neg (by simp [hworks])).trans ((if_pos rfl).trans ((if_pos hon').trans (pulseFence_out (by exact hdegraded) 50000))))

theorem resyncCmd_accepts {s : State} (hworks : works s lROPE = true) (hon : ropeOn s = true) (hrole : s.rope.role = 3#3) :
    resyncCmd s = raise { s with rope := { s.rope with refused := false, snapOn := false, copied := false, role := 2#3 } } lROPE 0 := by
  have hrole' : s.rope.role ≠ 2#3 := by rw [hrole]; decide
  exact (if_neg (by simp [hworks])).trans ((if_pos (by simp [hon, hrole])).trans (if_neg hrole'))

/-- Settles O31, command by command. -/
theorem pairLinkCommandsComplete : Obligations.PairLinkCommandsComplete := by
  unfold Obligations.PairLinkCommandsComplete
  refine ⟨fun s hon hset hrole => ?_, fun s h hon hlost h4 h5 => exec_ropeHeartbeatRx_other hon hlost h4 h5,
    fun s h hon hlost h5 hstandby => ?_, fun s h hon => ?_, fun s hon hmiss => ?_, fun s hon hmiss hlost hpeer hrole => ?_,
    fun s hon hmiss hlost hpeer hrole => ?_, fun s hon hmiss hlost hpeer hrole => ?_, fun s hon hrole hseen hmember => ?_,
    fun s hon hrole hseen hmember hdegraded => ?_, fun s hon hrole hseen hmember => ?_, fun s hon hrole => ?_, fun s hon hdegraded => ?_,
    fun s hon => congrArg done (if_pos hon), fun s halive => ⟨congrArg done (if_pos halive), congrArg done (if_pos halive)⟩,
    fun s c howns hworks hon hrole hpeer hhealth => done_ownerWrite howns (handoverCmd_accepts hworks hon hrole hpeer hhealth),
    fun s c howns hworks hrole => done_ownerWrite howns (handoverCmd_refuses hworks hrole),
    fun s howns hworks hon hdegraded => done_ownerWrite howns (fenceCmd_pulses hworks hon hdegraded),
    fun s c howns hother => done_ownerWrite howns (if_pos hother),
    fun s c howns hworks hon hrole => done_ownerWrite howns (resyncCmd_accepts hworks hon hrole)⟩
  · refine congrArg done ((if_pos hon).trans ?_)
    rw [hset, tryStandby_notCatchup (by rw [hrole]; decide), sendHeartbeat, hrole]
    rfl
  · rw [exec_ropeHeartbeatRx_duty hon hlost h5 hstandby, heardDuty, heard, h5]
    rfl
  · exact congrArg done ((if_neg (by simp [hon])).trans (if_pos rfl))
  · rw [exec_ropeHbMiss_early hon hmiss, missed, Nat.min_eq_left (by omega)]
  · intro t
    have ht : missed s = t := missed_third hmiss
    rw [exec_ropeHbMiss_third hon hmiss hlost, roleAtLoss_takeover (s := peerGone (missed s)) hrole, ht, peerGone_known (s := t) hpeer]
  · intro t
    have ht : missed s = t := missed_third hmiss
    rw [exec_ropeHbMiss_third hon hmiss hlost, roleAtLoss_takeover (s := peerGone (missed s)) hrole, ht,
      peerGone_unknown (s := t) hpeer hlost]
  · intro t
    have ht : missed s = t := missed_third hmiss
    rw [exec_ropeHbMiss_third hon hmiss hlost, roleAtLoss_duty (s := peerGone (missed s)) hrole, ht, peerGone_known (s := t) hpeer,
      raiseIf_true (decide_eq_true hpeer)]
  · exact congrArg done ((if_neg (by simp [hon, hrole])).trans ((if_neg (by simp [hseen])).trans (by simp [hmember])))
  · refine congrArg done ((if_neg (by simp [hon, hrole])).trans ((if_neg (by simp [hseen])).trans ?_))
    rw [if_pos hmember, pulseFence_out hdegraded]
  · exact congrArg done ((if_neg (by simp [hon, hrole])).trans ((if_pos hseen).trans (if_pos hmember)))
  · exact congrArg done (if_pos (by simp [hon, hrole]))
  · exact congrArg done ((if_pos hon).trans (pulseFence_out hdegraded 200))

end Sys2Proof.Machine
end

section
/-! PROOFS. Mirroring, shadow checks, health reports and self-tests of a pair (R444, R449, R451, R453 to R455). -/
namespace Sys2Proof.Machine

theorem standby_of_role {s : State} (h : s.rope.role = 2#3 ∨ s.rope.role = 3#3) : standby s = true := by
  rcases h with h | h <;> simp [standby, h]

/-! ### Mirror frames -/

theorem exec_ropeMirrorSend_copy {s : State} (hon : ropeOn s = true) (hrole : s.rope.role = 5#3) (hkeys : takeFit 252 s.rope.snap ≠ []) :
    exec .ropeMirrorSend s = .next (settle (sendMirror { s with rope := { s.rope with
      snap := s.rope.snap.drop (takeFit 252 s.rope.snap).length } } true (takeFit 252 s.rope.snap))) :=
  congrArg done ((if_neg (by simp [hon, hrole])).trans (if_pos (by simp [hkeys])))

theorem exec_ropeMirrorSend_due {s : State} (hon : ropeOn s = true) (hrole : s.rope.role = 5#3) (hsnap : s.rope.snap = [])
    (hkeys : takeFit 252 (mirDueKeys s) ≠ []) : exec .ropeMirrorSend s = .next (settle (sendMirror s false (takeFit 252 (mirDueKeys s)))) := by
  have hnone : takeFit 252 s.rope.snap = [] := by rw [hsnap]; rfl
  exact congrArg done ((if_neg (by simp [hon, hrole])).trans ((if_neg (by simp [hnone])).trans (if_neg (by simpa using hkeys))))

theorem exec_ropeMirrorResend_held {s : State} {f : MirFrame} {r : List MirFrame} (hon : ropeOn s = true) (hrole : s.rope.role = 5#3)
    (hback : s.rope.peerAck ≠ s.rope.mseq) (hframes : s.rope.frames = f :: r) (hnext : f.mseq = s.rope.peerAck + 1#32) :
    exec .ropeMirrorResend s = .next (settle { s with out := s.out ++ (f :: r).map Out.mirror }) := by
  have hheld : s.rope.frames.dropWhile (fun f => decide (f.mseq ≠ s.rope.peerAck + 1#32)) = f :: r := by simp [hframes, hnext]
  refine congrArg done ((if_neg (by simp [hon, hrole, hback])).trans ?_)
  rw [hheld]
  rfl

theorem exec_ropeMirrorResend_gone {s : State} (hon : ropeOn s = true) (hrole : s.rope.role = 5#3) (hback : s.rope.peerAck ≠ s.rope.mseq)
    (hframes : s.rope.frames = []) (hmatch : cfgMatch s = true) : exec .ropeMirrorResend s = .next (settle (startCopy s)) := by
  refine congrArg done ((if_neg (by simp [hon, hrole, hback])).trans ?_)
  rw [hframes]
  exact if_pos hmatch

/-! ### Shadow checks -/

/-- The next enabled channel from `c` on, where `c` itself is enabled. -/
theorem nextShadow_self {p : Nat → Bool} {c : Nat} (hc : c < 270) (hp : p c = true) :
    (((List.range 270).filter p).filter (fun k => decide (c ≤ k)) ++ (List.range 270).filter p).head? = some c := by
  have hfirst : (((List.range 270).filter p).filter (fun k => decide (c ≤ k))).head? = some c := by
    rw [List.filter_filter, List.head?_filter, List.find?_range_eq_some]
    refine ⟨by simp [hp], List.mem_range.mpr hc, fun j hj => ?_⟩
    simp [Nat.not_le.mpr hj]
  rw [List.head?_append, hfirst]
  rfl

theorem exec_ropeShadowSend_next {s : State} {c : Nat} {m : ShadowMsg} (hon : ropeOn s = true) (hrole : s.rope.role = 5#3)
    (hch : s.rope.shadowCh = c) (hc : c < 270) (hen : bit (chReg s 0x180 c) 0 = true) (hshadow : (chan s c).shadow = some m) :
    exec .ropeShadowSend s = .next (settle { s with rope := { s.rope with shadowCh := c + 1 }, out := s.out ++ [.shadow m] }) := by
  have hnext : (((List.range 270).filter (fun c => bit (chReg s 0x180 c) 0)).filter (fun c => decide (s.rope.shadowCh ≤ c)) ++
      (List.range 270).filter (fun c => bit (chReg s 0x180 c) 0)).head? = some c := by
    rw [hch]
    exact nextShadow_self (p := fun c => bit (chReg s 0x180 c) 0) hc hen
  have hshadow' : ∀ r : Rope, (chan { s with rope := r } c).shadow = some m := fun _ => hshadow
  refine congrArg done ((if_neg (by simp [hon, hrole])).trans ?_)
  dsimp only
  rw [hnext]
  dsimp only
  rw [hshadow']

/-- Whether the standby's own stages 2 to 4 give another value or quality than a shadow message holds. -/
def shadowDiffers (s : State) (m : ShadowMsg) : Bool :=
  decide ((linearise s m.x.ch (stage2 s m.x.ch m.raw m.trim) f32Zero).1 ≠ m.value) ||
  decide (stage4Qual s m.x.ch m.x (stage2 s m.x.ch m.raw m.trim) (linearise s m.x.ch (stage2 s m.x.ch m.raw m.trim) f32Zero).1
    (linearise s m.x.ch (stage2 s m.x.ch m.raw m.trim) f32Zero).2 ≠ m.qual.toNat)

/-- A shadow message of a channel that takes no value of another sample is compared (R451). -/
theorem exec_ropeShadowRx_compared {s : State} {m : ShadowMsg} (hon : ropeOn s = true) (hworks : works s lROPE = true) (hstandby : standby s = true)
    (hmatch : cfgMatch s = true) (hratio : fld (chReg s 0x18C m.x.ch) 24 16 = 511) (hcomp : fld (chReg s 0x18C m.x.ch) 8 0 = 511)
    (hswap : bit (chReg s 0x180 m.x.ch) 5 = false) :
    exec (.ropeShadowRx true m) s = .next (settle (if shadowDiffers s m then
      raise (countUp { s with rope := { s.rope with
        shadowCnt := satW s.rope.shadowCnt 1, shadowMis := satW s.rope.shadowMis 1, misAt := some s.now } } lROPE 0x114 0 32) lROPE 4
      else { s with rope := { s.rope with shadowCnt := satW s.rope.shadowCnt 1 } })) := by
  have hlinked : (decide (fld (chReg s 0x18C m.x.ch) 24 16 ≠ 511) || decide (fld (chReg s 0x18C m.x.ch) 8 0 ≠ 511) ||
      bit (chReg s 0x180 m.x.ch) 5) = false := by simp [hratio, hcomp, hswap]
  refine congrArg done ((if_neg (by simp [hon])).trans ((if_neg (by decide)).trans ((if_neg (by simp [hstandby, hmatch, hworks])).trans ?_)))
  dsimp only
  rw [hlinked]
  rfl

/-- Settles O32, command by command. -/
theorem mirrorCommandsComplete : Obligations.MirrorCommandsComplete := by
  unfold Obligations.MirrorCommandsComplete
  refine ⟨fun s hon hrole hkeys => exec_ropeMirrorSend_copy hon hrole hkeys,
    fun s hon hrole hsnap hkeys => exec_ropeMirrorSend_due hon hrole hsnap hkeys,
    fun s f r hon hrole hback hframes hnext => exec_ropeMirrorResend_held hon hrole hback hframes hnext,
    fun s hon hrole hback hframes hmatch => exec_ropeMirrorResend_gone hon hrole hback hframes hmatch,
    fun s m l hon hrole hmatch hnext => ?_, fun s m l hon hrole hmatch hgap => ?_, fun s m l hon hrole hmatch => ?_,
    fun s m l hon hrole hmatch hsnap hcopied hnext => ?_,
    fun s c m hon hrole hch hc hen hshadow => exec_ropeShadowSend_next hon hrole hch hc hen hshadow,
    fun s m hon hworks hstandby hmatch hratio hcomp hswap hvalue hqual => ?_,
    fun s m hon hworks hstandby hmatch hratio hcomp hswap hvalue => ?_, fun s hon => congrArg done (if_neg (by simp [hon])),
    fun s b hon hlen hversion hcrc => ?_, fun s n p hon hworks hstandby => congrArg done (if_neg (by simp [hon, hworks, hstandby])),
    fun s hon hworks hstandby => ⟨congrArg done (if_neg (by simp [hon, hworks, hstandby])), ?_⟩,
    fun s a b hon hworks hstandby => congrArg done (if_neg (by simp [hon, hworks, hstandby]))⟩
  · exact congrArg done ((if_neg (by simp [hon])).trans ((if_neg (by decide)).trans
      (if_neg (by simp [standby_of_role (.inr hrole), hmatch, hnext, hrole]))))
  · exact congrArg done ((if_neg (by simp [hon])).trans ((if_neg (by decide)).trans (if_pos (by simp [hgap]))))
  · have hrole' : s.rope.role ≠ 2#3 := by rw [hrole]; decide
    refine congrArg done ((if_neg (by simp [hon])).trans ((if_neg (by decide)).trans
      ((if_neg (by simp [standby_of_role (.inr hrole), hmatch])).trans ((if_neg (by simp [hrole'])).trans ?_))))
    rw [setRole, if_neg hrole']
  · exact congrArg done ((if_neg (by simp [hon])).trans ((if_neg (by decide)).trans
      ((if_neg (by simp [standby_of_role (.inl hrole), hmatch])).trans ((if_pos (by simp [hrole, hsnap, hcopied])).trans (if_pos hnext)))))
  · have hsame : shadowDiffers s m = false := by
      simp only [shadowDiffers, hvalue, hqual, ne_eq, not_true_eq_false, decide_false, Bool.or_self]
    rw [exec_ropeShadowRx_compared hon hworks hstandby hmatch hratio hcomp hswap, hsame]
    rfl
  · have hdiffers : shadowDiffers s m = true := by simp [shadowDiffers, hvalue]
    rw [exec_ropeShadowRx_compared hon hworks hstandby hmatch hratio hcomp hswap, hdiffers]
    rfl
  · exact congrArg done ((if_neg (by simp [hon])).trans ((if_neg (by decide)).trans (if_neg (by simp only [hlen, hversion, hcrc, ne_eq, not_true_eq_false, or_self, not_false_eq_true]))))
  · exact congrArg done (if_neg (by simp [hon, hworks, hstandby]))

end Sys2Proof.Machine
end

section
/-! PROOFS. APPLY, its boundary and LIVE mode (R68, R80 to R84). -/
namespace Sys2Proof.Machine

/-- A write of APPLY by the owner, as a step. -/
theorem applyRow_owns {s t : State} {c : Ctx} {u : BitVec 8} {key : Nat} (hu : unitOk u.toNat = true) (howns : owns s c u.toNat = true)
    (hk : applyWrite s c u.toNat key = t) : applyRow s c u key = .next (settle t) :=
  (applyRow_wf hu s c key).trans (congrArg done ((ownerWrite_owns howns _ _).trans hk))

theorem applyWrite_live {s : State} {u : Nat} (h : liveOn s u = true) (c : Ctx) (key : Nat) : applyWrite s c u key = s := if_pos h

theorem toNat_ne_of_ne {n : Nat} {a b : BitVec n} (h : a ≠ b) : a.toNat ≠ b.toNat := fun heq => h (BitVec.eq_of_toNat_eq heq)

theorem exec_applyBadKey_owns {s t : State} {c : Ctx} {u k : BitVec 8} (hu : unitOk u.toNat = true) (howns : owns s c u.toNat = true)
    (hcommit : k ≠ 0xA5#8) (hdiscard : k ≠ 0x5A#8) (hk : applyWrite s c u.toNat k.toNat = t) : exec (.applyBadKey c u k) s = .next (settle t) :=
  (if_neg (by simp [hcommit, hdiscard])).trans (applyRow_owns hu howns hk)

/-! ### Boundaries -/

theorem boundary_waiting {s : State} {u : Nat} (h : (hdr s u).pend.isSome = true) : boundary s u =
    if decide (5 ≤ u) && decide (u ≤ 12) then chmBoundary s (u - 5)
    else if u = lSSNS then ssnsBoundary s
    else if decide (64 ≤ u) && decide (u < 128) then slotTake s (u - 64)
    else applied (takeEffect s u).1 s u (takeEffect s u).2 :=
  if_neg (by rw [Option.isSome_iff_ne_none] at h; simpa using h)

/-- The boundary of a powered unit other than field I/O. -/
theorem exec_applyBoundary_powered {s t : State} {u : BitVec 8} (hu : unitOk u.toNat = true) (hpresent : present s u.toNat = true)
    (hon : unitOn s u.toNat = true) (hfio : u.toNat ≠ lFIO) (ht : boundary s u.toNat = t) :
    exec (.applyBoundary u) s = .next (settle t) :=
  (if_pos hu).trans (congrArg done ((if_neg (by simp [hpresent, hon])).trans ((if_neg (by simp [hfio])).trans ht)))

/-- Every unit but the panels' is present in both variants (R4). -/
theorem present_other {u : Nat} (hlant : u ≠ lLANT) (hbist : u ≠ lBIST) (s : State) : present s u = true := by
  simp [present, hlant, hbist]

/-! ### LIVE mode -/

/-- A write of a bit of BLK_CTRL by the owner. -/
theorem ctrlRow_owns {s t : State} {c : Ctx} {u : BitVec 6} (hu : u.toNat ≤ 44) (howns : owns s c u.toNat = true) {k : State → State}
    (hk : k s = t) : ctrlRow s c u k = .next (settle t) :=
  (if_pos hu).trans (done_ownerWrite howns hk)

theorem liveMay_of_clear {s : State} {u : Nat} (h : ∀ x ∈ unitsOf u, stagedOf s x = [] ∧ pendingSet s x = false) : liveMay s u = true := by
  refine List.all_eq_true.mpr fun x hx => ?_
  obtain ⟨hstaged, hpending⟩ := h x hx
  simp [hstaged, hpending]
theorem liveMay_of_waiting {s : State} {u x : Nat} (hx : x ∈ unitsOf u) (h : stagedOf s x ≠ [] ∨ pendingSet s x = true) : liveMay s u = false := by
  refine List.all_eq_false.mpr ⟨x, hx, ?_⟩
  rcases h with h | h <;> simp [h]

/-- Settles O33, command by command. -/
theorem applyCommandsComplete : Obligations.ApplyCommandsComplete := by
  unfold Obligations.ApplyCommandsComplete
  refine ⟨fun s c u hu howns hlive hgrot hpass => applyRow_owns hu howns (applyWrite_passes hlive hgrot hpass c),
    fun s c u k hu howns hlive hgrot hfail => applyRow_owns hu howns (applyWrite_rejects hlive hgrot hfail c),
    fun s c u hu howns hlive => applyRow_owns hu howns (applyWrite_live hlive c _), fun s c u hu howns hlive => ?_,
    fun s c u k hu howns hcommit hdiscard => ⟨fun hlive => ?_, fun hlive => ?_⟩,
    fun s u hu hpresent hon hpend hfio hssns hchmb hslot => ?_, fun s u hlo hhi hon hpend => ?_, fun s u hlo hhi hon hpend => ?_,
    fun s hon hpend => ?_, fun s c u hu howns hlive hclear => ?_, fun s c u x hu howns hlive hx hwaits => ?_,
    fun s c u hu howns hlive => ⟨ctrlRow_owns hu howns (if_pos hlive), ctrlRow_owns hu howns (if_pos hlive)⟩⟩
  · exact applyRow_owns hu howns ((if_neg (ne_true_of_eq_false hlive)).trans ((if_neg (by decide)).trans (if_pos rfl)))
  · exact exec_applyBadKey_owns hu howns hcommit hdiscard ((if_neg (ne_true_of_eq_false hlive)).trans
      ((if_neg (toNat_ne_of_ne hcommit)).trans (if_neg (toNat_ne_of_ne hdiscard))))
  · exact exec_applyBadKey_owns hu howns hcommit hdiscard (applyWrite_live hlive c _)
  · exact exec_applyBoundary_powered hu hpresent hon hfio ((boundary_waiting hpend).trans
      ((if_neg (by simpa using hchmb)).trans ((if_neg hssns).trans (if_neg (by simpa using hslot)))))
  · have hpage : u.toNat = lCHMB (u.toNat - 5) := by simp only [lCHMB]; omega
    have hpend' : (hdr s (lCHMB (u.toNat - 5))).pend.isSome = true := by rw [← hpage]; exact hpend
    refine exec_applyBoundary_powered (by simp [unitOk]; omega) (present_other (by simp only [lLANT]; omega) (by simp only [lBIST]; omega) s) hon
      (by simp only [lFIO]; omega) ((boundary_waiting hpend).trans ((if_pos (by simp [hlo, hhi])).trans ((if_pos hpend').trans ?_)))
    rw [← hpage]
  · exact exec_applyBoundary_powered (by simp [unitOk]; omega) (present_other (by simp only [lLANT]; omega) (by simp only [lBIST]; omega) s) hon
      (by simp only [lFIO]; omega) ((boundary_waiting hpend).trans
        ((if_neg (by simp; omega)).trans ((if_neg (by simp only [lSSNS]; omega)).trans (if_pos (by simp [hlo, hhi])))))
  · have hunit : (BitVec.ofNat 8 lSSNS).toNat = lSSNS := rfl
    refine exec_applyBoundary_powered (by decide) (by rw [hunit]; exact present_other (by decide) (by decide) s) (by rw [hunit]; exact hon)
      (by decide) ?_
    rw [hunit]
    exact (boundary_waiting hpend).trans ((if_neg (by decide)).trans (if_pos rfl))
  · exact ctrlRow_owns hu howns ((if_neg (ne_true_of_eq_false hlive)).trans (if_pos (liveMay_of_clear hclear)))
  · exact ctrlRow_owns hu howns ((if_neg (ne_true_of_eq_false hlive)).trans (if_neg (by simp [liveMay_of_waiting hx hwaits])))

end Sys2Proof.Machine
end

section
/-! PROOFS. The soft reset of the PTP page (R69, R89). -/
namespace Sys2Proof.Machine

/-- Clearing CFG_SKEW moves headers alone. -/
theorem skewClear_ptp (s : State) (u : Nat) : (skewClear s u).ptp = s.ptp := by
  refine List.foldlRecOn (motive := fun t : State => t.ptp = s.ptp) _ _ rfl fun t ht x _ => ?_
  split
  · exact ht
  · exact ht

/-- What `resetBlock` itself leaves of the PTP clock keeps the level of PPS_IN. -/
theorem resetBlock_ppsIn (s : State) : (resetBlock s lPTP).ptp.ppsIn = s.ptp.ppsIn := rfl

/-- A soft reset of the PTP page leaves the level of PPS_IN, which is the pin's, on record. -/
theorem softReset_ppsIn {s : State} {c : Ctx} (hfrozen : (hdr s lPTP).frozen = true) (hidle : (hdr s lPTP).tRun = false) :
    (softReset s c lPTP).ptp.ppsIn = s.ptp.ppsIn := by
  have htest : testEnd s lPTP false false = s := if_pos (by simp [hidle])
  rw [softReset, if_neg (by simp [hfrozen]), htest]
  dsimp only
  rw [if_pos rfl]
  dsimp only [setHdr]
  rw [skewClear_ptp]
  exact resetBlock_ppsIn s

/-- A frozen PTP page, its reference pulse high, in the hands of CTX_0. -/
def ppsHigh : State :=
  { pwr := { doms := BitVec.allOnes _ }, hdr := [(lPTP, { frozen := true })], ptp := { ppsIn := true } }

/-- Refutes O34: a soft reset of the PTP page leaves the level of PPS_IN on record, where the clause of SOFT_RESET has it cleared. -/
theorem not_blockControlCommandsComplete : ¬ Obligations.BlockControlCommandsComplete := by
  unfold Obligations.BlockControlCommandsComplete
  rintro ⟨-, -, -, -, -, -, hreset, -⟩
  have howns : owns ppsHigh 0#3 lPTP = true := by decide
  obtain ⟨t, hexec, hptp, -⟩ := hreset ppsHigh 0#3 howns (by decide) (by decide)
  have hstep : exec (.softReset 0#3 (BitVec.ofNat 6 lPTP)) ppsHigh = .next (settle (softReset ppsHigh 0#3 lPTP)) :=
    ctrlRow_owns (u := BitVec.ofNat 6 lPTP) (k := fun s => softReset s 0#3 lPTP) (by decide) howns rfl
  rw [hstep] at hexec
  have hlevel : (settle (softReset ppsHigh 0#3 lPTP)).ptp.ppsIn = (settle t).ptp.ppsIn :=
    congrArg (fun t : State => t.ptp.ppsIn) (Host.Outcome.next.inj hexec)
  rw [settle_ptp, settle_ptp, softReset_ppsIn (by decide) (by decide), hptp] at hlevel
  exact absurd hlevel (by decide)

end Sys2Proof.Machine
end

section
/-! PROOFS. Writes of a page in LIVE mode (R83): what the checks of a set read of the headers, and a write that passes them. -/
namespace Sys2Proof.Machine

/-! ### What a check reads of the headers -/

/-- Other headers under which the checks of a set stand as they did: the same units are enabled and frozen, with the same owners. -/
def SameGuards (s : State) (l : Tbl Hdr) : Prop :=
  ∀ x, (hdr { s with hdr := l } x).en = (hdr s x).en ∧ (hdr { s with hdr := l } x).frozen = (hdr s x).frozen ∧
    (hdr { s with hdr := l } x).owner = (hdr s x).owner

section
variable {s t : State} {l m : Tbl Hdr} (hs : SameGuards s l)
include hs

theorem chkPtp_hdr : chkPtp { s with hdr := l } { t with hdr := m } = chkPtp s t := by
  rw [chkPtp, (hs lPTP).1]
  rfl
theorem chkGrp_hdr : chkGrp { s with hdr := l } { t with hdr := m } = chkGrp s t := by
  rw [chkGrp, (hs lGRP).1, (hs lGRP).2.1]
  rfl
theorem chkNet_hdr : chkNet { s with hdr := l } { t with hdr := m } = chkNet s t := by
  rw [chkNet, (hs lNET).1]
  rfl
theorem chkCan_hdr (n : Nat) : chkCan { s with hdr := l } { t with hdr := m } n = chkCan s t n := by
  simp only [chkCan, (hs (lCAN n)).1]
  rfl
theorem chkSer_hdr (n : Nat) : chkSer { s with hdr := l } { t with hdr := m } n = chkSer s t n := by
  simp only [chkSer, (hs (lSER n)).1]
  rfl
theorem chkRope_hdr : chkRope { s with hdr := l } { t with hdr := m } = chkRope s t := by
  rw [chkRope, (hs lROPE).1]
  rfl
theorem qOwner_hdr (n : Nat) : qOwner { s with hdr := l } n = qOwner s n := (hs (uQUEUE n)).2.2
theorem chkDma_hdr : chkDma { s with hdr := l } = chkDma s := by
  simp only [chkDma, qOwner_hdr hs]
  rfl
theorem chkQueue_hdr (n : Nat) : chkQueue { s with hdr := l } { t with hdr := m } n = chkQueue s t n := by
  have hevent (c : Ctx) : eventQueue { s with hdr := l } c = eventQueue s c := by
    simp only [eventQueue, qOwner_hdr hs]
    rfl
  simp only [chkQueue, qOwner_hdr hs, hevent]
  rfl

/-- The checks of a set read of the headers what guards them alone; every page not named reads the registers alone. -/
theorem checks_hdr (ht : SameGuards t m) (u : Nat) : checks { s with hdr := l } { t with hdr := m } u = checks s t u := by
  simp only [checks, chkPtp_hdr hs, chkGrp_hdr hs, chkNet_hdr hs, chkCan_hdr hs, chkSer_hdr hs, chkRope_hdr hs, chkQueue_hdr hs,
    chkDma_hdr ht]
  rfl
end

/-- A header that differs in neither EN, FROZEN nor the owner guards alike. -/
theorem sameGuards_setHdr {s : State} {u : Nat} {h : Hdr} (hen : h.en = (hdr s u).en) (hfrozen : h.frozen = (hdr s u).frozen)
    (howner : h.owner = (hdr s u).owner) : SameGuards s (setHdr s u h).hdr := by
  intro x
  change (hdr (setHdr s u h) x).en = _ ∧ (hdr (setHdr s u h) x).frozen = _ ∧ (hdr (setHdr s u h) x).owner = _
  rcases eq_or_ne x u with rfl | hx
  · rw [hdr_setHdr]
    exact ⟨hen, hfrozen, howner⟩
  · rw [hdr_setHdr_other _ _ _ _ hx]
    exact ⟨rfl, rfl, rfl⟩

/-! ### A write that passes its checks -/

theorem maskMerge_zero (old new : Word) : maskMerge 0#32 old new = old := by
  rw [maskMerge, BitVec.and_zero, BitVec.or_zero]
  exact BitVec.and_allOnes

/-- The state once a value of a LIVE page has passed the checks of its own: it is staged, and no rejection stands. -/
def liveKept (s : State) (u k : Nat) (v : Word) : State :=
  setHdr (stage s k v) u { hdr s u with reject := false, reason := 0#8, rejOff := 0#12 }

/-- The state with the value of a register's RWS bits in use. -/
def inUse (s : State) (k : Nat) (v : Word) : State := rset s k (maskMerge (rwsOfKey k) (rget s k) v)

section
variable {s : State} {u k : Nat} {v : Word} (hstg : s.stg = []) (hunit : keyUnit k = u) (hv : v ≠ rget s k &&& rwsOfKey k)
include hstg

theorem stg_stage_sole : (stage s k v).stg = [(k, some v)] := by
  simp [stage, hstg, tset, tput]

theorem stagedAt_liveKept : stagedAt (liveKept s u k v) k = v := by
  have hkept : (liveKept s u k v).stg = [(k, some v)] := stg_stage_sole hstg
  simp [stagedAt, hkept, tget]

include hunit hv
theorem stagedOf_stage_sole : stagedOf (stage s k v) u = [(k, v)] := by
  rw [stagedOf, stg_stage_sole hstg]
  exact List.filterMap_cons_some (if_pos ⟨hunit, hv⟩)

theorem stagedOf_liveKept : stagedOf (liveKept s u k v) u = [(k, v)] := stagedOf_stage_sole hstg hunit hv

/-- The one value is the whole set: the state that the checks look at has it in use. -/
theorem withStaged_sole : withStaged (stage s k v) u = inUse (stage s k v) k v := by
  rw [withStaged, stagedOf_stage_sole hstg hunit hv]
  rfl
theorem withStaged_liveKept : withStaged (liveKept s u k v) u = inUse (liveKept s u k v) k v := by
  rw [withStaged, stagedOf_liveKept hstg hunit hv]
  rfl

variable (hok : ∀ x ∈ checks (stage s k v) (withStaged (stage s k v) u) u, x.bad = false)
include hok

/-- The set passes on a header without a rejection as well. -/
theorem checks_liveKept : ∀ x ∈ checks (liveKept s u k v) (inUse (liveKept s u k v) k v) u, x.bad = false := by
  rw [withStaged_sole hstg hunit hv] at hok
  have hguards : SameGuards (stage s k v) (liveKept s u k v).hdr := sameGuards_setHdr rfl rfl rfl
  have hsame : checks (liveKept s u k v) (inUse (liveKept s u k v) k v) u = checks (stage s k v) (inUse (stage s k v) k v) u :=
    checks_hdr (t := inUse (stage s k v) k v) hguards hguards u
  rwa [hsame]

/-- A value that passes is used as it is: no pair holds it back. -/
theorem liveUse_liveKept (n : Nat) : liveUse (liveKept s u k v) u (n + 1) [(k, v)] = [(k, v)] := by
  have hpairs : (checks (liveKept s u k v) (inUse (liveKept s u k v) k v) u).filter (fun c => c.pair && c.bad) = [] :=
    List.filter_eq_nil_iff.mpr fun x hx => by simp [checks_liveKept hstg hunit hv hok x hx]
  rw [liveUse]
  refine if_pos ?_
  exact List.isEmpty_iff.mpr hpairs

variable (hpend : (hdr s u).pend = none)
include hpend

/-- A write of a LIVE page that passes every check waits for the boundary by itself. -/
theorem liveWrite_sole : liveWrite s u k v = settlePend (setHdr (stage s k v) u { hdr s u with
    reject := false, reason := 0#8, rejOff := 0#12, skew := false, pend := some [(k, v)], livePend := true }) u := by
  have hsingle : (checks (stage s k v) (withStaged (stage s k v) u) u).filter
      (fun c => !c.pair && c.bad && c.fields.any (fun f => decide (f.1 = k))) = [] :=
    List.filter_eq_nil_iff.mpr fun x hx => by simp [hok x hx]
  have hpairs : (checks (liveKept s u k v) (inUse (liveKept s u k v) k v) u).any (fun c => c.pair && c.bad) = false :=
    List.any_eq_false.mpr fun x hx => by simp [checks_liveKept hstg hunit hv hok x hx]
  have hhdr : hdr (liveKept s u k v) u = { hdr s u with reject := false, reason := 0#8, rejOff := 0#12 } := hdr_setHdr _ _ _
  have hkept : setHdr (stage s k (maskMerge 0#32 v (stagedAt s k))) u
      { hdr (stage s k (maskMerge 0#32 v (stagedAt s k))) u with reject := false, reason := 0#8, rejOff := 0#12 } = liveKept s u k v := by
    rw [maskMerge_zero]
    rfl
  have hdiffers : v ≠ rget (liveKept s u k v) k &&& rwsOfKey k := hv
  simp only [liveWrite, hsingle]
  rw [show chkMask [] k = 0#32 from rfl, show firstFail [] = none from rfl]
  simp only [hkept, stagedOf_liveKept hstg hunit hv, withStaged_liveKept hstg hunit hv, hpairs]
  have hwhole (h : Hdr) : setHdr (liveKept s u k v) u h = setHdr (stage s k v) u h := setHdr_setHdr _ _ _ _
  simp [hhdr, hpend, stagedAt_liveKept hstg, liveUse_liveKept hstg hunit hv hok, hdiffers, hwhole]
end

end Sys2Proof.Machine
end

section
/-! PROOFS. Register accesses by address, and what each register does with them (R9, R10, R65 to R67, R71, R79). -/
namespace Sys2Proof.Machine

/-! ### Where an access leads -/

section
variable {s : State} {c : Ctx} {a : Nat} {p : Place} (hlo : 0x40000000 ≤ a) (hhi : a < 0x40120000)
  (hp : placeOf (a - 0x40000000) = some p) (hreach : reaches s c p.unit = true)
include hlo hhi hp hreach

/-- A write of an allowed width goes to the register that the address names. -/
theorem busWrite_word (halign : a % 4 = 0) (hav : p.av = false) (v : DWord) :
    busWrite s c a false v = writeWord s c p.unit p.off (BitVec.ofNat 32 v.toNat) := by
  rw [busWrite, busPlace_reaches hlo hhi hp hreach]
  simp [widthOk, halign, hav]
theorem busWrite_wide (hwidth : widthOk p a true = true) (hav : p.av = false) (v : DWord) :
    busWrite s c a true v = writeWide s c p.unit p.off v := by
  rw [busWrite, busPlace_reaches hlo hhi hp hreach]
  simp [hwidth, hav]

/-- The active view takes no write: the owner's does nothing, any other context's is captured. -/
theorem busWrite_activeView (halign : a % 4 = 0) (hav : p.av = true) (v : DWord) :
    busWrite s c a false v = if (hdr s p.unit).owner = c then s else capture s (pageOf p.unit) c true 0x1 (a % 0x1000) := by
  rw [busWrite, busPlace_reaches hlo hhi hp hreach]
  simp [widthOk, halign, hav]

/-- A read goes to the register as well, of the state that answers 0 until it is given a value. -/
theorem busRead_word (halign : a % 4 = 0) (hmay : mayRead s c p = true) (hav : p.av = false) :
    busRead s c a false = readWord { s with rdata := 0#64 } c p.unit p.off := by
  have hmay0 : mayRead { s with rdata := 0#64 } c p = true := hmay
  rw [busRead, busPlace_reaches hlo hhi hp (s := { s with rdata := 0#64 }) hreach]
  simp [widthOk, halign, hav, hmay0]
theorem busRead_activeView (halign : a % 4 = 0) (hmay : mayRead s c p = true) (hav : p.av = true) :
    busRead s c a false = readPlain { s with rdata := 0#64 } p.unit p.off true := by
  have hmay0 : mayRead { s with rdata := 0#64 } c p = true := hmay
  rw [busRead, busPlace_reaches hlo hhi hp (s := { s with rdata := 0#64 }) hreach]
  simp [widthOk, halign, hav, hmay0]
theorem busRead_wide (hwidth : widthOk p a true = true) (hmay : mayRead s c p = true) (htime : p.unit ≠ lPTP ∨ p.off ≠ 0x100) :
    busRead s c a true = readWide { s with rdata := 0#64 } c p.unit p.off p.av := by
  have hmay0 : mayRead { s with rdata := 0#64 } c p = true := hmay
  have hother : ¬(p.unit = lPTP ∧ p.off = 0x100) := not_and_or.mpr htime
  rw [busRead, busPlace_reaches hlo hhi hp (s := { s with rdata := 0#64 }) hreach]
  simp [hwidth, hmay0, hother]

/-- A read that READ_MASK does not allow answers 0 and is captured. -/
theorem busRead_masked (halign : a % 4 = 0) (hmay : mayRead s c p = false) :
    busRead s c a false = capture { s with rdata := 0#64 } (pageOf p.unit) c false 0x2 (a % 0x1000) := by
  have hmay0 : mayRead { s with rdata := 0#64 } c p = false := hmay
  rw [busRead, busPlace_reaches hlo hhi hp (s := { s with rdata := 0#64 }) hreach]
  simp [widthOk, halign, hmay0]
end

/-- A write on a path that is closed does nothing. -/
theorem busWrite_closed {s : State} {c : Ctx} (hpath : pathOk s c = false) (a : Nat) (wide : Bool) (v : DWord) :
    busWrite s c a wide v = s := by
  have hretired (p : Place) : retiredRead s c p.unit p.off true = false := by simp [retiredRead]
  rw [busWrite, busPlace]
  refine if_pos ?_
  cases hplace : (if decide (0x40000000 ≤ a) && decide (a < 0x40120000) then placeOf (a - 0x40000000) else none) with
  | none => simp [hpath]
  | some p => simp [hpath, hretired]

/-! ### What a register does with a write -/

section
variable {s : State} {c : Ctx} {u o : Nat} {v : Word} (hhdr : inHdr u o = false)
include hhdr

theorem writeWord_special {t : State} (h : specialWrite s c u o v = some t) : writeWord s c u o v = t := by
  simp [writeWord, hhdr, h]
theorem writeWord_plain (h : specialWrite s c u o v = none) :
    writeWord s c u o v = ownerWrite s c u o (fun s => plainWrite s u o v) := by
  simp [writeWord, hhdr, h]
end

/-- The context that owns a unit it reaches is its owner. -/
theorem owns_of_reaches {s : State} {c : Ctx} {u : Nat} (hreach : reaches s c u = true) (howner : (hdr s u).owner = c) : owns s c u = true := by
  simp [owns, hreach, howner]

/-- A write without an effect of its own stages, stores and clears the bits that take it. -/
theorem plainWrite_reg {s : State} {u o k : Nat} {d : RegDef} (hreg : regAt u o = some d) (hkey : viewKey s u o = some k) (v : Word) :
    plainWrite s u o v =
      let w := v &&& BitVec.ofNat 32 d.rws
      let s1 := if d.rws = 0 then s else if liveOn s u then liveWrite s u k w else stage s k w
      let s2 := if d.rw = 0 then s1 else rset s1 k (maskMerge (BitVec.ofNat 32 d.rw) (rget s1 k) v)
      let s3 := if d.w1c = 0 then s2 else rset s2 k (rget s2 k &&& ~~~(v &&& BitVec.ofNat 32 d.w1c))
      if u = lGAL ∧ 0x400 ≤ o then dryRestart s3 ((o - 0x400) / 64) else s3 := by
  simp only [plainWrite, hreg, hkey, rwsPut, Bool.and_eq_true, decide_eq_true_eq]
theorem plainWrite_none {s : State} {u o : Nat} (h : regAt u o = none ∨ viewKey s u o = none) (v : Word) : plainWrite s u o v = s := by
  rcases h with h | h
  · simp [plainWrite, h]
  · cases hreg : regAt u o <;> simp [plainWrite, hreg, h]

/-- The 32 bits that a 64-bit value carries are those put in. -/
theorem ofNat_toNat_64 (w : Word) : BitVec.ofNat 32 (BitVec.ofNat 64 w.toNat).toNat = w := by
  apply BitVec.eq_of_toNat_eq
  have hlt := w.isLt
  rw [BitVec.toNat_ofNat, BitVec.toNat_ofNat, Nat.mod_eq_of_lt (by omega), Nat.mod_eq_of_lt (by omega)]

/-! ### What a register answers to a read -/

/-- No bit of a header is left open by the spec. -/
theorem freeBits_header {u o : Nat} (ho : o < 0x100) (s : State) : freeBits s u o = 0#32 := by
  have h100 : o ≠ 0x100 := by omega
  have h124 : o ≠ 0x124 := by omega
  have h128 : o ≠ 0x128 := by omega
  have h130 : o ≠ 0x130 := by omega
  have h500 : ¬ 0x500 ≤ o := by omega
  simp [freeBits, h100, h124, h128, h130, h500]

theorem readPlain_fixed {s : State} {u o : Nat} (h : freeBits s u o = 0#32) (av : Bool) :
    readPlain s u o av = { s with rdata := BitVec.ofNat 64 (wordOf s u o av).toNat } := if_pos h

theorem readWord_header {u o : Nat} (hu : u ≤ 44) (hhdr : inHdr u o = true) (s : State) (c : Ctx) :
    readWord s c u o = { s with rdata := BitVec.ofNat 64 (hdrWord s u o).toNat } := by
  have hlt : u < 64 := by omega
  have ho : o < 0x100 := by simpa [inHdr, hlt] using hhdr
  have hword : wordOf s u o false = hdrWord s u o := by simp [wordOf, hhdr, hlt]
  rw [readWord, if_pos hhdr, readPlain_fixed (freeBits_header ho s), hword]

/-- A register that no rule of its own covers answers its word, and its RC bits clear. -/
theorem readWord_plain {s : State} {u o : Nat} {d : RegDef} (hplain : plainRead u o = true) (hhdr : inHdr u o = false)
    (hreg : regAt u o = some d) (hfixed : freeBits s u o = 0#32) (c : Ctx) :
    readWord s c u o = if d.rc = 0 then { s with rdata := BitVec.ofNat 64 (wordOf s u o false).toNat }
      else setReg { s with rdata := BitVec.ofNat 64 (wordOf s u o false).toNat } u o (reg s u o &&& ~~~BitVec.ofNat 32 d.rc) := by
  simp only [plainRead, Bool.not_eq_true', Bool.or_eq_false_iff, decide_eq_false_iff_not] at hplain
  obtain ⟨⟨⟨⟨⟨⟨⟨⟨hptp, hgrot⟩, hintg⟩, hgal⟩, hgrp⟩, hecho⟩, hlant⟩, hbist⟩, hflow⟩ := hplain
  have hstat : ¬ (decide (u = lGAL) && decide (0x200 ≤ o) && decide (o < 0x400) && decide (o % 0x40 = 0x34)) = true := by
    simpa [and_assoc] using hgal
  rw [readWord, if_neg (ne_true_of_eq_false hhdr), if_neg hptp, if_neg (fun h => hgrot ⟨h.1, .inl h.2⟩),
    if_neg (fun h => hgrot ⟨h.1, .inr h.2⟩), if_neg hintg, if_neg hstat, if_neg hgrp, if_neg hecho,
    if_neg (fun h => hlant ⟨h.1, .inl h.2⟩), if_neg (fun h => hlant ⟨h.1, .inr h.2⟩), if_neg hbist, readPlain_fixed hfixed,
    rcClear, if_neg (fun h => hflow ⟨h.1, .inl h.2⟩), if_neg (fun h => hflow ⟨h.1, .inr h.2⟩), hreg]
  rfl

/-! ### The counters of Flowstone -/

/-- A read of DROP_CNT answers the number of dropped records, as far as it goes, and clears it. -/
theorem readWord_dropCnt (s : State) (c : Ctx) : readWord s c lFLOW 0x12C =
    { s with rdata := BitVec.ofNat 64 (min s.flow.dropCnt 0xFFFFFFFF), flow := { s.flow with dropCnt := 0 } } := by
  have hword : wordOf s lFLOW 0x12C false = BitVec.ofNat 32 (min s.flow.dropCnt 0xFFFFFFFF) := wordOf_view rfl rfl rfl rfl rfl false
  have hlt : min s.flow.dropCnt 0xFFFFFFFF < 2 ^ 32 := by omega
  have hread : readWord s c lFLOW 0x12C = rcClear (readPlain s lFLOW 0x12C false) lFLOW 0x12C := rfl
  rw [hread, readPlain_fixed rfl, hword, BitVec.toNat_ofNat, Nat.mod_eq_of_lt hlt]
  rfl

/-- A read of BAD_CNT answers the number of damaged records, as far as it goes, and clears it. -/
theorem readWord_badCnt (s : State) (c : Ctx) : readWord s c lFLOW 0x130 =
    { s with rdata := BitVec.ofNat 64 (min s.flow.badCnt 0xFFFFFFFF), flow := { s.flow with badCnt := 0 } } := by
  have hword : wordOf s lFLOW 0x130 false = BitVec.ofNat 32 (min s.flow.badCnt 0xFFFFFFFF) := wordOf_view rfl rfl rfl rfl rfl false
  have hlt : min s.flow.badCnt 0xFFFFFFFF < 2 ^ 32 := by omega
  have hread : readWord s c lFLOW 0x130 = rcClear (readPlain s lFLOW 0x130 false) lFLOW 0x130 := rfl
  rw [hread, readPlain_fixed rfl, hword, BitVec.toNat_ofNat, Nat.mod_eq_of_lt hlt]
  rfl

/-- What may read the registers of a page may read each of them. -/
theorem mayRead_of_mayRd {s : State} {c : Ctx} {u : Nat} (h : mayRd s c u = true) (o : Nat) :
    reaches s c u = true ∧ mayRead s c ⟨u, o, false⟩ = true := by
  simp only [mayRd, Bool.and_eq_true] at h
  obtain ⟨hreach, hmay⟩ := h
  simp only [Bool.or_eq_true] at hmay
  refine ⟨hreach, ?_⟩
  simp only [mayRead, Bool.or_eq_true]
  exact .inl (hmay.imp_left .inr)

/-- A 32-bit read of a register of Flowstone by its address. -/
theorem exec_rcCounterRead_flow {s : State} {c : Ctx} {a : Word} {o : Nat} (ha : a.toNat = 0x40000000 + rk lFLOW o)
    (ho : o = 0x12C ∨ o = 0x130) (hmay : mayRd s c lFLOW = true) :
    exec (.rcCounterRead c a false) s = .next (settle (readWord { s with rdata := 0#64 } c lFLOW o)) := by
  obtain ⟨hreach, hmay⟩ := mayRead_of_mayRd hmay o
  have hplace : placeOf (a.toNat - 0x40000000) = some ⟨lFLOW, o, false⟩ ∧ a.toNat % 4 = 0 ∧ a.toNat < 0x40120000 := by
    rw [ha]
    rcases ho with rfl | rfl <;> decide
  obtain ⟨hp, halign, hhi⟩ := hplace
  exact congrArg done (busRead_word (by omega) hhi hp hreach halign hmay rfl)

/-! ### The windows of INTG and GAL -/

theorem linWrite_key {s : State} {k : Nat} (hk : linKey s = some k) (v : Word) :
    linWrite s v = linNext (if liveOn s lINTG then liveWrite s lINTG k v else stage s k v) := by
  simp [linWrite, hk, rwsPut]
theorem linWrite_none {s : State} (hk : linKey s = none) (v : Word) : linWrite s v = linNext s := by
  simp [linWrite, hk]
theorem linRead_eq (s : State) :
    linRead s = linNext { s with rdata := BitVec.ofNat 64 ((linKey s).elim 0 (fun k => (stagedAt s k).toNat)) } := by
  cases hk : linKey s <;> simp [linRead, answer, hk]

/-- A write of DST_s with DRY = 1 starts the dry run, one with DRY = 0 ends it. -/
theorem dstWrite_dry {s : State} {v : Word} (h : bit v 16 = true) (n : Nat) :
    dstWrite s n v = dryStart (rwsPut (rset s (rk lGAL (0x140 + 4 * n)) (maskMerge 0x10000#32 (rget s (rk lGAL (0x140 + 4 * n))) v)) lGAL
      (rk lGAL (0x140 + 4 * n)) (v &&& 0x87FF#32)) n := if_pos h
theorem dstWrite_end {s : State} {v : Word} (h : bit v 16 = false) (n : Nat) :
    dstWrite s n v = setDry (rwsPut (rset s (rk lGAL (0x140 + 4 * n)) (maskMerge 0x10000#32 (rget s (rk lGAL (0x140 + 4 * n))) v)) lGAL
      (rk lGAL (0x140 + 4 * n)) (v &&& 0x87FF#32)) n {} := if_neg (ne_true_of_eq_false h)

theorem bit_or_16 (v : Word) : bit (v ||| 0x10000#32) 16 = true := by simp [bit]
theorem bit_andNot_16 (v : Word) : bit (v &&& ~~~0x10000#32) 16 = false := by simp [bit]

/-- A page is in LIVE mode whatever its registers hold. -/
theorem rwsPut_rset (s : State) (j u k : Nat) (w v : Word) :
    rwsPut (rset s j w) u k v = if liveOn s u then liveWrite (rset s j w) u k v else stage (rset s j w) k v := rfl

/-- Settles O35: an access goes where its address leads, and each register does what its line of the page map says. -/
theorem accessCommandsComplete : Obligations.AccessCommandsComplete := by
  unfold Obligations.AccessCommandsComplete
  refine ⟨fun s c a v w p hlo hhi hp hreach hav => ⟨fun halign => ⟨?_, ?_⟩, fun hwidth => ?_, fun hwidth => ?_, fun halign => ⟨?_, ?_⟩⟩,
    fun s c u o v hreach hhdr => ⟨fun t h => ?_, fun h howner => ?_, fun d k h howner hreg hkey => ?_, fun h howner hnone => ?_⟩,
    fun s c u o v hhdr => ?_,
    fun s u k v hstg hpend hunit hv hok => ?_,
    fun s c a v w p hlo hhi hp hreach hav halign => ⟨fun howner => ⟨?_, ?_⟩, fun howner => ⟨?_, ?_⟩⟩,
    fun s c a v b w hpath => ⟨?_, ?_⟩,
    fun s c a w p hlo hhi hp hreach => ?_,
    fun s c a w hlo hhi hpath hp => ?_,
    fun s c a p hlo hhi hp hreach => ?_,
    fun s c u o d hplain hhdr hreg hfixed => ?_,
    fun s c u o hu hhdr => ?_,
    fun s c a ha hmay => ?_,
    fun s c a ha hmay => ?_,
    fun s c v howns => ⟨fun k hk => ?_, fun hk => ?_⟩,
    fun s c v hmay => ?_,
    fun s c n v howns => ?_,
    fun s x r hx hon => ?_,
    fun s x r hx hoff haon => ?_⟩
  · exact congrArg done (busWrite_word hlo hhi hp hreach halign hav v)
  · exact congrArg done ((busWrite_word hlo hhi hp hreach halign hav _).trans (congrArg _ (ofNat_toNat_64 w)))
  · exact congrArg done (busWrite_wide hlo hhi hp hreach hwidth hav v)
  · exact congrArg done (busWrite_badWidth hlo hhi hp hreach hwidth v)
  · exact congrArg done (busWrite_badWidth hlo hhi hp hreach (widthOk_eq_false (.inl ⟨rfl, halign⟩)) v)
  · exact congrArg done (busWrite_badWidth hlo hhi hp hreach (widthOk_eq_false (.inl ⟨rfl, halign⟩)) _)
  · exact writeWord_special hhdr h
  · exact (writeWord_plain hhdr h).trans (ownerWrite_other hreach howner _ _)
  · exact (writeWord_plain hhdr h).trans ((ownerWrite_owns (owns_of_reaches hreach howner) _ _).trans (plainWrite_reg hreg hkey v))
  · exact (writeWord_plain hhdr h).trans ((ownerWrite_owns (owns_of_reaches hreach howner) _ _).trans (plainWrite_none hnone v))
  · exact if_pos hhdr
  · exact liveWrite_sole hstg hunit hv hok hpend
  · exact congrArg done ((busWrite_activeView hlo hhi hp hreach halign hav _).trans (if_pos howner))
  · exact congrArg done ((busWrite_activeView hlo hhi hp hreach halign hav _).trans (if_pos howner))
  · exact congrArg done ((busWrite_activeView hlo hhi hp hreach halign hav _).trans (if_neg howner))
  · exact congrArg done ((busWrite_activeView hlo hhi hp hreach halign hav _).trans (if_neg howner))
  · exact congrArg done (busWrite_closed hpath _ _ _)
  · exact congrArg done (busWrite_closed hpath _ _ _)
  · have hreach' : reaches (if w then s else { s with rdata := 0#64 }) c p.unit = true := by cases w <;> exact hreach
    exact congrArg done (busPlace_reaches hlo hhi hp hreach' _ _)
  · have hpath' : pathOk (if w then s else { s with rdata := 0#64 }) c = true := by cases w <;> exact hpath
    exact congrArg done (busPlace_unmapped hlo hhi hpath' hp _ _)
  · exact ⟨fun halign hmay hav => congrArg done (busRead_word hlo hhi hp hreach halign hmay hav),
      fun halign hmay hav => congrArg done (busRead_activeView hlo hhi hp hreach halign hmay hav),
      fun hwidth hmay htime => congrArg done (busRead_wide hlo hhi hp hreach hwidth hmay htime),
      fun halign hmay => congrArg done (busRead_masked hlo hhi hp hreach halign hmay)⟩
  · exact readWord_plain hplain hhdr hreg hfixed c
  · exact readWord_header hu hhdr s c
  · rw [exec_rcCounterRead_flow ha (.inl rfl) hmay, readWord_dropCnt]
  · rw [exec_rcCounterRead_flow ha (.inr rfl) hmay, readWord_badCnt]
  · exact done_ownerWrite howns (linWrite_key hk v)
  · exact done_ownerWrite howns (linWrite_none hk v)
  · exact congrArg done ((readAccess_may hmay _ _).trans (linRead_eq _))
  · exact ⟨done_ownerWrite howns ((dstWrite_dry (bit_or_16 v) _).trans (congrArg (dryStart · _) (rwsPut_rset _ _ _ _ _ _))),
      done_ownerWrite howns ((dstWrite_end (bit_andNot_16 v) _).trans (congrArg (setDry · _ _) (rwsPut_rset _ _ _ _ _ _)))⟩
  · exact exec_crossingArrival_on hx hon
  · rw [exec_crossingArrival_off hx hoff]
    exact congrArg (fun t => Host.Outcome.next (settle t)) (dropAbsent_aon (s := { s with xing := r }) haon _)

end Sys2Proof.Machine
end

section
/-! PROOFS. Accesses that arrive as messages: network management, the service port and the QSPI ports (R381 to R383, R409 to R411). -/
namespace Sys2Proof.Machine

/-! ### Requests of network management -/

section
variable {s : State} {svc : Bool} {typ : Nat} {b : MgmtMsg} (hserved : mgmtServed s svc = true) (hform : requestOk b typ = true)
include hserved hform

/-- A request without a failed check that reaches outside the register space is answered RANGE. -/
theorem mgmtRequest_range (hpass : requestFails s svc b = [])
    (hout : msgField b 4 4 < 0x40000000 ∨ 0x40120000 < msgField b 4 4 + 4 * msgField b 2 2) (peer : BitVec 48) :
    mgmtRequest s svc peer typ b = respond s svc peer 4 b [] := by
  simp only [mgmtRequest, hserved, hform, hpass]
  exact if_pos hout

/-- One failed check answers its status, counts and raises its interrupt. -/
theorem mgmtRequest_fails {f : Nat} (hfail : requestFails s svc b = [f]) (peer : BitVec 48) :
    mgmtRequest s svc peer typ b = raise (countUp (respond { s with fresh := s.fresh + 1 } svc peer f b []) lNET 0x148 0 32) lNET 2 := by
  have hpick (n : Nat) : [f].getD (n % 1) f = f := by rw [Nat.mod_one]; rfl
  simp only [mgmtRequest, hserved, hform, hfail]
  exact congrArg (fun x => raise (countUp (respond { s with fresh := s.fresh + 1 } svc peer x b []) lNET 0x148 0 32) lNET 2) (hpick _)

variable {m : MgmtSess} (hsess : mgmtSess s svc = some m) (hpass : requestFails s svc b = []) (hlo : 0x40000000 ≤ msgField b 4 4)
  (hhi : msgField b 4 4 + 4 * msgField b 2 2 ≤ 0x40120000)
include hsess hpass hlo hhi

/-- A request that passes moves its session on, then makes its accesses and answers. -/
theorem mgmtRequest_passes (peer : BitVec 48) :
    mgmtRequest s svc peer typ b =
      let t := setSess s svc { m with ctr := some (msgField b 8 8), peer := some peer }
      if typ = 3 then respond (readWords t (mgmtCtx svc) (msgField b 4 4) (msgField b 2 2)).1 svc peer 0 b
        (readWords t (mgmtCtx svc) (msgField b 4 4) (msgField b 2 2)).2
      else respond (writeWords t (mgmtCtx svc) (msgField b 4 4) (wordsOf (msgField b 2 2) (b.drop 32))) svc peer 0 b [] := by
  have hin : ¬ (msgField b 4 4 < 0x40000000 ∨ 0x40120000 < msgField b 4 4 + 4 * msgField b 2 2) := by omega
  simp only [mgmtRequest, hserved, hform, hpass, hsess]
  exact if_neg hin
end

/-! ### The QSPI ports -/

/-- A READ answers its words, or that one of them faulted. -/
theorem exec_qspiRead {s : State} {p : BitVec 1} {n : Nat} (hpath : pathOk s (qspiCtx p) = true) (hn : n < 64) (a : BitVec 40) {t : State} :
    (∀ b, qspiGets s p a 0 (if n = 0 then 64 else n) = (t, some b) →
      exec (.qspiRead p a n) s = .next (settle { t with out := t.out ++ [.qspi p.toNat (0x5A#8 :: b)] })) ∧
    (qspiGets s p a 0 (if n = 0 then 64 else n) = (t, none) →
      exec (.qspiRead p a n) s = .next (settle { qspiErr t p 3 with out := t.out ++ [.qspi p.toNat [0xE1#8]] })) := by
  have hopen : ¬ (!pathOk s (qspiCtx p)) = true := by simp [hpath]
  constructor
  · intro b h
    refine (if_neg (by omega)).trans (congrArg done ((if_neg hopen).trans ?_))
    rw [h]
  · intro h
    refine (if_neg (by omega)).trans (congrArg done ((if_neg hopen).trans ?_))
    rw [h]

/-- Settles O36: a message that is served does what its type says, and a QSPI command what its opcode says. -/
theorem remoteCommandsComplete : Obligations.RemoteCommandsComplete := by
  unfold Obligations.RemoteCommandsComplete
  refine ⟨fun s svc peer hserved => ?_,
    fun s svc peer b m hserved hform hsess hpass hlo hhi => ?_,
    fun s svc peer b m hserved hform hsess hpass hlo hhi => ?_,
    fun s svc peer b f hserved hfail => ⟨fun hform => ?_, fun hform => ?_⟩,
    fun s m peer hserved hpend htold hsess hpeer => ?_,
    fun s svc peer b hserved hpass hout => ⟨fun hform => ?_, fun hform => ?_⟩,
    fun s p a b hpath hlen halign => ?_,
    fun s p a n t b hpath hone hn h => ?_,
    fun s p a t b hpath h => ?_,
    fun s p a n t hpath hone hn h => ?_,
    fun s p hpath => ?_,
    fun s p op hwrite hread hstatus hpath herr => ?_⟩
  · exact congrArg done (if_pos hserved)
  · exact congrArg done (mgmtRequest_passes hserved hform hsess hpass hlo hhi peer)
  · exact congrArg done (mgmtRequest_passes hserved hform hsess hpass hlo hhi peer)
  · exact congrArg done (mgmtRequest_fails hserved hform hfail peer)
  · exact congrArg done (mgmtRequest_fails hserved hform hfail peer)
  · refine congrArg done ((if_pos (by simp [hserved, hpend, htold])).trans ?_)
    rw [hsess]
    dsimp only
    rw [hpeer]
    rfl
  · exact congrArg done (mgmtRequest_range hserved hform hpass hout peer)
  · exact congrArg done (mgmtRequest_range hserved hform hpass hout peer)
  · have hopen : ¬ (!pathOk s (qspiCtx p)) = true := by simp [hpath]
    refine congrArg done ((if_neg hopen).trans ?_)
    rw [Nat.min_eq_left hlen]
    simp [Nat.not_lt.mpr hlen, halign]
  · exact (exec_qspiRead hpath hn a).1 b (by rwa [if_neg (by omega)])
  · exact (exec_qspiRead hpath (n := 0) (by decide) a).1 b h
  · exact (exec_qspiRead hpath hn a).2 (by rwa [if_neg (by omega)])
  · exact congrArg done (if_neg (by simp [hpath]))
  · exact (if_neg (by simp [hwrite, hread, hstatus])).trans (congrArg done ((if_pos hpath).trans (if_pos herr)))

end Sys2Proof.Machine
end

section
/-! PROOFS. The configuration load and the release of the outputs (R48 to R53). -/
namespace Sys2Proof.Machine

/-- Module-wide release may take place where start-up has loaded the configuration, it has not yet, and the module is not degraded. -/
theorem releaseDue_iff (s : State) : releaseDue s = true ↔
    (s.pwr.phase = .boot ∨ s.pwr.phase = .run) ∧ s.pwr.cfgLoaded = true ∧ s.pwr.released = false ∧ s.pwr.degraded = false := by
  simp [releaseDue, and_assoc]

/-- Outputs are released once. -/
theorem releaseDue_released {s : State} (h : s.pwr.released = true) : releaseDue s = false := by simp [releaseDue, h]

/-- Settles O37: each step of the start-up does its work where its conditions hold, and a second release does nothing. -/
theorem startupCommandsComplete : Obligations.StartupCommandsComplete := by
  unfold Obligations.StartupCommandsComplete
  refine ⟨fun s d w en hlo hhi hphase hsafe hwiped hloaded himage hconfig => ?_,
    fun s hphase hloaded hheld hsound hfirst => ?_,
    fun s hphase hloaded hheld hsound hdeadline => ?_,
    fun s hreleased => ⟨?_, ?_⟩⟩
  · exact (if_neg (by omega)).trans (congrArg done (if_pos ⟨hphase, hsafe, hwiped, hloaded, himage, hconfig⟩))
  · have hdue := (releaseDue_iff s).mpr ⟨hphase, hloaded, hheld, hsound⟩
    exact congrArg done (if_pos (by simp [hdue, hfirst]))
  · have hdue := (releaseDue_iff s).mpr ⟨hphase, hloaded, hheld, hsound⟩
    exact congrArg done (if_pos (by simp [hdue, hdeadline]))
  · exact congrArg done (if_neg (by simp [releaseDue_released hreleased]))
  · exact congrArg done (if_neg (by simp [releaseDue_released hreleased]))

end Sys2Proof.Machine
end
